-- ==== Sys2Proof/Word.lean ====
section
/-! DEFINITION. The byte of the show loop and of the part's records. -/

namespace Sys2Proof

/-- One byte of the loop line, of a record, or of a step's fields (11 section 11.1). -/
abbrev Byte := BitVec 8

end Sys2Proof
end

