-- ==== Sys2Proof/Syntax.lean ====
section
/-! DEFINITION. The commands of the part: one constructor of `Instr` for each row of spec/opcode_table.json,
with the operands that the rules give the row. -/

namespace Sys2Proof

/-- What a frame on LOOP IN carries beside its payload, and how its bytes come (R2, R3).
A frame may come in more than one command, so that other events can fall between its bytes:
`skip` bytes of it (counting SYNC) have come before, and `take` of the rest (`none`: all) come in this command; `bits` bit times
of the byte that follows them pass in it as well, so that an event can fall inside a byte (R17). -/
structure Frame where
  /-- bit times LOOP IN is idle before the first byte of this command (R1) -/
  gap : Nat
  /-- bytes of the frame that came in earlier commands -/
  skip : Nat
  /-- how many further bytes come in this command; `none` for all the rest -/
  take : Option Nat
  /-- bit times of the next byte on LOOP IN that pass in this command; its value comes with a later one (R1, R17) -/
  bits : Nat
  target : Byte
  origin : Byte
  hop : Byte
  check : Byte
  /-- the two bytes received as RESULT trailer (COMMAND and LOAD frames only) -/
  result : Byte
  resultComplement : Byte
  deriving DecidableEq, Repr

/-- The six pendant keys, in the order of their codes (R158). -/
inductive Key where
  | fwd | rev | focusIn | focusOut | hold | dark
  deriving DecidableEq, Repr

/-- The four readings of the TRAY CODE contacts (R51). -/
inductive TrayCode where
  | none | slots84 | slots120 | invalid
  deriving DecidableEq, Repr

/-- The strap pins as they stand when they are latched (R161). -/
structure Straps where
  station : BitVec 5
  deckFitted : Bool
  cueMaster : Bool
  deriving DecidableEq, Repr

/-- The input levels the part reads when a reset is taken (R112, R123, R173). -/
structure Readings where
  cutoutOpen : Bool
  cassette : Bool
  mainsWarn : Bool
  deriving DecidableEq, Repr

/-- The six KEYS samples of one key scan, `true` for pressed (R153). -/
structure KeySamples where
  fwd : Bool
  rev : Bool
  focusIn : Bool
  focusOut : Bool
  hold : Bool
  dark : Bool
  deriving DecidableEq, Repr

/-- The commands, in the order of spec/opcode_table.json. -/
inductive Instr where
  /-- CUE_FRAME (R35) -/
  | cueFrame (f : Frame) (payload : List Byte)
  /-- POLL (R180) -/
  | poll (f : Frame) (payload : List Byte)
  /-- QUERY (R185) -/
  | query (f : Frame) (payload : List Byte)
  /-- LOAD (R28) -/
  | load (f : Frame) (payload : List Byte)
  /-- REMOTE_FRAME (R12) -/
  | remoteFrame (f : Frame) (payload : List Byte)
  /-- ASSIGN (R19) -/
  | assign (f : Frame) (payload : List Byte)
  /-- UNKNOWN_KIND (R11) -/
  | unknownKind (f : Frame) (kind : Byte) (payload : List Byte)
  /-- BROKEN_BYTE (R1); how long the line stays at the space level after it is a free value (log 34). -/
  | brokenByte
  /-- FRAME_ENDED_EARLY (R2): LOOP IN stays idle for more than one byte time. -/
  | frameEndedEarly
  /-- LENGTH_ABOVE_32 (R9): a frame of the given kind whose LENGTH byte is `length`, and the bytes that follow it. -/
  | lengthAbove32 (f : Frame) (kind : Byte) (length : Byte) (following : List Byte)
  /-- STRAY_BYTE_RUN (R2): `gap` bit times of idle, the bytes of the run, then two byte times of idle. -/
  | strayByteRun (gap : Nat) (bytes : List Byte)
  /-- ORIGINATED_FRAME_START (R17), after `idle` bit times without a byte on LOOP IN. -/
  | originatedFrameStart (idle : Nat)
  /-- DELAY_BUFFER_SEND (R18): `idle` bit times pass without a byte on LOOP IN. -/
  | delayBufferSend (idle : Nat)
  /-- LOOP_SILENCE_EXPIRY (R21) -/
  | loopSilenceExpiry
  /-- STEP (R43); the bytes after the command code -/
  | step (f : Frame) (args : List Byte)
  /-- HOLD (R166) -/
  | hold (f : Frame) (args : List Byte)
  /-- RESUME (R166) -/
  | resume (f : Frame) (args : List Byte)
  /-- COMMIT (R31) -/
  | commit (f : Frame) (args : List Byte)
  /-- CONFIG_SET (R171) -/
  | configSet (f : Frame) (args : List Byte)
  /-- CONFIG_CLOSE (R165) -/
  | configClose (f : Frame) (args : List Byte)
  /-- STANDBY (R167) -/
  | standby (f : Frame) (args : List Byte)
  /-- WAKE (R169) -/
  | wake (f : Frame) (args : List Byte)
  /-- ACK (R182) -/
  | ack (f : Frame) (args : List Byte)
  /-- ATTN_SET (R179) -/
  | attnSet (f : Frame) (args : List Byte)
  /-- CLEAR_COUNTERS (R187) -/
  | clearCounters (f : Frame) (args : List Byte)
  /-- RESET (R172) -/
  | reset (f : Frame) (args : List Byte)
  /-- LOOP_RESET (R173) -/
  | loopReset (r : Readings)
  /-- POWER_ON (R174) -/
  | powerOn (st : Straps) (r : Readings)
  /-- PIN_RESET_ASSERT (R173) -/
  | pinResetAssert
  /-- PIN_RESET (R173): the pin is released. -/
  | pinReset (st : Straps) (r : Readings)
  /-- SHOW_TICK (R46) -/
  | showTick
  /-- SCHEDULED_RECORD_DUE (R47) -/
  | scheduledRecordDue
  /-- MIRROR_COMPLETE (R32) -/
  | mirrorComplete
  /-- TRAY_CODE_CHANGE (R51): a reading that has held for 20 ms. -/
  | trayCodeChange (code : TrayCode)
  /-- MOVE_START (R58) -/
  | moveStart
  /-- DARK_WAIT_TIMEOUT (R59) -/
  | darkWaitTimeout
  /-- CLOSE_PHASE_END (R63), with what CAM MID reads as LIFT begins -/
  | closePhaseEnd (camMidClosed : Bool)
  /-- CAM_MID (R63) -/
  | camMid
  /-- LIFT_TIMEOUT (R70) -/
  | liftTimeout
  /-- INDEX_PULSE (R64) -/
  | indexPulse
  /-- INDEX_TIMEOUT (R64) -/
  | indexTimeout
  /-- HOMING_PASS_LIMIT (R64): the index pulse that reaches the limit -/
  | homingPassLimit
  /-- HOME_MARK (R65) -/
  | homeMark
  /-- CAM_HOME (R66) -/
  | camHome
  /-- DROP_TIMEOUT (R70) -/
  | dropTimeout
  /-- SETTLE_END (R66) -/
  | settleEnd
  /-- LAMP_TICK (R86), with what LAMP CURRENT reads -/
  | lampTick (current : Bool)
  /-- LAMP_RAMP_END (R86): the lamp tick that ends the ramp -/
  | lampRampEnd (current : Bool)
  /-- LAMP_FAILED (R97): the lamp tick without current that brings the failure count to its limit -/
  | lampFailed
  /-- COOLING_TICK (R104): the tenth lamp tick, with its hand-off -/
  | coolingTick (current : Bool)
  /-- FAN_TACH_PULSE (R109) -/
  | fanTachPulse
  /-- TACH_GATE_END (R109) -/
  | tachGateEnd
  /-- SPIN_UP_ELAPSED (R110) -/
  | spinUpElapsed
  /-- CUTOUT_CHANGE (R112): a level that has held for 20 ms -/
  | cutoutChange (opened : Bool)
  /-- CASSETTE_CHANGE (R123): a level that has held for 20 ms -/
  | cassetteChange (present : Bool)
  /-- BRAKE_TIMER_EXPIRY (R125) -/
  | brakeTimerExpiry
  /-- REEL_PULSE (R129) -/
  | reelPulse
  /-- REEL_SILENCE_EXPIRY (R131) -/
  | reelSilenceExpiry
  /-- DECODER_GATE_OPEN (R133) -/
  | decoderGateOpen
  /-- SOUND_TICK (R136) -/
  | soundTick
  /-- SOUND_RAMP_END (R136): the sound tick that ends the ramp -/
  | soundRampEnd
  /-- TAPE_WORD (R144): the samples of a word in READING up to its end, with the bits they read -/
  | tapeWord (data : Byte) (parity : Bool) (stop : Bool)
  /-- CANDIDATE_EXPIRY (R148) -/
  | candidateExpiry
  /-- GUARD_EXPIRY (R146) -/
  | guardExpiry
  /-- BURST_END (R149): the third non-MARK sample in a row in BURST -/
  | burstEnd
  /-- BURST_LIMIT (R149): the 525th MARK sample of a burst -/
  | burstLimit
  /-- SPENT_END (R149): the third non-MARK sample in a row in SPENT -/
  | spentEnd
  /-- KEY_PRESS (R156): a press is recognized. -/
  | keyPress (k : Key)
  /-- KEY_RELEASE (R155): a release is recognized. -/
  | keyRelease (k : Key)
  /-- FOCUS_RUN_LIMIT (R160) -/
  | focusRunLimit
  /-- CONFIG_WINDOW_EXPIRY (R164) -/
  | configWindowExpiry
  /-- STANDBY_CONDITION (R168) -/
  | standbyCondition
  /-- MAINS_WARN_ASSERT (R175) -/
  | mainsWarnAssert
  /-- RETAINED_WRITE_END (R176) -/
  | retainedWriteEnd
  /-- MAINS_WARN_DEASSERT (R177) -/
  | mainsWarnDeassert
  /-- BROWNOUT_RESTART (R177) -/
  | brownoutRestart (st : Straps) (r : Readings)
  /-- CUE_TRACK_SAMPLE (R142), with the microseconds since the last period completed -/
  | cueTrackSample (age : Nat)
  /-- CUE_TRACK_PERIOD (R141): a rising crossing, with the whole microseconds since the one before -/
  | cueTrackPeriod (micros : Nat)
  /-- KEY_SCAN (R153), with the order in which the events it recognizes are taken -/
  | keyScan (samples : KeySamples) (order : List Key)
  /-- SUPPLY_FALL (R176) -/
  | supplyFall
  /-- UNKNOWN_COMMAND_CODE (R172): the whole payload -/
  | unknownCommandCode (f : Frame) (payload : List Byte)
  deriving DecidableEq, Repr

end Sys2Proof
end

