-- ==== Sys2Proof/Config.lean ====
section
/-! DEFINITION. The constants the manual fixes for every LW340, and the free values it leaves open. -/

namespace Sys2Proof.Config

/-- SYNC, the first byte of every frame (R2). -/
def sync : Byte := 0xD4#8

/-- The check polynomial of R188. -/
def crcPoly : Byte := 0x9B#8

/-- The starting value of the check register (R188). -/
def crcStart : Byte := 0xFF#8

/-- A byte time, in bit times (R1). -/
def byteTime : Nat := 10

/-- The idle time that must go before a SYNC, that ends a run of stray bytes, and that LOOP OUT leaves before a frame, in bit
times (R2, R17, R18). -/
def frameGap : Nat := 20

/-- The longest payload (R3). -/
def maxLength : Nat := 32

/-- Capacity of the delay buffer (R18). -/
def delayCapacity : Nat := 48

/-- Capacity of the origination queue (R15). -/
def originationCapacity : Nat := 4

/-- Capacity of the scheduled step list (R44). -/
def scheduleCapacity : Nat := 32

/-- Entries of a cue index (R23). -/
def indexEntries : Nat := 239

/-- Steps of a step pool (R23). -/
def poolSteps : Nat := 480

/-- Points of the dissolve curve (R92). -/
def curvePoints : Nat := 17

/-- Full drive, the top of the drive range (R90). -/
def fullDrive : Nat := 1023

/-- The top of the brightness position (R83). -/
def fullPosition : Nat := 4096

/-- The highest brightness position that counts as dark (R98). -/
def darkPosition : Nat := 64

/-- The failure count at which the lamp enters FAILED (R96). -/
def failureLimit : Nat := 20

/-- The drive output from which the failure test applies (R96). -/
def failureDrive : Nat := 100

/-- The top of a counter, of H, of a detail and of the tape counter (R187, R105, R178, R129). -/
def top16 : Nat := 65535

/-- The volume taken at a power-on without a valid record (R139). -/
def defaultVolume : Nat := 20

/-- DESIGN CHOICE (log 6). FREE VALUE: how far the mirror has come when it is looked at for the n-th time.
R32 gives the order in which the mirror copies and a bound of 3 ms on the whole, and no pace. -/
opaque mirrorProgress : Nat → Nat

/-- DESIGN CHOICE (log 12). FREE VALUE: whether, at the n-th entry into COOLING_DOWN or MAINS_LOSS, the Lamp Engine takes the
new station state before the Transport does. R163 says that the blocks take it in no order among themselves. -/
opaque lampToldFirst : Nat → Bool

/-- DESIGN CHOICE (log 12). FREE VALUE: whether, at the n-th such entry, a lamp that goes OFF at the entry into COOLING_DOWN is told to
the Cooling Controller before the new station state is. R163 says that the blocks take it in no order among themselves. -/
opaque lampToldBeforeFan : Nat → Bool

/-- DESIGN CHOICE (log 41). FREE VALUE: whether, at the n-th LAMP_TICK at which the failure limit and the hand-off to the Cooling
Controller fall together, the hand-off is taken first. R94 says that either may be. -/
opaque handOverFirst : Nat → Bool

/-- DESIGN CHOICE (log 34). FREE VALUE: for how many bit times the line stays at the space level after the n-th broken byte.
R1 takes a line held at the space level for longer than a byte as one broken byte, and sets no bound. -/
opaque spaceHeld : Nat → Nat

end Sys2Proof.Config
end

