-- ==== Sys2Proof/Machine/State.lean ====
section
/-! DEFINITION. The state of the part, block by block, and the state right after a power-on. -/

namespace Sys2Proof.Machine

open Sys2Proof (Byte Instr Key)

/-! ### Attention Unit (chapter 10) -/

/-- The sixteen attention sources, in code order (10 section 10.1). -/
inductive Source where
  | restarted | thermalTrip | fanStall | cutoutOpen | lampFailed | trayJam | loopSilent | trayChanged
  | trayResync | moveRefused | darkWaitTimeout | thermalDerate | scheduleFull | originationDropped
  | tapeEnd | tapeCueFault
  deriving DecidableEq, Repr

/-- What the Attention Unit keeps of one source (R178, R179). -/
structure SourceRec where
  flag : Bool
  again : Bool
  detail : Nat
  enable : Bool
  high : Bool
  deriving DecidableEq, Repr

/-- The nine counters, in the order of R187. -/
inductive Counter where
  | checkFail | framingFail | unknownKind | cuesIgnored | cuesNotMine | tapeWordError | tapeUnconfirmed
  | originationDrops | notApplicable
  deriving DecidableEq, Repr

/-- The Attention Unit: sources, held source, provisional hold, counters (10, 'holds'). -/
structure Attn where
  sources : Vector SourceRec 16
  held : Option Source
  prov : Option Source
  counters : Vector Nat 9
  deriving DecidableEq, Repr

/-! ### Loop Port (chapter 1) -/

/-- The frame in passage on LOOP IN (R3, R8, R10, R14). -/
structure Passage where
  /-- the bytes received after SYNC -/
  got : List Byte
  rxCheck : Byte
  txCheck : Byte
  stripped : Bool
  /-- bytes still to be written in place of the next payload bytes (R8) -/
  reply : List Byte
  /-- the RESULT the single target writes (R10) -/
  result : Option Byte
  /-- this frame is a RESET that was accepted (R173) -/
  resetTaken : Bool
  deriving DecidableEq, Repr

/-- What LOOP IN is receiving: nothing, a run of stray bytes (and whether its end counts, R2, R9), or a frame. -/
inductive Rx where
  | quiet
  | stray (counts : Bool)
  | frame (p : Passage)
  deriving DecidableEq, Repr

/-- The loop-silence timer (R20, R21). -/
inductive SilenceTimer where
  | stopped | running | expired
  deriving DecidableEq, Repr

/-- A frame in the origination queue (R15). -/
inductive OrigFrame where
  | cue (number : Nat)
  | remote (k : Key)
  deriving DecidableEq, Repr

/-- The receive side of the Loop Port, its numbering, queue and timer. -/
structure LoopPort where
  rx : Rx
  /-- bit times LOOP IN has been idle, counted to 20 (R1, R2) -/
  inIdle : Nat
  /-- bit times that have passed of a byte still arriving on LOOP IN; 0 where none has begun (R1, R17) -/
  bits : Nat
  /-- bit times the line still stays at the space level after a broken byte; 0 for a line that is not held there (R1; log 34) -/
  space : Nat
  position : Byte
  silence : SilenceTimer
  assigned : Option Nat
  provNumber : Option Nat
  origQueue : List OrigFrame
  deriving DecidableEq, Repr

/-- A byte of the delay buffer; `first` marks the SYNC of a frame (R18). -/
structure Delayed where
  byte : Byte
  first : Bool
  deriving DecidableEq, Repr

/-- LOOP OUT, its arbiter and the delay buffer (R4, R17, R18). -/
structure LoopOut where
  buffer : List Delayed
  originating : List Byte
  /-- bit times left of the byte on the line; 0 for an idle line (R1) -/
  left : Nat
  /-- bit times LOOP OUT has been idle, counted to 20 (R17) -/
  idle : Nat
  /-- the frame in passage is ended on the way out (R18) -/
  cut : Bool
  /-- bytes that must have been sent whole before a scheduled loop reset is taken (R173) -/
  resetAhead : Option Nat
  /-- MODEL (log 5): the bytes whose sending began in the last loop command -/
  sent : List Byte
  deriving DecidableEq, Repr

/-! ### Cue Dispatcher (chapter 2) -/

/-- A cue index entry (R23). -/
structure IndexEntry where
  first : Nat
  count : Nat
  deriving DecidableEq, Repr

/-- A step of the pool, as loaded (R23). -/
structure PoolStep where
  verb : Byte
  a : Byte
  b : Byte
  delay : Byte
  deriving DecidableEq, Repr

/-- A cue bank (R23). Cue `n` has index position `n - 1`. -/
structure Bank where
  index : Vector IndexEntry 239
  pool : Vector PoolStep 480
  deriving DecidableEq, Repr

/-- The names of the two banks (R24). -/
inductive BankName where
  | a | b
  deriving DecidableEq, Repr

/-- The eleven verbs, in code order (R25, 11 section 11.4). -/
inductive Verb where
  | nothing | advance | reverse | goto | home | shutter | lamp | lampOff | sound | tape | follow
  deriving DecidableEq, Repr

/-- A record of the scheduled step list (R44). -/
structure Record where
  remaining : Nat
  verb : Verb
  a : Nat
  b : Nat
  cue : Nat
  deriving DecidableEq, Repr

/-- Where a cue came from (R35, R37). -/
inductive CueSource where
  | none | loop | tape | follow
  deriving DecidableEq, Repr

/-- The Cue Dispatcher (02, 'holds'). -/
structure Dispatcher where
  bankA : Bank
  bankB : Bank
  live : BankName
  mirrorBusy : Bool
  /-- MODEL (log 6): entries the mirror in progress is known to have copied -/
  mirrorCopied : Nat
  deferred : Bool
  schedule : List Record
  lastCue : Nat
  lastSource : CueSource
  deriving DecidableEq, Repr

/-! ### Transport (chapter 3) -/

/-- The fitted tray's number of slots (R52). -/
inductive TraySize where
  | none | slots84 | slots120
  deriving DecidableEq, Repr

/-- How far the slot is to be trusted (R52). -/
inductive Certainty where
  | invalid | uncertain | certain
  deriving DecidableEq, Repr

/-- The origin of a step (R42): SHOW or DIRECT. -/
inductive Origin where
  | ofShow | direct
  deriving DecidableEq, Repr

/-- What a move does (R55). -/
inductive MoveKind where
  | step (count : Int)
  | goto (slot : Nat)
  | home
  deriving DecidableEq, Repr

/-- A move record of the queue (R55). -/
structure Move where
  kind : MoveKind
  afterDark : Bool
  waitOver : Bool
  origin : Origin
  deriving DecidableEq, Repr

/-- The phases of a change cycle (R54). -/
inductive Phase where
  | close | lift | index | drop | settle
  deriving DecidableEq, Repr

/-- The transport state (R54). -/
inductive TransportState where
  | noTray | idle
  | cycle (ph : Phase)
  | jammed
  deriving DecidableEq, Repr

/-- Direction of tray travel (R61). -/
inductive Direction where
  | forward | backward
  deriving DecidableEq, Repr

/-- The cycle record (3.5): which kind of move it carries out, and how INDEX runs. -/
structure Cycle where
  isHome : Bool
  dir : Direction
  /-- INDEX is a homing pass: it runs to the home mark (R62) -/
  homing : Bool
  /-- pulses that end a counted INDEX -/
  count : Nat
  /-- pulses counted so far in this pass -/
  counted : Nat
  /-- the target of a GOTO that homes first (R62) -/
  target : Option Nat
  /-- INDEX ends as soon as it begins (R62, HOME from JAMMED at CERTAIN slot 0) -/
  atOnce : Bool
  deriving DecidableEq, Repr

/-- The settling of the tray code contacts (R51). -/
inductive CodeSettling where
  | afterPowerOn | afterReset | settled
  deriving DecidableEq, Repr

/-- The shutter demand (R67). -/
inductive Demand where
  | closed | opened
  deriving DecidableEq, Repr

/-- The Transport (03, 'holds'). -/
structure Transport where
  size : TraySize
  slot : Nat
  certainty : Certainty
  state : TransportState
  cycle : Option Cycle
  /-- a loop reset let this drop finish (R78) -/
  keptDrop : Bool
  queue : List Move
  darkTimer : Bool
  demand : Demand
  settling : CodeSettling
  deriving DecidableEq, Repr

/-! ### Lamp Engine (chapter 4) -/

/-- The lamp states (R79). -/
inductive LampState where
  | off | warming | lit | tripped | failed
  deriving DecidableEq, Repr

/-- A ramp record: the lamp's (R83), and over volumes the sound ramp's (R135).
`start`, `target`, `length`, `count` are p0, T, N, k, and v0, V, N, k. -/
structure Ramp where
  start : Nat
  target : Nat
  length : Nat
  count : Nat
  origin : Origin
  running : Bool
  deriving DecidableEq, Repr

/-- The Lamp Engine (04, 'holds'). -/
structure Lamp where
  state : LampState
  p : Nat
  ramp : Ramp
  lastTarget : Option Nat
  drive : Nat
  slewMem : Nat
  failCount : Nat
  energy : Nat
  ticks : Nat
  curve : Vector Nat 17
  deriving DecidableEq, Repr

/-! ### Cooling Controller (chapter 5) -/

/-- The spin-up timer (R110). -/
inductive SpinUp where
  | cancelled | running | elapsed
  deriving DecidableEq, Repr

/-- The Cooling Controller (05, 'holds'). `heat` is H and `ceiling` is K. -/
structure Cooling where
  heat : Nat
  heatStage : Nat
  fanStage : Nat
  stageChanged : Bool
  spinUp : SpinUp
  gateCount : Nat
  lastTach : Nat
  thermal : Bool
  fanStall : Bool
  cutout : Bool
  ceiling : Nat
  derateArmed : Bool
  cool : Bool
  deriving DecidableEq, Repr

/-! ### Tape Deck Controller (chapter 6) -/

/-- The pending mode of BRAKING with its marks (R125, R132). -/
inductive Pending where
  | stopped | playing | pausedHold | windingFwd
  | windingRev (toZero : Bool)
  deriving DecidableEq, Repr

/-- The coast direction recorded at the entry into BRAKING (R125). -/
inductive Coast where
  | still | forward | backward
  deriving DecidableEq, Repr

/-- The deck states with the marks each carries (R124). -/
inductive DeckState where
  | noCassette | stopped
  | braking (next : Pending) (coast : Coast)
  | playing
  | paused (hold : Bool)
  | windingFwd
  | windingRev (toZero : Bool)
  deriving DecidableEq, Repr

/-- The Tape Deck Controller (06, 'holds'). -/
structure Deck where
  state : DeckState
  counter : Nat
  gateTimer : Bool
  gateOpen : Bool
  volume : Nat
  ramp : Ramp
  deriving DecidableEq, Repr

/-! ### Cue-Track Decoder (chapter 7) -/

/-- The class of a period (R141). -/
inductive PeriodClass where
  | mark | space | neither
  deriving DecidableEq, Repr

/-- The decoder states; STARTING and READING carry the sample position counted from s0 (R140, R143, R149). -/
inductive DecoderState where
  | closed | hunting
  | starting (pos : Nat)
  | reading (pos : Nat)
  | pulseIdle | burst | spent
  deriving DecidableEq, Repr

/-- The Cue-Track Decoder (07, 'holds'). -/
structure Decoder where
  state : DecoderState
  timing : Bool
  lastPeriod : Option PeriodClass
  data : Byte
  parity : Bool
  burst : Nat
  nonMark : Nat
  candidate : Option Byte
  guardWord : Option Byte
  deriving DecidableEq, Repr

/-! ### Remote Scanner (chapter 8) -/

/-- What the Scanner keeps of one key (R153 to R155, R160). -/
structure KeyRec where
  pressed : Bool
  run : Nat
  consumed : Bool
  limited : Bool
  deriving DecidableEq, Repr

/-- The focus drive state (R159). -/
inductive Focus where
  | stopped | inward | outward
  deriving DecidableEq, Repr

/-- The Remote Scanner (08, 'holds'). -/
structure Remote where
  keys : Vector KeyRec 6
  focus : Focus
  deriving DecidableEq, Repr

/-! ### Station Controller (chapter 9) -/

/-- The station states (R163). -/
inductive StationState where
  | configuring | active | coolingDown | standby | mainsLoss
  deriving DecidableEq, Repr

/-- The show state (R163). -/
inductive ShowState where
  | none | running | held
  deriving DecidableEq, Repr

/-- The configuration window timer with its stopped mark (R164). -/
inductive Window where
  | running | stopped | off
  deriving DecidableEq, Repr

/-- The remote policy: LOCAL, RELAY, OFF (R156). -/
inductive RemotePolicy where
  | localKeys | relay | off
  deriving DecidableEq, Repr

/-- The loop silence policy (R21). -/
inductive SilencePolicy where
  | none | hold | dark | holdDark
  deriving DecidableEq, Repr

/-- The tape cue mode (R140). -/
inductive TapeCueMode where
  | word | pulse
  deriving DecidableEq, Repr

/-- The configuration items, in the order of R170. -/
structure Items where
  groupSet : BitVec 16
  remotePolicy : RemotePolicy
  silenceTimeout : Nat
  silencePolicy : SilencePolicy
  tapeCueMode : TapeCueMode
  preheat : Nat
  slew : Nat
  heatGain : Nat
  heatWarn : Nat
  heatMax : Nat
  heatResume : Nat
  heatCool : Nat
  up1 : Nat
  up2 : Nat
  up3 : Nat
  hysteresis : Nat
  duty0 : Nat
  duty1 : Nat
  duty2 : Nat
  duty3 : Nat
  loss0 : Nat
  loss1 : Nat
  loss2 : Nat
  loss3 : Nat
  tach1 : Nat
  tach2 : Nat
  tach3 : Nat
  deriving DecidableEq, Repr

/-- The Station Controller (09, 'holds'). -/
structure Station where
  strapStation : Nat
  strapDeck : Bool
  strapMaster : Bool
  state : StationState
  showState : ShowState
  lock : Bool
  window : Window
  items : Items
  valid : Bool
  /-- the six field bytes read at the power-on (R176) -/
  readRecord : Vector Byte 6
  mainsWarn : Bool
  /-- the write in progress: the six field bytes it will store (R176) -/
  writing : Option (Vector Byte 6)
  deriving DecidableEq, Repr

/-- The retained record memory (R176, 11 section 11.7). -/
structure Retained where
  fields : Vector Byte 6
  check : Byte
  void : Bool
  deriving DecidableEq, Repr

/-- Whether the part has its supply, and whether its RESET pin is asserted (R173). -/
inductive Power where
  | off | held | running
  deriving DecidableEq, Repr

/-! ### The whole part -/

/-- The part: its blocks, its memory, its supply, and the commands that wait. -/
structure State where
  power : Power
  loop : LoopPort
  out : LoopOut
  disp : Dispatcher
  tray : Transport
  lamp : Lamp
  cool : Cooling
  deck : Deck
  dec : Decoder
  remote : Remote
  stn : Station
  retained : Retained
  attn : Attn
  /-- MODEL (log 6): how many open values have been taken -/
  openValues : Nat
  /-- the commands waiting, first in first out -/
  pending : List Instr
  deriving DecidableEq, Repr

/-- No command raises a fault: the manual gives the part no event that stops it for good (log 28). -/
inductive Fault where
  /-- Raised by nobody. Safe. -/
  | neverRaised
  deriving DecidableEq, Repr

/-- Reasons for which a command has no meaning here. -/
inductive Refusal where
  /-- Raised by an arm of `exec` that has no meaning yet (none is left). Safe. -/
  | notModelled (mnemonic : String)
  deriving DecidableEq, Repr

/-! ### The values at a power-on -/

/-- The default of every configuration item (R170). -/
def Items.default : Items where
  groupSet := 1#16
  remotePolicy := .localKeys
  silenceTimeout := 0
  silencePolicy := .hold
  tapeCueMode := .word
  preheat := 40
  slew := 24
  heatGain := 16
  heatWarn := 40000
  heatMax := 52000
  heatResume := 30000
  heatCool := 4000
  up1 := 8000
  up2 := 20000
  up3 := 34000
  hysteresis := 2000
  duty0 := 0
  duty1 := 115
  duty2 := 179
  duty3 := 255
  loss0 := 3
  loss1 := 20
  loss2 := 32
  loss3 := 48
  tach1 := 12
  tach2 := 20
  tach3 := 28

/-- A cleared bank (R23). -/
def Bank.cleared : Bank where
  index := Vector.replicate 239 ⟨0, 0⟩
  pool := Vector.replicate 480 ⟨0#8, 0#8, 0#8, 0#8⟩

/-- The default dissolve curve (R92). -/
def Lamp.defaultCurve : Vector Nat 17 :=
  #v[0, 6, 20, 42, 72, 110, 156, 210, 272, 342, 420, 506, 600, 702, 812, 918, 1023]

/-- A ramp record that is not running, as after a reset (R83, R135). -/
def Ramp.none : Ramp := ⟨0, 0, 0, 0, .direct, false⟩

/-- A source with nothing raised, enabled, at the given level (R184). -/
def SourceRec.fresh (high : Bool) : SourceRec := ⟨false, false, 0, true, high⟩

/-- The default levels: sources 1 to 7 HIGH, 8 to 16 LOW (10 section 10.1). -/
def Attn.defaultSources : Vector SourceRec 16 :=
  Vector.replicate 7 (SourceRec.fresh true) ++ Vector.replicate 9 (SourceRec.fresh false)

/-- A key right after a reset (R154). -/
def KeyRec.afterReset : KeyRec := ⟨true, 0, true, false⟩

/-- The Loop Port after a power-on (R22). DESIGN CHOICE (logs 4 and 37): the idle count starts from 0, a byte partly received on LOOP IN
is forgotten, and the line counts as back at the mark level. -/
def LoopPort.atPowerOn : LoopPort := ⟨.quiet, 0, 0, 0, 0#8, .stopped, none, none, []⟩

/-- LOOP OUT after a power-on (R22). -/
def LoopOut.atPowerOn : LoopOut := ⟨[], [], 0, 0, false, none, []⟩

/-- The Dispatcher after a power-on (R50). -/
def Dispatcher.atPowerOn : Dispatcher :=
  ⟨.cleared, .cleared, .a, false, 0, false, [], 0, .none⟩

/-- The Transport after a power-on, before the tray code has settled (R51, R76). -/
def Transport.atPowerOn : Transport :=
  ⟨.none, 0, .invalid, .noTray, none, false, [], false, .opened, .afterPowerOn⟩

/-- The Lamp Engine after a power-on (R102). -/
def Lamp.atPowerOn : Lamp := ⟨.off, 0, .none, none, 0, 0, 0, 0, 0, Lamp.defaultCurve⟩

/-- The Remote Scanner after a reset (R154, R160). -/
def Remote.afterReset : Remote := ⟨Vector.replicate 6 KeyRec.afterReset, .stopped⟩

/-- The Decoder after a reset (R152). -/
def Decoder.afterReset : Decoder := ⟨.closed, false, none, 0#8, false, 0, 0, none, none⟩

/-- A retained memory never written (R176). DESIGN CHOICE (log 8): its bytes are zeros. -/
def Retained.neverWritten : Retained := ⟨Vector.replicate 6 0#8, 0#8, true⟩

/-- The part right after a power-on with a retained memory never written, and with the pin levels of log 3:
no strap set, cutout closed, no cassette, no mains warning. -/
def State.reset : State where
  power := .running
  loop := .atPowerOn
  out := .atPowerOn
  disp := .atPowerOn
  tray := .atPowerOn
  lamp := .atPowerOn
  cool := ⟨40000, 0, 0, false, .cancelled, 0, 0, false, false, false, 1023, true, false⟩
  deck := ⟨.noCassette, 0, false, false, 20, .none⟩
  dec := .afterReset
  remote := .afterReset
  stn := ⟨0, false, false, .configuring, .none, false, .running, .default, false,
    Vector.replicate 6 0#8, false, none⟩
  retained := .neverWritten
  attn :=
    { sources := Attn.defaultSources.set 0 ⟨true, false, 256, true, true⟩
      held := none
      prov := none
      counters := Vector.replicate 9 0 }
  openValues := 0
  pending := []

end Sys2Proof.Machine
end

