-- ==== Sys2Proof/Machine/Flags.lean ====
section
/-! DEFINITION. The attention flags and the counters: how a source is raised, cleared, held and released. -/

namespace Sys2Proof.Machine

/-- The position of a source in code order. -/
def Source.idx : Source → Fin 16
  | .restarted => 0 | .thermalTrip => 1 | .fanStall => 2 | .cutoutOpen => 3
  | .lampFailed => 4 | .trayJam => 5 | .loopSilent => 6 | .trayChanged => 7
  | .trayResync => 8 | .moveRefused => 9 | .darkWaitTimeout => 10 | .thermalDerate => 11
  | .scheduleFull => 12 | .originationDropped => 13 | .tapeEnd => 14 | .tapeCueFault => 15

/-- The code of a source, 1..16 (10 section 10.1). -/
def Source.code (c : Source) : Nat := c.idx.val + 1

/-- All sources, in code order. -/
def Source.all : List Source :=
  [.restarted, .thermalTrip, .fanStall, .cutoutOpen, .lampFailed, .trayJam, .loopSilent, .trayChanged,
   .trayResync, .moveRefused, .darkWaitTimeout, .thermalDerate, .scheduleFull, .originationDropped,
   .tapeEnd, .tapeCueFault]

/-- The source of a code; none outside 1..16 (R179, R182). -/
def Source.ofCode (n : Nat) : Option Source := if n = 0 then none else Source.all[n - 1]?

/-- The position of a counter in the order of R187. -/
def Counter.idx : Counter → Fin 9
  | .checkFail => 0 | .framingFail => 1 | .unknownKind => 2 | .cuesIgnored => 3 | .cuesNotMine => 4
  | .tapeWordError => 5 | .tapeUnconfirmed => 6 | .originationDrops => 7 | .notApplicable => 8

/-- What the Attention Unit keeps of a source. -/
def Attn.get (a : Attn) (c : Source) : SourceRec := a.sources[c.idx]

/-- Replace what is kept of a source. -/
def Attn.put (a : Attn) (c : Source) (r : SourceRec) : Attn := { a with sources := a.sources.set c.idx r }

/-- The value of a counter. -/
def Attn.counter (a : Attn) (k : Counter) : Nat := a.counters[k.idx]

/-- Count one event: each counter stops at 65535 (R187). -/
def Attn.count (a : Attn) (k : Counter) : Attn :=
  { a with counters := a.counters.set k.idx (min (a.counter k + 1) Config.top16) }

/-- Raise a source (R178): set the flag and the detail, or set the again mark of a flag that stands. -/
def Attn.raise (a : Attn) (c : Source) (detail : Nat) : Attn :=
  let r := a.get c
  a.put c (if r.flag then { r with again := true } else { r with flag := true, detail := detail })

/-- Clear flag, again mark and detail of a source (R182). -/
def Attn.clear (a : Attn) (c : Source) : Attn :=
  a.put c { a.get c with flag := false, again := false, detail := 0 }

/-- ACK of a source (R182): clear it, and release the hold if it was held. -/
def Attn.ack (a : Attn) (c : Source) : Attn :=
  let a' := a.clear c
  if a'.held = some c then { a' with held := none } else a'

/-- Side-effect clear (R183): a held source stays flagged and held. A source held provisionally that is cleared so is held no
longer, even if it is raised again before the CHECK: the hold before the slot stands on (R181). -/
def Attn.sideClear (a : Attn) (c : Source) : Attn :=
  if a.held = some c then a else { a.clear c with prov := if a.prov = some c then none else a.prov }

/-- ATTN_SET (R179): enable and level as given; clearing the enable of the held source releases the hold. -/
def Attn.setting (a : Attn) (c : Source) (enable high : Bool) : Attn :=
  let a' := a.put c { a.get c with enable := enable, high := high }
  if !enable && a'.held == some c then { a' with held := none } else a'

/-- A source is pending: flagged, enabled and not held (R178). -/
def Attn.pending (a : Attn) (c : Source) : Bool :=
  (a.get c).flag && (a.get c).enable && a.held != some c

/-- The first pending HIGH source in code order (R180). -/
def Attn.firstHigh (a : Attn) : Option Source :=
  Source.all.find? fun c => a.pending c && (a.get c).high

/-- The first pending source in code order (R180). -/
def Attn.firstPending (a : Attn) : Option Source := Source.all.find? a.pending

/-- Whether the held source, if any, is LOW (R180). -/
def Attn.heldIsLow (a : Attn) : Bool :=
  match a.held with
  | none => true
  | some h => !(a.get h).high

/-- The source a station offers on a POLL, `any` telling MINLEVEL ANY from HIGH_ONLY (R180).
The first row of R180's table is read as the manual's own example of it (log 11): a pending HIGH source preempts
a held LOW one under either minimum level. -/
def Attn.offer (a : Attn) (any : Bool) : Option Source :=
  match a.firstHigh, a.heldIsLow with
  | some c, true => some c
  | _, _ =>
    match a.held with
    | some h => if any || (a.get h).high then some h else none
    | none => if any then a.firstPending else a.firstHigh

/-- The provisional hold settled at a good CHECK (R181): firm if its source is still flagged and enabled. -/
def Attn.firm (a : Attn) : Attn :=
  match a.prov with
  | none => a
  | some c =>
    if (a.get c).flag && (a.get c).enable then { a with held := some c, prov := none } else { a with prov := none }

/-- The provisional hold dropped (R181). -/
def Attn.drop (a : Attn) : Attn := { a with prov := none }

/-- CLEAR_COUNTERS (R187). -/
def Attn.clearCounters (a : Attn) : Attn := { a with counters := Vector.replicate 9 0 }

/-- The Unit at a reset, before RESTARTED is raised (R184); a power-on also sets enables and levels to their defaults. -/
def Attn.atReset (a : Attn) (powerOn : Bool) : Attn where
  sources :=
    if powerOn then Attn.defaultSources
    else a.sources.map fun r => { r with flag := false, again := false, detail := 0 }
  held := none
  prov := none
  counters := Vector.replicate 9 0

/-- A block raises a source (R178). -/
def raise (c : Source) (detail : Nat) (s : State) : State := { s with attn := s.attn.raise c detail }

/-- A block counts an event (R187). -/
def count (k : Counter) (s : State) : State := { s with attn := s.attn.count k }

/-- A side-effect clear reaches the Unit (R183). -/
def sideClear (c : Source) (s : State) : State := { s with attn := s.attn.sideClear c }

end Sys2Proof.Machine
end

