-- ==== Sys2Proof/Machine/Operands.lean ====
section
/-! DEFINITION. The operand forms: the check, the bytes of a frame, and the codes of frames, commands, verbs,
tape modes and configuration items (chapters 2, 9 and 11). -/

namespace Sys2Proof.Machine

/-! ### Bytes and the check (R188) -/

/-- The byte of a number (its value modulo 256). -/
def byteOf (n : Nat) : Byte := BitVec.ofNat 8 n

/-- A mark as a byte or as bit `k` of a flags byte (11, 'flags byte'). -/
def bitAt (k : Nat) (m : Bool) : Byte := if m then BitVec.ofNat 8 (2 ^ k) else 0#8

/-- The value of a two-byte field, most significant byte first (R188). -/
def word16 (hi lo : Byte) : Nat := hi.toNat * 256 + lo.toNat

/-- A two-byte field as sent, most significant byte first (R188). -/
def bytes16 (n : Nat) : List Byte := [byteOf (n / 256), byteOf n]

/-- One shift of the check register (R188). -/
def crcShift (r : Byte) : Byte := if r.msb then (r <<< 1) ^^^ Config.crcPoly else r <<< 1

/-- The check register after one more byte (R188). -/
def crcByte (r b : Byte) : Byte :=
  crcShift (crcShift (crcShift (crcShift (crcShift (crcShift (crcShift (crcShift (r ^^^ b))))))))

/-- The CRC-8 of R188 over a list of bytes. -/
def crc (bs : List Byte) : Byte := bs.foldl crcByte Config.crcStart

/-! ### Frames (R3, 11 section 11.2) -/

/-- The seven known kinds. -/
inductive FrameKind where
  | cue | poll | query | command | load | remote | assign
  deriving DecidableEq, Repr

/-- The code of a kind. -/
def FrameKind.code : FrameKind → Byte
  | .cue => 0x11#8 | .poll => 0x22#8 | .query => 0x33#8 | .command => 0x44#8
  | .load => 0x55#8 | .remote => 0x66#8 | .assign => 0x77#8

/-- The kind of a KIND byte, none if it is unknown (R11). -/
def FrameKind.ofByte (b : Byte) : Option FrameKind :=
  if b = 0x11#8 then some .cue else if b = 0x22#8 then some .poll else if b = 0x33#8 then some .query
  else if b = 0x44#8 then some .command else if b = 0x55#8 then some .load
  else if b = 0x66#8 then some .remote else if b = 0x77#8 then some .assign else none

/-- The payload LENGTH a fixed kind must have (R13). -/
def FrameKind.fixedLength : FrameKind → Option Nat
  | .cue => some 2 | .poll => some 7 | .remote => some 2 | .assign => some 1
  | .query => none | .command => none | .load => none

/-- COMMAND and LOAD frames carry the RESULT trailer (R3). -/
def FrameKind.hasTrailer : FrameKind → Bool
  | .command => true | .load => true
  | .cue => false | .poll => false | .query => false | .remote => false | .assign => false

/-- The bytes of a frame as they arrive on LOOP IN (R3), for a KIND byte, with or without the trailer. -/
def frameBytes (f : Frame) (kind : Byte) (payload : List Byte) (trailer : Bool) : List Byte :=
  [Config.sync, kind, f.target, f.origin, f.hop, byteOf payload.length] ++ payload ++ [f.check] ++
    (if trailer then [f.result, f.resultComplement] else [])

/-- The bytes of a frame that its command brings (`Frame.skip`, `Frame.take`; log 27). -/
def framePart (f : Frame) (bytes : List Byte) : List Byte :=
  match f.take with
  | none => bytes.drop f.skip
  | some n => (bytes.drop f.skip).take n

/-- The CHECK that agrees with a frame's bytes as they arrive (R6, R188). -/
def goodCheck (f : Frame) (kind : Byte) (payload : List Byte) : Byte :=
  crc ([kind, f.target, f.origin, f.hop, byteOf payload.length] ++ payload)

/-- RESULT codes (11 section 11.2). -/
inductive Result where
  | accepted | refusedState | refusedRange | refusedLocked | refusedBusy
  deriving DecidableEq, Repr

/-- The byte of a RESULT. -/
def Result.code : Result → Byte
  | .accepted => 0x01#8 | .refusedState => 0x02#8 | .refusedRange => 0x03#8
  | .refusedLocked => 0x04#8 | .refusedBusy => 0x05#8

/-! ### Commands (R172, 11 section 11.5) -/

/-- The twelve commands. -/
inductive Cmd where
  | step | hold | resume | commit | configSet | configClose | standby | wake | ack | attnSet | clearCounters | reset
  deriving DecidableEq, Repr

/-- The code of a command. -/
def Cmd.code : Cmd → Byte
  | .step => 0x01#8 | .hold => 0x02#8 | .resume => 0x03#8 | .commit => 0x04#8 | .configSet => 0x05#8
  | .configClose => 0x06#8 | .standby => 0x07#8 | .wake => 0x08#8 | .ack => 0x09#8 | .attnSet => 0x0A#8
  | .clearCounters => 0x0B#8 | .reset => 0x0C#8

/-- The command of a code, none if it is unknown (R172). -/
def Cmd.ofByte (b : Byte) : Option Cmd :=
  if b = 0x01#8 then some .step else if b = 0x02#8 then some .hold else if b = 0x03#8 then some .resume
  else if b = 0x04#8 then some .commit else if b = 0x05#8 then some .configSet
  else if b = 0x06#8 then some .configClose else if b = 0x07#8 then some .standby
  else if b = 0x08#8 then some .wake else if b = 0x09#8 then some .ack else if b = 0x0A#8 then some .attnSet
  else if b = 0x0B#8 then some .clearCounters else if b = 0x0C#8 then some .reset else none

/-- The station states a command is accepted in (R172's table; MAINS_LOSS is refused before it). -/
def Cmd.acceptedIn : Cmd → StationState → Bool
  | .step, st => st == .configuring || st == .active
  | .hold, st => st == .active
  | .resume, st => st == .active
  | .commit, st => st == .configuring || st == .active
  | .configSet, st => st != .mainsLoss
  | .configClose, st => st == .configuring
  | .standby, st => st == .configuring || st == .active
  | .wake, st => st == .coolingDown || st == .standby
  | .ack, st => st != .mainsLoss
  | .attnSet, st => st != .mainsLoss
  | .clearCounters, st => st != .mainsLoss
  | .reset, st => st != .mainsLoss

/-- The configuration-class commands (R7, R164). -/
def Cmd.configClass : Cmd → Bool
  | .configSet => true | .commit => true | .configClose => true
  | .step => false | .hold => false | .resume => false | .standby => false | .wake => false
  | .ack => false | .attnSet => false | .clearCounters => false | .reset => false

/-! ### Verbs and tape modes (R25, 11 section 11.4) -/

/-- The verb of a code, none above 10 (R26). -/
def Verb.ofCode (n : Nat) : Option Verb :=
  [Verb.nothing, .advance, .reverse, .goto, .home, .shutter, .lamp, .lampOff, .sound, .tape, .follow][n]?

/-- The seven tape modes (R25). -/
inductive TapeMode where
  | stop | play | pause | rewind | windFwd | rewToZero | zeroCounter
  deriving DecidableEq, Repr

/-- The tape mode of a code 1..7 (11 section 11.4). -/
def TapeMode.ofCode (n : Nat) : Option TapeMode :=
  if n = 0 then none
  else [TapeMode.stop, .play, .pause, .rewind, .windFwd, .rewToZero, .zeroCounter][n - 1]?

/-- A step as it is routed: its verb and its arguments (R25). -/
structure Step where
  verb : Verb
  a : Nat
  b : Nat
  deriving DecidableEq, Repr

/-- The clamps of R25: a count above 15 taken as 15, a volume above 31 as 31. -/
def clampArg (v : Verb) (a : Nat) : Nat :=
  match v with
  | .advance => min a 15
  | .reverse => min a 15
  | .sound => min a 31
  | .nothing => a | .goto => a | .home => a | .shutter => a | .lamp => a | .lampOff => a | .tape => a | .follow => a

/-- A null step has no effect when routed (R26). -/
def nullStep (v : Verb) (a : Nat) : Bool :=
  match v with
  | .nothing => true
  | .advance => a == 0
  | .reverse => a == 0
  | .shutter => decide (1 < a)
  | .tape => (TapeMode.ofCode a).isNone
  | .goto => false | .home => false | .lamp => false | .lampOff => false | .sound => false | .follow => false

/-- A verb code with its arguments as a step, clamped; none for a null step (R25, R26). -/
def Step.ofBytes (verb a b : Byte) : Option Step :=
  match Verb.ofCode verb.toNat with
  | none => none
  | some v => if nullStep v a.toNat then none else some ⟨v, clampArg v a.toNat, b.toNat⟩

/-- AFTER_DARK is bit 0 of b (R25). -/
def afterDarkOf (b : Nat) : Bool := b % 2 == 1

/-! ### Keys (R158) -/

/-- The position of a key, one below its code. -/
def keyIdx : Key → Fin 6
  | .fwd => 0 | .rev => 1 | .focusIn => 2 | .focusOut => 3 | .hold => 4 | .dark => 5

/-- The code of a key (R158). -/
def keyCode (k : Key) : Nat := (keyIdx k).val + 1

/-- All keys in code order. -/
def allKeys : List Key := [.fwd, .rev, .focusIn, .focusOut, .hold, .dark]

/-- The sample of one key. -/
def sampleOf (k : Key) (x : KeySamples) : Bool :=
  match k with
  | .fwd => x.fwd | .rev => x.rev | .focusIn => x.focusIn | .focusOut => x.focusOut | .hold => x.hold | .dark => x.dark

/-! ### Tray sizes and certainty (R52) -/

/-- The number of slots of a tray size; 0 for none. -/
def TraySize.slots : TraySize → Nat
  | .none => 0 | .slots84 => 84 | .slots120 => 120

/-- The size a tray code stands for; INVALID is taken as NONE (R51). -/
def sizeOfCode : TrayCode → TraySize
  | .none => .none | .slots84 => .slots84 | .slots120 => .slots120 | .invalid => .none

/-- The certainty codes of STATUS and of the retained record (11 sections 11.6, 11.7). -/
def Certainty.code : Certainty → Nat
  | .invalid => 0 | .uncertain => 1 | .certain => 2

/-! ### Configuration items (R170, 11 section 11.5) -/

/-- Codes of the enumerated items. -/
def RemotePolicy.code : RemotePolicy → Nat
  | .localKeys => 0 | .relay => 1 | .off => 2

def SilencePolicy.code : SilencePolicy → Nat
  | .none => 0 | .hold => 1 | .dark => 2 | .holdDark => 3

def TapeCueMode.code : TapeCueMode → Nat
  | .word => 0 | .pulse => 1

/-- The items with one of them replaced, by item code; none if the code is 0 or above 27 or the value lies outside the
item's own range (R170, R189). A two-byte value above 255 is outside the range of every one-byte item. -/
def Items.put (x : Items) (code v : Nat) : Option Items :=
  match code with
  | 1 => some { x with groupSet := BitVec.ofNat 16 v }
  | 2 => match v with
    | 0 => some { x with remotePolicy := .localKeys }
    | 1 => some { x with remotePolicy := .relay }
    | 2 => some { x with remotePolicy := .off }
    | _ => none
  | 3 => if v ≤ 255 then some { x with silenceTimeout := v } else none
  | 4 => match v with
    | 0 => some { x with silencePolicy := .none }
    | 1 => some { x with silencePolicy := .hold }
    | 2 => some { x with silencePolicy := .dark }
    | 3 => some { x with silencePolicy := .holdDark }
    | _ => none
  | 5 => match v with
    | 0 => some { x with tapeCueMode := .word }
    | 1 => some { x with tapeCueMode := .pulse }
    | _ => none
  | 6 => if v ≤ 255 then some { x with preheat := v } else none
  | 7 => if 1 ≤ v ∧ v ≤ 1023 then some { x with slew := v } else none
  | 8 => if 1 ≤ v ∧ v ≤ 255 then some { x with heatGain := v } else none
  | 9 => if 1 ≤ v then some { x with heatWarn := v } else none
  | 10 => if 1 ≤ v then some { x with heatMax := v } else none
  | 11 => some { x with heatResume := v }
  | 12 => some { x with heatCool := v }
  | 13 => if 1 ≤ v then some { x with up1 := v } else none
  | 14 => if 1 ≤ v then some { x with up2 := v } else none
  | 15 => if 1 ≤ v then some { x with up3 := v } else none
  | 16 => if v ≤ 8000 then some { x with hysteresis := v } else none
  | 17 => if v ≤ 255 then some { x with duty0 := v } else none
  | 18 => if v ≤ 255 then some { x with duty1 := v } else none
  | 19 => if v ≤ 255 then some { x with duty2 := v } else none
  | 20 => if v ≤ 255 then some { x with duty3 := v } else none
  | 21 => if 1 ≤ v ∧ v ≤ 255 then some { x with loss0 := v } else none
  | 22 => if 1 ≤ v ∧ v ≤ 255 then some { x with loss1 := v } else none
  | 23 => if 1 ≤ v ∧ v ≤ 255 then some { x with loss2 := v } else none
  | 24 => if 1 ≤ v ∧ v ≤ 255 then some { x with loss3 := v } else none
  | 25 => if v ≤ 255 then some { x with tach1 := v } else none
  | 26 => if v ≤ 255 then some { x with tach2 := v } else none
  | 27 => if v ≤ 255 then some { x with tach3 := v } else none
  | _ => none

/-- The cross conditions of R170. -/
def Items.consistent (x : Items) : Bool :=
  decide (x.heatWarn < x.heatMax) && decide (x.heatResume < x.heatMax) && decide (x.heatCool < x.up1) &&
  decide (x.up1 < x.up2) && decide (x.up2 < x.up3)

/-- Every item but the group set is locked (R170). -/
def lockedItem (code : Nat) : Bool := code != 1

/-- The fan duty of a stage (R170). -/
def Items.duty (x : Items) (stage : Nat) : Nat :=
  match stage with
  | 0 => x.duty0 | 1 => x.duty1 | 2 => x.duty2 | _ => x.duty3

/-- The loss coefficient of a stage (R170). -/
def Items.loss (x : Items) (stage : Nat) : Nat :=
  match stage with
  | 0 => x.loss0 | 1 => x.loss1 | 2 => x.loss2 | _ => x.loss3

/-- The tach minimum of a running stage (R170). -/
def Items.tachMin (x : Items) (stage : Nat) : Nat :=
  match stage with
  | 0 => 0 | 1 => x.tach1 | 2 => x.tach2 | _ => x.tach3

/-- The up threshold of a stage 1..3 (R106). -/
def Items.up (x : Items) (stage : Nat) : Nat :=
  match stage with
  | 0 => 0 | 1 => x.up1 | 2 => x.up2 | _ => x.up3

end Sys2Proof.Machine
end

