-- ==== Sys2Proof/Machine/Ops.lean ====
section
/-! DEFINITION. Operations shared by the blocks: the running guard, the station's number, what each block reads of the
others (dark predicate, frozen ramps, trip set), the fan stage choice, the ramp arithmetic, and the origination offer. -/

namespace Sys2Proof.Machine

/-- A command reaches the part only while it has its supply and is not held by its RESET pin (R173). -/
def whenRunning (f : State → State) (s : State) : State :=
  if s.power = .running then f s else s

/-- The station's number (R162): the strap if it is 1..30, else the number taken by ASSIGN, else 0. -/
def stationNumber (s : State) : Nat :=
  if s.stn.strapStation ≠ 0 then s.stn.strapStation else s.loop.assigned.getD 0

/-- A group is in the station's group set (R12). -/
def inGroup (s : State) (g : Nat) : Bool := s.stn.items.groupSet.getLsbD g

/-- The station matches a TARGET (R12). -/
def matchesTarget (s : State) (target : Nat) : Bool :=
  (stationNumber s != 0 && target == stationNumber s) || target == 31 ||
    (decide (32 ≤ target) && decide (target ≤ 47) && inGroup s (target - 32))

/-- The show is held: the station is ACTIVE with show state HELD (R87, R136). -/
def showHeld (s : State) : Bool := s.stn.state == .active && s.stn.showState == .held

/-- The show runs: the station is ACTIVE with show state RUNNING. -/
def showRunning (s : State) : Bool := s.stn.state == .active && s.stn.showState == .running

/-- The dark predicate (R98). -/
def Lamp.dark (l : Lamp) : Bool :=
  match l.state with
  | .off => true | .tripped => true | .failed => true
  | .warming => !l.ramp.running && decide (l.p ≤ Config.darkPosition)
  | .lit => !l.ramp.running && decide (l.p ≤ Config.darkPosition)

/-- The lamp is WARMING or LIT. -/
def Lamp.burning (l : Lamp) : Bool := l.state == .warming || l.state == .lit

/-- Some trip cause is active (R94). -/
def Cooling.tripped (c : Cooling) : Bool := c.thermal || c.fanStall || c.cutout

/-- The Transport is in a cycle, whatever the phase (R54). -/
def Transport.inCycle (t : Transport) : Bool :=
  match t.state with
  | .cycle _ => true
  | .noTray => false | .idle => false | .jammed => false

/-- The deck is settled for standby (R124). -/
def Deck.settled (d : Deck) : Bool := d.state == .stopped || d.state == .noCassette

/-! ### Ramps (R83 to R86, R135, R136) -/

/-- A ramp as it starts, from a present value, over a number of ticks (R85, R135). -/
def Ramp.begin (now target ticks : Nat) (o : Origin) : Ramp := ⟨now, target, ticks, 0, o, true⟩

/-- A step ramp: no length, or no way to go (R85, R135). -/
def Ramp.isStep (r : Ramp) : Bool := r.length == 0 || r.target == r.start

/-- The value of a ramp at its count: start + trunc((target - start) × count / length) (R86, R136). -/
def Ramp.value (r : Ramp) : Nat :=
  ((r.start : Int) + (((r.target : Int) - (r.start : Int)) * (r.count : Int)).tdiv (r.length : Int)).toNat

/-- The next tick of a ramp ends it (R86, R136). -/
def Ramp.lastTick (r : Ramp) : Bool := r.isStep || r.count + 1 == r.length

/-- One step of a ramp: the ramp and the value after it (R86, R136). -/
def Ramp.step (r : Ramp) : Ramp × Nat :=
  if r.isStep then ({ r with running := false }, r.target)
  else
    let r' := { r with count := r.count + 1, running := r.count + 1 != r.length }
    (r', r'.value)

/-- A ramp takes no step: it is not running, or it is a SHOW ramp of a held show (R87, R136). -/
def rampStands (r : Ramp) (s : State) : Bool := !r.running || (r.origin == .ofShow && showHeld s)

/-! ### The fan stage (R107, R108, R110) -/

/-- The fan stage R107 calls for. -/
def fanWanted (s : State) : Nat :=
  max (max (if s.stn.state = .standby then 0 else s.cool.heatStage)
        (if s.lamp.burning || s.stn.state == .coolingDown then 1 else 0))
    (if s.cool.tripped then 3 else 0)

/-- The Cooling Controller with the fan at a stage: the stage-changed mark and the spin-up timer follow (R108, R110). Only a new value
of the stage marks the gate here (R108); DESIGN CHOICE (log 40): so a trip cause that sets or clears with the fan already at stage 3
marks it only under FAN_STALL (Cooling.markTrip). -/
def Cooling.setStage (c : Cooling) (stage : Nat) : Cooling :=
  if stage = c.fanStage then c
  else { c with
    fanStage := stage
    stageChanged := true
    spinUp := if stage = 0 then .cancelled else if c.fanStage = 0 then .running else c.spinUp }

/-- A trip cause has set or cleared: while FAN_STALL is active the gate in progress is marked, and so goes untested, though the stage
stays 3 (R111; log 40). -/
def Cooling.markTrip (c : Cooling) : Cooling := if c.fanStall then { c with stageChanged := true } else c

/-- The fan stage chosen afresh (R107). -/
def chooseFan (s : State) : State := { s with cool := s.cool.setStage (fanWanted s) }

/-! ### The loop-silence timer (R20) -/

/-- The timer restarted from zero, where it runs at all. -/
def restartSilence (s : State) : State :=
  if s.stn.state = .active ∧ s.stn.items.silenceTimeout ≠ 0 then { s with loop := { s.loop with silence := .running } }
  else s

/-- The timer stopped (R20). -/
def stopSilence (s : State) : State := { s with loop := { s.loop with silence := .stopped } }

/-! ### Origination offers (R15) -/

/-- A block offers a frame for origination. -/
def offerFrame (x : OrigFrame) (s : State) : State :=
  if stationNumber s = 0 then raise .originationDropped 1 (count .originationDrops s)
  else if Config.originationCapacity ≤ s.loop.origQueue.length then
    raise .originationDropped 2 (count .originationDrops s)
  else { s with loop := { s.loop with origQueue := s.loop.origQueue ++ [x] } }

end Sys2Proof.Machine
end

