-- ==== Sys2Proof/Machine/Transport.lean ====
section
/-! DEFINITION. The Transport (chapter 3): the move queue, the start of a move, the change cycle, jams, tray removal and
fitting, and the meanings of the commands that its sensors and timers give. -/

namespace Sys2Proof.Machine

/-! ### The move queue (R55 to R57) -/

/-- A STEP count saturated at +15 and -15 (R56). -/
def clampCount (c : Int) : Int := max (-15) (min 15 c)

/-- A record has come to the head of the queue, or the queue is empty: the dark-wait timer of the new head (R59; DEDUCED, log 30). -/
def Transport.newHead (t : Transport) : Transport :=
  { t with darkTimer :=
      match t.queue with
      | m :: _ => m.afterDark && !m.waitOver
      | [] => false }

/-- The newest record of the queue, if it is a STEP: its count and the record (R56). -/
def newestStep (q : List Move) : Option (Int × Move) :=
  match q.getLast? with
  | some m => match m.kind with
    | .step c => some (c, m)
    | .goto _ => none
    | .home => none
  | none => none

/-- A STEP taken into the queue: merged into a newest STEP record, or entered at the tail (R56). -/
def Transport.takeStep (t : Transport) (c : Int) (afterDark : Bool) (o : Origin) : Transport :=
  match newestStep t.queue with
  | some (c0, m) =>
    let rest := t.queue.dropLast
    let sum := clampCount (c0 + c)
    if sum = 0 then
      if rest.isEmpty then ({ t with queue := rest }).newHead else { t with queue := rest }
    else
      let m' : Move := { m with kind := .step sum, afterDark := m.afterDark || afterDark, origin := o }
      let t' := { t with queue := rest ++ [m'] }
      if rest.isEmpty && afterDark && !m.afterDark then t'.newHead else t'
  | none =>
    let t' := { t with queue := t.queue ++ [⟨.step c, afterDark, false, o⟩] }
    if t.queue.isEmpty then t'.newHead else t'

/-- A GOTO or HOME taken: the queue is flushed and the record enters it alone (R57). -/
def Transport.takeOther (t : Transport) (k : MoveKind) (afterDark : Bool) (o : Origin) : Transport :=
  ({ t with queue := [⟨k, afterDark, false, o⟩] }).newHead

/-- The queue flushed and the dark-wait timer cancelled (R57, R70, R72, R74, R75). -/
def Transport.flush (t : Transport) : Transport := { t with queue := [], darkTimer := false }

/-! ### Choosing the path (R61, R62) -/

/-- The path from a slot to a target on a tray: direction and number of slots; ties go forward (R62). -/
def pathTo (size slot target : Nat) : Direction × Nat :=
  let df := (target + size - slot) % size
  let dr := size - df
  if df ≤ dr then (.forward, df) else (.backward, dr)

/-- A cycle begins in CLOSE (R63). -/
def Transport.beginCycle (t : Transport) (c : Cycle) : Transport := { t with state := .cycle .close, cycle := some c }

/-- A counted INDEX (R61, R62). -/
def countedCycle (d : Direction) (n : Nat) : Cycle := ⟨false, d, false, n, 0, none, false⟩

/-- A homing pass (R62). -/
def homingCycle (isHome : Bool) (d : Direction) (target : Option Nat) (atOnce : Bool) : Cycle :=
  ⟨isHome, d, true, 0, 0, target, atOnce⟩

/-- A record starts (R61, R62), having left the queue. -/
def startMove (m : Move) (s : State) : State :=
  let t := s.tray
  match m.kind with
  | .step c =>
    { s with tray := t.beginCycle (countedCycle (if 0 ≤ c then .forward else .backward) c.natAbs) }
  | .goto target =>
    if t.certainty = .certain then
      if target = t.slot then s
      else
        let path := pathTo t.size.slots t.slot target
        { s with tray := t.beginCycle (countedCycle path.1 path.2) }
    else { s with tray := t.beginCycle (homingCycle false .forward (some target) false) }
  | .home =>
    if t.certainty = .certain then
      if t.slot = 0 then
        if t.state = .jammed then { s with tray := t.beginCycle (homingCycle true .forward none true) }
        else sideClear .trayJam s
      else { s with tray := t.beginCycle (homingCycle true (pathTo t.size.slots t.slot 0).1 none false) }
    else { s with tray := t.beginCycle (homingCycle true .forward none false) }

/-- The head record may start (R58). -/
def canStart (m : Move) (s : State) : Bool :=
  (s.tray.state == .idle || (m.kind == .home && s.tray.state == .jammed)) &&
    (!m.afterDark || s.lamp.dark || m.waitOver)

/-- Start the records at the head while they may start, at most `n` of them. -/
def startMovesUpTo : Nat → State → State
  | 0, s => s
  | n + 1, s =>
    match s.tray.queue with
    | [] => s
    | m :: rest =>
      if canStart m s then
        startMovesUpTo n (startMove m { s with tray := ({ s.tray with queue := rest }).newHead })
      else s

/-- R58 tested: the head record starts if it may, and the next after it if that one completed at once. -/
def startMoves (s : State) : State := startMovesUpTo s.tray.queue.length s

/-! ### Offers (R55) -/

/-- The reason a move is refused, as MOVE_REFUSED's detail: 1 NO_TRAY, 2 JAMMED, 3 BAD_SLOT; none if it is taken (R55). -/
def moveRefusal (t : Transport) (k : MoveKind) : Option Nat :=
  if t.state = .noTray then some 1
  else if t.state = .jammed ∧ k ≠ .home then some 2
  else match k with
    | .goto slot => if t.size.slots ≤ slot then some 3 else none
    | .step _ => none
    | .home => none

/-- A move is offered to the Transport (R55 to R58). -/
def offerMove (k : MoveKind) (afterDark : Bool) (o : Origin) (s : State) : State :=
  match moveRefusal s.tray k with
  | some d => raise .moveRefused d s
  | none =>
    startMoves { s with tray :=
      match k with
      | .step c => s.tray.takeStep c afterDark o
      | .goto slot => s.tray.takeOther (.goto slot) afterDark o
      | .home => s.tray.takeOther .home false o }

/-- A new shutter demand (R67). -/
def setDemand (d : Demand) (s : State) : State := { s with tray := { s.tray with demand := d } }

/-! ### Phases (R63 to R66) -/

/-- The code of a phase, as TRAY_JAM's detail and in STATUS (11 section 11.6). -/
def Phase.code : Phase → Nat
  | .close => 1 | .lift => 2 | .index => 3 | .drop => 4 | .settle => 5

/-- The Transport in a phase of its cycle. -/
def setPhase (ph : Phase) (s : State) : State := { s with tray := { s.tray with state := .cycle ph } }

/-- The Transport back in IDLE, its cycle over; the next head record may start (R58, R66). -/
def enterIdle (s : State) : State :=
  startMoves { s with tray := { s.tray with state := .idle, cycle := none, keptDrop := false } }

/-- A jam in a phase (R70). -/
def jam (ph : Phase) (s : State) : State :=
  raise .trayJam ph.code
    { s with tray :=
        { s.tray.flush with
          state := .jammed
          cycle := none
          keptDrop := false
          certainty := if ph = .index then .uncertain else s.tray.certainty } }

/-- The home mark's effect on the tray record (R65). -/
def correctSlot (s : State) : State :=
  let t := s.tray
  if t.certainty = .certain then
    if t.slot = 0 then s else raise .trayResync t.slot { s with tray := { t with slot := 0 } }
  else { s with tray := { t with slot := 0, certainty := .certain } }

/-- The home mark ends a homing pass: TRAY_JAM is cleared, and INDEX ends or goes on to a GOTO's target (R62, R64, R65). -/
def endHomingPass (c : Cycle) (s : State) : State :=
  let s' := sideClear .trayJam s
  match c.target with
  | none => setPhase .drop s'
  | some target =>
    if target = 0 then setPhase .drop s'
    else
      let path := pathTo s'.tray.size.slots 0 target
      { s' with tray := { s'.tray with cycle := some (countedCycle path.1 path.2) } }

/-- A home mark taken in INDEX (R65). -/
def takeHomeMark (c : Cycle) (s : State) : State :=
  if c.homing then endHomingPass c (correctSlot s) else correctSlot s

/-- INDEX begins (R64); it ends at once where R62 says so. DESIGN CHOICE (log 39): R62 takes that end as the home mark of a homing pass,
so TRAY_JAM is cleared here (R65), though R66 speaks of an INDEX that ended without a homing pass. -/
def enterIndex (s : State) : State :=
  let s' := setPhase .index s
  match s'.tray.cycle with
  | some c => if c.atOnce then takeHomeMark c s' else s'
  | none => s'

/-- The slot after one index pulse (R64). -/
def nextSlot (d : Direction) (size slot : Nat) : Nat :=
  match d with
  | .forward => (slot + 1) % size
  | .backward => (slot + size - 1) % size

/-- An index pulse counted in INDEX (R64). -/
def takeIndexPulse (c : Cycle) (s : State) : State :=
  let t := s.tray
  let n := c.counted + 1
  let s' := { s with tray :=
    { t with slot := nextSlot c.dir t.size.slots t.slot, cycle := some { c with counted := n } } }
  if c.homing then (if t.size.slots + 2 ≤ n then jam .index s' else s')
  else if c.count ≤ n then setPhase .drop s' else s'

/-! ### Tray removal and fitting (R72, R73) -/

/-- The tray taken off, once no cycle runs (R72). -/
def loseTray (s : State) : State :=
  raise .trayChanged 0
    { s with tray :=
        { s.tray.flush with state := .noTray, size := .none, slot := 0, certainty := .invalid } }

/-- A tray removal (R72). -/
def removeTray (s : State) : State :=
  match s.tray.state with
  | .noTray => s
  | .idle => loseTray s
  | .jammed => loseTray s
  | .cycle ph => loseTray (jam ph s)

/-- A tray fitting (R73). -/
def fitTray (size : TraySize) (s : State) : State :=
  raise .trayChanged size.slots
    { s with tray := { s.tray with state := .idle, size := size, slot := 0, certainty := .certain } }

/-- A settled code differs from the tray the record holds: a removal, a fitting, or both in that order (R51, R77). -/
def changeTray (size : TraySize) (s : State) : State :=
  if size = s.tray.size then s
  else
    let s' := removeTray s
    if size = .none then s' else fitTray size s'

/-! ### The retained tray fields (R76, 11 section 11.7) -/

/-- A tray size from its code in the retained record. -/
def sizeOfByte (b : Byte) : TraySize :=
  if b = 84#8 then .slots84 else if b = 120#8 then .slots120 else .none

/-- A certainty from its code in the retained record. -/
def certaintyOfByte (b : Byte) : Certainty :=
  if b = 2#8 then .certain else if b = 1#8 then .uncertain else .invalid

/-- The tray record formed after a power-on, from the settled code and the retained record (R76). -/
def formTray (size : TraySize) (s : State) : State :=
  let r := s.stn.readRecord
  { s with tray :=
      if size = .none then { s.tray with size := .none, slot := 0, certainty := .invalid, state := .noTray }
      else if s.stn.valid ∧ sizeOfByte r[0] = size then
        { s.tray with size := size, slot := r[1].toNat, certainty := certaintyOfByte r[2], state := .idle }
      else { s.tray with size := size, slot := 0, certainty := .uncertain, state := .idle } }

/-- A tray code has settled (R51). -/
def settleCode (size : TraySize) (s : State) : State :=
  let s' := match s.tray.settling with
    | .afterPowerOn => formTray size s
    | .afterReset => changeTray size s
    | .settled => changeTray size s
  { s' with tray := { s'.tray with settling := .settled } }

/-! ### Station states and resets (R74, R75, R77, R78) -/

/-- The Transport at the entry into MAINS_LOSS (R75). DESIGN CHOICE (log 38): a Transport in JAMMED stays in JAMMED, as R75 says, though
R71 says that mains loss leaves it. -/
def Transport.mainsLoss (t : Transport) : Transport :=
  let t' := t.flush
  match t.state with
  | .cycle _ => { t' with state := .idle, cycle := none, keptDrop := false, certainty := .uncertain }
  | .noTray => t' | .idle => t' | .jammed => t'

/-- The Transport at a pin reset, brownout restart or loop reset (R77, R78). -/
def Transport.atReset (t : Transport) (loopReset : Bool) : Transport :=
  let t' : Transport := { t.flush with demand := .opened, settling := .afterReset }
  match t.state with
  | .cycle .drop =>
    if loopReset then { t' with keptDrop := true }
    else { t' with state := .idle, cycle := none, keptDrop := false, certainty := .uncertain }
  | .cycle .close => { t' with state := .idle, cycle := none, certainty := .uncertain }
  | .cycle .lift => { t' with state := .idle, cycle := none, certainty := .uncertain }
  | .cycle .index => { t' with state := .idle, cycle := none, certainty := .uncertain }
  | .cycle .settle => { t' with state := .idle, cycle := none, certainty := .uncertain }
  | .jammed => { t' with state := .idle, cycle := none, certainty := .uncertain }
  | .noTray => t'
  | .idle => t'

/-! ### What the commands of the sensors and timers do -/

/-- The head record's dark-wait timer expires (R59). -/
def expireDarkWait (s : State) : State :=
  match s.tray.queue with
  | [] => s
  | m :: rest =>
    let kind := match m.kind with
      | .step _ => 1
      | .goto _ => 2
      | .home => 0
    let origin := if m.origin = .direct then 1 else 0
    startMoves (raise .darkWaitTimeout (kind * 256 + origin)
      { s with tray := { s.tray with queue := { m with waitOver := true } :: rest, darkTimer := false } })

/-- CLOSE ends and LIFT begins (R63). -/
def endClose (camMidClosed : Bool) (s : State) : State :=
  if s.tray.state = .cycle .close then
    (if camMidClosed then enterIndex (setPhase .lift s) else setPhase .lift s)
  else s

/-- CAM MID closes (R63). -/
def closeCamMid (s : State) : State := if s.tray.state = .cycle .lift then enterIndex s else s

/-- The LIFT timer expires (R63, R70). -/
def expireLift (s : State) : State := if s.tray.state = .cycle .lift then jam .lift s else s

/-- An index pulse arrives (R53, R64). -/
def indexPulse (s : State) : State :=
  match s.tray.state, s.tray.cycle with
  | .cycle .index, some c => takeIndexPulse c s
  | _, _ => s

/-- The 250 ms timer of INDEX expires (R64, R70). -/
def expireIndex (s : State) : State := if s.tray.state = .cycle .index then jam .index s else s

/-- The next index pulse is the one at which a homing pass has counted size + 2 (R64). -/
def homingAtLimit (s : State) : Bool :=
  match s.tray.state, s.tray.cycle with
  | .cycle .index, some c => c.homing && c.counted + 1 == s.tray.size.slots + 2
  | _, _ => false

/-- A home mark arrives (R53, R65). -/
def homeMark (s : State) : State :=
  match s.tray.state, s.tray.cycle with
  | .cycle .index, some c => takeHomeMark c s
  | _, _ => s

/-- CAM HOME closes (R66, R78). -/
def closeCamHome (s : State) : State :=
  if s.tray.state = .cycle .drop then (if s.tray.keptDrop then enterIdle s else setPhase .settle s) else s

/-- The DROP timer expires (R66, R70, R78). -/
def expireDrop (s : State) : State :=
  if s.tray.state = .cycle .drop then
    (if s.tray.keptDrop then enterIdle { s with tray := { s.tray with certainty := .uncertain } } else jam .drop s)
  else s

/-- SETTLE ends (R66). -/
def endSettle (s : State) : State :=
  if s.tray.state = .cycle .settle then
    match s.tray.cycle with
    | some c => enterIdle (if c.isHome then sideClear .trayJam s else s)
    | none => enterIdle s
  else s

end Sys2Proof.Machine
end

