-- ==== Sys2Proof/Machine/Lamp.lean ====
section
/-! DEFINITION. The Lamp Engine (chapter 4): requests, ramps, the four stages from position to drive, failure, trips. -/

namespace Sys2Proof.Machine

/-- The lamp put into OFF, TRIPPED or FAILED: ramp cancelled, p, drive, slew memory and failure count 0
(R81, R83, R94, R96, R97). -/
def Lamp.extinguish (l : Lamp) (st : LampState) : Lamp :=
  { l with
    state := st
    p := 0
    ramp := { l.ramp with running := false, target := 0 }
    drive := 0
    slewMem := 0
    failCount := 0 }

/-- A ramp starts from the present position (R85); a target above 0 becomes the last nonzero target (R84). -/
def Lamp.startRamp (l : Lamp) (target ticks : Nat) (o : Origin) : Lamp :=
  { l with
    ramp := Ramp.begin l.p target ticks o
    lastTarget := if 0 < target then some target else l.lastTarget }

/-- The Lamp Engine takes new values: a changed lamp state has the fan stage chosen afresh (R79, R107), and a record that
waited for the dark may start (R58, R98). -/
def setLamp (l : Lamp) (s : State) : State :=
  let s' := { s with lamp := l }
  startMoves (if l.state = s.lamp.state then s' else chooseFan s')

/-- A LAMP request with its target as a position and its duration in lamp ticks (R80, R85). In MAINS_LOSS it is
ignored (R101). DESIGN CHOICE (log 46): an OFF lamp that a trip cause and then a request reach together stays OFF, as the tables of R80
and R94 say, though R80 closes with the lamp TRIPPED in both orders. -/
def requestPosition (target ticks : Nat) (o : Origin) (s : State) : State :=
  if s.stn.state = .mainsLoss then s
  else match s.lamp.state with
    | .off =>
      if s.cool.tripped then s
      else setLamp (({ s.lamp with state := .warming }).startRamp target ticks o) s
    | .warming => setLamp (s.lamp.startRamp target ticks o) s
    | .lit => setLamp (s.lamp.startRamp target ticks o) s
    | .tripped => s
    | .failed => s

/-- The position of a level (R84). -/
def levelPosition (level : Nat) : Nat := level * 4096 / 255

/-- A LAMP request of a level over tenths (R80, R84, R85). -/
def requestLamp (level tenths : Nat) (o : Origin) (s : State) : State :=
  requestPosition (levelPosition level) (tenths * 10) o s

/-- LAMP_OFF (R81). -/
def requestLampOff (s : State) : State :=
  match s.lamp.state with
  | .off => s
  | .tripped => s
  | .warming => setLamp (s.lamp.extinguish .off) s
  | .lit => setLamp (s.lamp.extinguish .off) s
  | .failed => setLamp (s.lamp.extinguish .off) s

/-- The target the DARK key brings back (R99). -/
def Lamp.recall (l : Lamp) : Nat := l.lastTarget.getD Config.fullPosition

/-- A DARK request: a DIRECT request over 5 tenths (R99). -/
def requestDark (s : State) : State :=
  let l := s.lamp
  let target := if l.burning && decide (Config.darkPosition < l.p) then 0 else l.recall
  match l.state with
  | .off => requestPosition target 50 .direct s
  | .warming => requestPosition target 50 .direct s
  | .lit => requestPosition target 50 .direct s
  | .tripped => s
  | .failed => s

/-! ### From position to drive (R88 to R91) -/

/-- A curve point; the curve has points 0..16 (R92). -/
def curvePoint (c : Vector Nat 17) (i : Nat) : Nat := c.toList.getD i 0

/-- The first stage: the dissolve curve at a position (R88). -/
def curveValue (c : Vector Nat 17) (p : Nat) : Nat :=
  if Config.fullPosition ≤ p then curvePoint c 16
  else
    let i := p / 256
    let f := p % 256
    (curvePoint c i * (256 - f) + curvePoint c (i + 1) * f + 128) / 256

/-- The four stages: curve, floor, ceiling, slew (R88 to R90). -/
def driveOf (c : Vector Nat 17) (p preheat ceiling slewMem slew : Nat) : Nat :=
  min (min (max (curveValue c p) preheat) ceiling) (slewMem + slew)

/-- A new ceiling lowers the drive output at once and never raises it (R91). -/
def Lamp.applyCeiling (l : Lamp) (ceiling : Nat) : Lamp :=
  if ceiling < l.drive then { l with drive := ceiling, slewMem := ceiling } else l

/-! ### The lamp tick (R82, R86, R90, R93, R96, R97) -/

/-- A running unfrozen ramp takes one step (R86, R87). -/
def Lamp.rampStep (l : Lamp) (stands : Bool) : Lamp :=
  if stands then l else { l with ramp := l.ramp.step.1, p := l.ramp.step.2 }

/-- The drive output and slew memory of this tick, and LIT from WARMING once the floor is reached (R82, R90). -/
def Lamp.computeDrive (l : Lamp) (preheat ceiling slew : Nat) : Lamp :=
  if l.burning then
    let d := driveOf l.curve l.p preheat ceiling l.slewMem slew
    { l with drive := d, slewMem := d, state := if preheat ≤ d then .lit else l.state }
  else { l with drive := 0, slewMem := 0 }

/-- The failure count after this tick (R96; DEDUCED, log 17). -/
def Lamp.countFailure (l : Lamp) (current : Bool) : Lamp :=
  { l with failCount :=
      if l.state = .lit ∧ Config.failureDrive ≤ l.drive ∧ current = false then l.failCount + 1 else 0 }

/-- The tick's drive output added to the energy sum, and the tick counted (R93). -/
def Lamp.addEnergy (l : Lamp) : Lamp := { l with energy := l.energy + l.drive, ticks := l.ticks + 1 }

/-- The Lamp Engine after the ramp step, the drive, the failure count and the energy sum of one tick. -/
def tickedLamp (current : Bool) (s : State) : Lamp :=
  (((s.lamp.rampStep (rampStands s.lamp.ramp s)).computeDrive
    s.stn.items.preheat s.cool.ceiling s.stn.items.slew).countFailure current).addEnergy

/-- The failure count has reached its limit (R96). -/
def Lamp.atLimit (l : Lamp) : Bool := decide (Config.failureLimit ≤ l.failCount)

/-- The lamp `l` enters FAILED, and LAMP_FAILED is raised with the drive output of the tick that reached the limit (R97). -/
def failLamp (drive : Nat) (l : Lamp) (s : State) : State := raise .lampFailed drive (setLamp (l.extinguish .failed) s)

/-- The lamp tick without the hand-off of the energy sum. A failure count that has reached its limit puts the lamp in FAILED
(R96, R97; DEDUCED, log 18). -/
def lampTickOnly (current : Bool) (s : State) : State :=
  let l := tickedLamp current s
  if l.atLimit then failLamp l.drive l s else setLamp l s

/-- The next lamp tick ends the ramp (R86). -/
def lampRampEnds (s : State) : Bool :=
  s.lamp.burning && !rampStands s.lamp.ramp s && s.lamp.ramp.lastTick

/-! ### Trips (R94, R95) -/

/-- The lamp half of a change of the trip set (R94, R95). -/
def Lamp.meetTrips (l : Lamp) (tripped : Bool) : Lamp :=
  match l.state with
  | .warming => if tripped then l.extinguish .tripped else l
  | .lit => if tripped then l.extinguish .tripped else l
  | .tripped => if tripped then l else l.extinguish .off
  | .off => l
  | .failed => l

/-- The set of active trip causes has changed: the lamp meets it, the gate in progress is marked under FAN_STALL, and the fan stage is
chosen afresh (R114, R111). -/
def tripsChanged (s : State) : State :=
  startMoves (chooseFan { s with lamp := s.lamp.meetTrips s.cool.tripped, cool := s.cool.markTrip })

/-! ### Station states and resets (R100 to R102) -/

/-- The lamp at the entry into COOLING_DOWN (R100). -/
def Lamp.coolDown (l : Lamp) : Lamp := if l.burning then l.extinguish .off else l

/-- The Lamp Engine at a reset (R102). -/
def Lamp.atReset (l : Lamp) (powerOn : Bool) : Lamp :=
  { Lamp.atPowerOn with curve := if powerOn then Lamp.defaultCurve else l.curve }

end Sys2Proof.Machine
end

