-- ==== Sys2Proof/Machine/Cooling.lean ====
section
/-! DEFINITION. The Cooling Controller (chapter 5): the heat model, the cooling tick, the tach gate, the cutout. -/

namespace Sys2Proof.Machine

/-- The heat in of one cooling tick (R105). -/
def heatIn (energy gain : Nat) : Nat := energy * gain / 1024

/-- The heat loss of one cooling tick (R105). -/
def heatLoss (heat coefficient : Nat) : Nat := if heat = 0 then 0 else max 1 (heat * coefficient / 4096)

/-- The heat estimate after one cooling tick (R105). -/
def nextHeat (heat energy gain coefficient : Nat) : Nat :=
  min Config.top16 (heat + heatIn energy gain - heatLoss heat coefficient)

/-- A stage qualifies as the heat stage (R106). -/
def stageQualifies (x : Items) (heat old stage : Nat) : Bool :=
  decide (x.up stage ≤ heat) || (decide (stage ≤ old) && decide (x.up stage ≤ heat + x.hysteresis))

/-- The new heat stage (R106). -/
def nextHeatStage (x : Items) (heat old : Nat) : Nat :=
  if stageQualifies x heat old 3 then 3
  else if stageQualifies x heat old 2 then 2
  else if stageQualifies x heat old 1 then 1
  else 0

/-- The ceiling K at a heat estimate (R115). -/
def ceilingOf (x : Items) (heat : Nat) : Nat :=
  if heat ≤ x.heatWarn then Config.fullDrive
  else max x.preheat
    (Config.fullDrive - (heat - x.heatWarn) * (Config.fullDrive - x.preheat) / (x.heatMax - x.heatWarn))

/-- Step 2 of the cooling tick: the THERMAL cause (R113, R114). -/
def testThermal (s : State) : State :=
  if s.cool.thermal then
    (if s.cool.heat < s.stn.items.heatResume then
      tripsChanged { s with cool := { s.cool with thermal := false } }
    else s)
  else
    (if s.stn.items.heatMax ≤ s.cool.heat then
      raise .thermalTrip s.cool.heat (tripsChanged { s with cool := { s.cool with thermal := true } })
    else s)

/-- Step 3: the heat stage, then the fan stage (R106, R107). -/
def updateStages (s : State) : State :=
  chooseFan { s with cool :=
    { s.cool with heatStage := nextHeatStage s.stn.items s.cool.heat s.cool.heatStage } }

/-- Step 4: the ceiling handed to the Lamp Engine, and the derate mark (R115, R91, R116). -/
def updateCeiling (s : State) : State :=
  let k := ceilingOf s.stn.items s.cool.heat
  let s' := { s with cool := { s.cool with ceiling := k }, lamp := s.lamp.applyCeiling k }
  if s.cool.derateArmed then
    (if k < Config.fullDrive then
      raise .thermalDerate k { s' with cool := { s'.cool with derateArmed := false } }
    else s')
  else (if k = Config.fullDrive then { s' with cool := { s'.cool with derateArmed := true } } else s')

/-- The cool indication at a heat estimate (R117). -/
def coolAt (s : State) : Bool := decide (s.cool.heat < s.stn.items.heatCool)

/-- Step 5: the cool indication (R117). -/
def updateCool (s : State) : State := { s with cool := { s.cool with cool := coolAt s } }

/-- A cooling tick with the energy sum handed over (R104). -/
def coolingTick (energy : Nat) (s : State) : State :=
  let x := s.stn.items
  let s1 := { s with cool :=
    { s.cool with heat := nextHeat s.cool.heat energy x.heatGain (x.loss s.cool.fanStage) } }
  updateCool (updateCeiling (updateStages (testThermal s1)))

/-- At the tenth tick the energy sum is handed over and a new sum begins (R93, R104). -/
def handOver (s : State) : State :=
  if 10 ≤ s.lamp.ticks then coolingTick s.lamp.energy { s with lamp := { s.lamp with energy := 0, ticks := 0 } } else s

/-- The next lamp tick is a tenth one and brings the failure count to its limit, so that the failure falls together with what the
hand-off does to the trip causes (R94). -/
def failsAtHandOver (current : Bool) (s : State) : Bool :=
  decide (10 ≤ (tickedLamp current s).ticks) && (tickedLamp current s).atLimit

/-- The lamp tick that reaches the failure limit at a tenth tick, the hand-off taken first: a THERMAL cause it makes active finds the
lamp LIT and the count is gone with the trip; otherwise the failure follows (R94, R96, R97). -/
def handOverThenFail (current : Bool) (s : State) : State :=
  let l := tickedLamp current s
  let s' := handOver (setLamp l s)
  if s'.lamp.atLimit then failLamp l.drive s'.lamp s' else s'

/-- The lamp tick whole (R93, R104), with the order of failure and hand-off where the two fall together (R94; log 41). -/
def lampTickIn (handOverFirst current : Bool) (s : State) : State :=
  if handOverFirst = true ∧ failsAtHandOver current s = true then handOverThenFail current s
  else handOver (lampTickOnly current s)

/-- The lamp tick whole, in an order of failure and hand-off that is a free value where the two fall together (R94: either may be taken
first; log 41). -/
def lampTick (current : Bool) (s : State) : State :=
  if failsAtHandOver current s then
    lampTickIn (Config.handOverFirst s.openValues) current { s with openValues := s.openValues + 1 }
  else lampTickIn false current s

/-- A tach pulse (R109). -/
def tachPulse (s : State) : State :=
  { s with cool := { s.cool with gateCount := min 255 (s.cool.gateCount + 1) } }

/-- A gate's count is tested (R111). -/
def gateTested (c : Cooling) : Bool := c.fanStage != 0 && c.spinUp == .elapsed && !c.stageChanged

/-- The stall test of a tested gate's count (R111, R114). -/
def stallTest (n : Nat) (s : State) : State :=
  let low := decide (n < s.stn.items.tachMin s.cool.fanStage)
  if s.cool.fanStall then
    (if low then s else tripsChanged { s with cool := { s.cool with fanStall := false } })
  else
    (if low then
      raise .fanStall (s.cool.fanStage * 256 + n) (tripsChanged { s with cool := { s.cool with fanStall := true } })
    else s)

/-- The tach gate ends (R109): last tach count, stall test, next gate. -/
def endTachGate (s : State) : State :=
  let n := s.cool.gateCount
  let s1 := { s with cool := { s.cool with lastTach := n } }
  let s2 := if gateTested s.cool then stallTest n s1 else s1
  { s2 with cool := { s2.cool with gateCount := 0, stageChanged := false } }

/-- A CUTOUT level is taken (R112, R114). -/
def takeCutout (opened : Bool) (s : State) : State :=
  if opened = s.cool.cutout then s
  else
    let s' := tripsChanged { s with cool := { s.cool with cutout := opened } }
    if opened then raise .cutoutOpen 0 s' else s'

/-- The Cooling Controller at a reset, before its trip set chooses a stage (R121, R122). -/
def Cooling.atReset (c : Cooling) (powerOn : Bool) (heatAtPowerOn : Nat) (x : Items) (cutoutOpen : Bool) : Cooling :=
  let h := if powerOn then heatAtPowerOn else c.heat
  { heat := h
    heatStage := if powerOn then 0 else c.heatStage
    fanStage := if powerOn then 0 else c.fanStage
    stageChanged := false
    spinUp := if powerOn then .cancelled else if c.fanStage = 0 then .cancelled else .running
    gateCount := 0
    lastTach := 0
    thermal := if powerOn then decide (x.heatMax ≤ h) else c.thermal
    fanStall := false
    cutout := cutoutOpen
    ceiling := Config.fullDrive
    derateArmed := true
    cool := if powerOn then decide (h < x.heatCool) else c.cool }

end Sys2Proof.Machine
end

