-- ==== Sys2Proof/Machine/Deck.lean ====
section
/-! DEFINITION. The Tape Deck Controller (chapter 6): modes, braking, the tape counter, hold and resume, the decoder gate,
the sound ramp. The decoder's own part at a gate change (R140) stands here too. -/

namespace Sys2Proof.Machine

/-! ### The decoder at its gate (R140) -/

/-- The decoder state in which a mode begins (R140, R151). -/
def startState (m : TapeCueMode) : DecoderState :=
  match m with
  | .word => .hunting
  | .pulse => .pulseIdle

/-- A word or burst in progress is discarded, and the decoder takes a state (R140, R151). -/
def Decoder.restart (d : Decoder) (st : DecoderState) : Decoder :=
  { d with state := st, data := 0#8, parity := false, burst := 0, nonMark := 0 }

/-- The gate opens: the last period is emptied (R140). -/
def Decoder.openGate (d : Decoder) (m : TapeCueMode) : Decoder :=
  { (d.restart (startState m)) with timing := false, lastPeriod := none }

/-- The gate closes (R140); a period still being timed is dropped (R141). -/
def Decoder.closeGate (d : Decoder) : Decoder := { (d.restart .closed) with timing := false }

/-! ### Deck states (R124, R125, R133) -/

/-- The deck is in a motion mode (R124). -/
def DeckState.moving : DeckState → Bool
  | .playing => true | .windingFwd => true | .windingRev _ => true
  | .noCassette => false | .stopped => false | .braking _ _ => false | .paused _ => false

/-- The coast direction with which a state enters BRAKING (R125). -/
def DeckState.coast : DeckState → Coast
  | .playing => .forward | .windingFwd => .forward | .windingRev _ => .backward
  | .noCassette => .still | .stopped => .still | .paused _ => .still
  | .braking _ c => c

/-- The deck enters a state: at an entry into PLAYING the decoder gate timer starts, and at a departure from it the gate
closes and the timer is cancelled (R133). -/
def enterDeck (d : DeckState) (s : State) : State :=
  { s with
    deck := { s.deck with state := d, gateOpen := false, gateTimer := d == .playing }
    dec := if s.deck.gateOpen then s.dec.closeGate else s.dec }

/-- Brake to a mode: enter BRAKING, or replace the pending mode of BRAKING (R125, R126). -/
def brakeTo (m : Pending) (s : State) : State :=
  match s.deck.state with
  | .braking _ c => { s with deck := { s.deck with state := .braking m c } }
  | .noCassette => s
  | .stopped => enterDeck (.braking m .still) s
  | .playing => enterDeck (.braking m .forward) s
  | .paused _ => enterDeck (.braking m .still) s
  | .windingFwd => enterDeck (.braking m .forward) s
  | .windingRev _ => enterDeck (.braking m .backward) s

/-! ### The deck commands (R126, R127) -/

/-- STOP (R126); also the stop request at standby (R138). -/
def tapeStop (s : State) : State :=
  match s.deck.state with
  | .noCassette => s
  | .stopped => s
  | .braking _ _ => brakeTo .stopped s
  | .playing => brakeTo .stopped s
  | .paused _ => brakeTo .stopped s
  | .windingFwd => brakeTo .stopped s
  | .windingRev _ => brakeTo .stopped s

/-- PLAY (R126). -/
def tapePlay (s : State) : State :=
  match s.deck.state with
  | .noCassette => s
  | .playing => s
  | .paused _ => sideClear .tapeEnd (enterDeck .playing s)
  | .stopped => sideClear .tapeEnd (brakeTo .playing s)
  | .braking _ _ => sideClear .tapeEnd (brakeTo .playing s)
  | .windingFwd => sideClear .tapeEnd (brakeTo .playing s)
  | .windingRev _ => sideClear .tapeEnd (brakeTo .playing s)

/-- REWIND (R126). -/
def tapeRewind (s : State) : State :=
  match s.deck.state with
  | .noCassette => s
  | .windingRev _ => sideClear .tapeEnd { s with deck := { s.deck with state := .windingRev false } }
  | .stopped => sideClear .tapeEnd (brakeTo (.windingRev false) s)
  | .braking _ _ => sideClear .tapeEnd (brakeTo (.windingRev false) s)
  | .playing => sideClear .tapeEnd (brakeTo (.windingRev false) s)
  | .paused _ => sideClear .tapeEnd (brakeTo (.windingRev false) s)
  | .windingFwd => sideClear .tapeEnd (brakeTo (.windingRev false) s)

/-- WIND_FWD (R126). -/
def tapeWindFwd (s : State) : State :=
  match s.deck.state with
  | .noCassette => s
  | .windingFwd => s
  | .stopped => sideClear .tapeEnd (brakeTo .windingFwd s)
  | .braking _ _ => sideClear .tapeEnd (brakeTo .windingFwd s)
  | .playing => sideClear .tapeEnd (brakeTo .windingFwd s)
  | .paused _ => sideClear .tapeEnd (brakeTo .windingFwd s)
  | .windingRev _ => sideClear .tapeEnd (brakeTo .windingFwd s)

/-- PAUSE (R126). -/
def tapePause (s : State) : State := if s.deck.state = .playing then enterDeck (.paused false) s else s

/-- REW_TO_ZERO (R127). -/
def tapeRewToZero (s : State) : State :=
  if s.deck.counter = 0 then tapeStop s
  else match s.deck.state with
    | .noCassette => s
    | .windingRev _ => sideClear .tapeEnd { s with deck := { s.deck with state := .windingRev true } }
    | .stopped => sideClear .tapeEnd (brakeTo (.windingRev true) s)
    | .braking _ _ => sideClear .tapeEnd (brakeTo (.windingRev true) s)
    | .playing => sideClear .tapeEnd (brakeTo (.windingRev true) s)
    | .paused _ => sideClear .tapeEnd (brakeTo (.windingRev true) s)
    | .windingFwd => sideClear .tapeEnd (brakeTo (.windingRev true) s)

/-- The counter takes a value; at 0 in WINDING_REV with the to-zero mark the deck brakes to STOPPED (R130). -/
def setCounter (n : Nat) (s : State) : State :=
  let s' := { s with deck := { s.deck with counter := n } }
  if n = 0 ∧ s.deck.state = .windingRev true then brakeTo .stopped s' else s'

/-- A TAPE command (R126 to R128). -/
def tapeCommand (m : TapeMode) (s : State) : State :=
  if s.stn.strapDeck = false ∨ s.deck.state = .noCassette then count .notApplicable s
  else match m with
    | .stop => tapeStop s
    | .play => tapePlay s
    | .pause => tapePause s
    | .rewind => tapeRewind s
    | .windFwd => tapeWindFwd s
    | .rewToZero => tapeRewToZero s
    | .zeroCounter => setCounter 0 s

/-! ### Hold and resume (R132) -/

/-- A HOLD reaches the deck (R132). -/
def deckHold (s : State) : State :=
  match s.deck.state with
  | .playing => enterDeck (.paused true) s
  | .braking .playing _ => brakeTo .pausedHold s
  | _ => s

/-- A RESUME reaches the deck (R132). -/
def deckResume (s : State) : State :=
  match s.deck.state with
  | .paused true => enterDeck .playing s
  | .braking .pausedHold _ => brakeTo .playing s
  | _ => s

/-! ### Timers, pulses, the cassette -/

/-- The state entered when the brake timer expires (R125). -/
def Pending.enters (m : Pending) (counter : Nat) : DeckState :=
  match m with
  | .stopped => .stopped
  | .playing => .playing
  | .pausedHold => .paused true
  | .windingFwd => .windingFwd
  | .windingRev z => if z ∧ counter = 0 then .stopped else .windingRev z

/-- The brake timer expires (R125). -/
def expireBrake (s : State) : State :=
  match s.deck.state with
  | .braking m _ => enterDeck (m.enters s.deck.counter) s
  | _ => s

/-- A take-up reel pulse (R129, R130). -/
def reelPulse (s : State) : State :=
  match s.deck.state with
  | .playing => setCounter (min Config.top16 (s.deck.counter + 1)) s
  | .windingFwd => setCounter (min Config.top16 (s.deck.counter + 1)) s
  | .braking _ .forward => setCounter (min Config.top16 (s.deck.counter + 1)) s
  | .windingRev _ => setCounter (s.deck.counter - 1) s
  | .braking _ .backward => setCounter (s.deck.counter - 1) s
  | _ => s

/-- TAPE_END's detail for the mode that ended (R131). -/
def tapeEndDetail : DeckState → Nat
  | .playing => 1
  | .windingFwd => 2
  | .windingRev false => 3
  | .windingRev true => 4
  | .noCassette => 0 | .stopped => 0 | .braking _ _ => 0 | .paused _ => 0

/-- The reel silence timer expires (R131). -/
def expireReel (s : State) : State :=
  if s.deck.state.moving then raise .tapeEnd (tapeEndDetail s.deck.state) (enterDeck .stopped s) else s

/-- The decoder gate timer expires (R133). -/
def openDecoderGate (s : State) : State :=
  if s.deck.gateTimer ∧ s.deck.state = .playing then
    { s with
      deck := { s.deck with gateTimer := false, gateOpen := true }
      dec := s.dec.openGate s.stn.items.tapeCueMode }
  else s

/-- A CASSETTE level is taken (R123). -/
def takeCassette (present : Bool) (s : State) : State :=
  if s.stn.strapDeck = false then s
  else if present then
    (if s.deck.state = .noCassette then
      let s' := enterDeck .stopped s
      { s' with deck := { s'.deck with counter := 0 } }
    else s)
  else (if s.deck.state = .noCassette then s else enterDeck .noCassette s)

/-! ### Sound (R134 to R136) -/

/-- A SOUND request (R135). -/
def requestSound (volume tenths : Nat) (o : Origin) (s : State) : State :=
  { s with deck := { s.deck with ramp := Ramp.begin s.deck.volume volume (tenths * 10) o } }

/-- A sound tick (R136). -/
def soundTick (s : State) : State :=
  if rampStands s.deck.ramp s then s
  else { s with deck := { s.deck with ramp := s.deck.ramp.step.1, volume := s.deck.ramp.step.2 } }

/-- The next sound tick ends the ramp (R136). -/
def soundRampEnds (s : State) : Bool := !rampStands s.deck.ramp s && s.deck.ramp.lastTick

/-- The sound ramp cancelled, the volume left where it stands (R136). -/
def cancelSound (s : State) : State :=
  { s with deck := { s.deck with ramp := { s.deck.ramp with running := false } } }

/-! ### Station states and resets (R138, R139) -/

/-- The deck at the entry into MAINS_LOSS (R138). -/
def deckMainsLoss (s : State) : State :=
  cancelSound (if s.deck.state = .noCassette then s else enterDeck .stopped s)

/-- The deck at a reset (R139). -/
def Deck.atReset (d : Deck) (powerOn fitted cassette : Bool) (volumeAtPowerOn : Nat) : Deck :=
  { state := if fitted && cassette then .stopped else .noCassette
    counter := if powerOn then 0 else d.counter
    gateTimer := false
    gateOpen := false
    volume := if powerOn then volumeAtPowerOn else d.volume
    ramp := .none }

end Sys2Proof.Machine
end

