-- ==== Sys2Proof/Machine/Dispatcher.lean ====
section
/-! DEFINITION. The Cue Dispatcher (chapter 2) with the Station Controller's hold and resume (R166): banks, commit and
mirror, routing, the scheduled step list, cue arrivals, and the judging of a LOAD. -/

namespace Sys2Proof.Machine

/-! ### Banks (R23, R24) -/

/-- The other bank. -/
def BankName.other : BankName → BankName
  | .a => .b
  | .b => .a

/-- The bank of a name. -/
def Dispatcher.bank (d : Dispatcher) : BankName → Bank
  | .a => d.bankA
  | .b => d.bankB

/-- The live bank (R24). -/
def Dispatcher.liveBank (d : Dispatcher) : Bank := d.bank d.live

/-- The pending bank as last written; entries a running mirror has copied are seen through it in `pendingEntry` and
`pendingStep`. -/
def Dispatcher.pendingBank (d : Dispatcher) : Bank := d.bank d.live.other

/-- The pending bank replaced. -/
def Dispatcher.setPending (d : Dispatcher) (b : Bank) : Dispatcher :=
  match d.live with
  | .a => { d with bankB := b }
  | .b => { d with bankA := b }

/-- The index entry of a cue 1..239; no entry outside (R23). -/
def Bank.entry (b : Bank) (cue : Nat) : IndexEntry := if cue = 0 then ⟨0, 0⟩ else b.index.toList.getD (cue - 1) ⟨0, 0⟩

/-- The step at a pool position (R23). -/
def Bank.step (b : Bank) (pos : Nat) : PoolStep := b.pool.toList.getD pos ⟨0#8, 0#8, 0#8, 0#8⟩

/-- The steps of an index entry, in pool order (R23). -/
def Bank.steps (b : Bank) (e : IndexEntry) : List PoolStep := (List.range e.count).map fun i => b.step (e.first + i)

/-! ### Commit and mirror (R31 to R33) -/

/-- A commit: the live-bank mark changes and the mirror starts (R31). -/
def Dispatcher.commit (d : Dispatcher) : Dispatcher :=
  { d with live := d.live.other, mirrorBusy := true, mirrorCopied := 0 }

/-- The commit of the close of configuration: taken, or deferred while a mirror runs (R33). -/
def Dispatcher.closeCommit (d : Dispatcher) : Dispatcher :=
  if d.mirrorBusy then { d with deferred := true } else d.commit

/-- The mirror's copy: the pending bank becomes the live bank's equal (R32). -/
def Dispatcher.finishMirror (d : Dispatcher) : Dispatcher :=
  { d.setPending d.liveBank with mirrorBusy := false, mirrorCopied := 0 }

/-- The mirror completes, and a deferred commit is taken (R32, R33). -/
def Dispatcher.mirrorComplete (d : Dispatcher) : Dispatcher :=
  if d.mirrorBusy then
    let d' := d.finishMirror
    if d'.deferred then ({ d' with deferred := false }).commit else d'
  else d

/-- The Dispatcher at a reset (R34, R50). -/
def Dispatcher.atReset (d : Dispatcher) (powerOn : Bool) : Dispatcher :=
  if powerOn then Dispatcher.atPowerOn
  else
    let d' := if d.mirrorBusy then d.finishMirror else d
    { d' with deferred := false, schedule := [], lastCue := 0, lastSource := .none }

/-- The list emptied (R49). -/
def emptySchedule (s : State) : State := { s with disp := { s.disp with schedule := [] } }

/-! ### The scheduled list (R44, R45) -/

/-- A record placed after every record whose remaining time is equal or less (R44). -/
def insertRecord (r : Record) : List Record → List Record
  | [] => [r]
  | x :: xs => if x.remaining ≤ r.remaining then x :: insertRecord r xs else r :: x :: xs

/-- A record offered to the list (R44, R45). -/
def schedule (r : Record) (s : State) : State :=
  if Config.scheduleCapacity ≤ s.disp.schedule.length then raise .scheduleFull r.cue s
  else { s with disp := { s.disp with schedule := insertRecord r s.disp.schedule } }

/-! ### Routing (R41, R42) -/

/-- A step handed to its owner (R41). A FOLLOW is handed to the Dispatcher itself by the callers. -/
def routeStep (st : Step) (o : Origin) (s : State) : State :=
  match st.verb with
  | .nothing => s
  | .advance => if st.a = 0 then s else offerMove (.step st.a) (afterDarkOf st.b) o s
  | .reverse => if st.a = 0 then s else offerMove (.step (-(st.a : Int))) (afterDarkOf st.b) o s
  | .goto => offerMove (.goto st.a) (afterDarkOf st.b) o s
  | .home => offerMove .home false o s
  | .shutter => if st.a = 0 then setDemand .closed s else if st.a = 1 then setDemand .opened s else s
  | .lamp => requestLamp st.a st.b o s
  | .lampOff => requestLampOff s
  | .sound => requestSound st.a st.b o s
  | .tape => match TapeMode.ofCode st.a with
    | some m => tapeCommand m s
    | none => s
  | .follow => s

/-! ### Hold and resume (R166) -/

/-- A HOLD event (R166): the show is HELD, and the deck takes the HOLD (R132). The list, the ramps and the dark-wait timer
read the show state where they use it (R48, R60, R87, R136). -/
def holdEvent (s : State) : State :=
  if showRunning s then deckHold { s with stn := { s.stn with showState := .held } } else s

/-- The Station Controller's and the deck's part of a RESUME taken in HELD (R166, R132). -/
def resumeShow (s : State) : State := deckResume { s with stn := { s.stn with showState := .running } }

/-! ### Cue arrivals (R35 to R40) -/

/-- The remaining time with which a step enters the list (R39, R40): its delay, but 1 for a FOLLOW whose delay is 0. -/
def entryTime (v : Verb) (delay : Nat) : Nat := if v = .follow then max 1 delay else delay

/-- One step of a cue's expansion (R39 while RUNNING, R40 while HELD). -/
def expandStep (cue : Nat) (s : State) (p : PoolStep) : State :=
  match Step.ofBytes p.verb p.a p.b with
  | none => s
  | some st =>
    if showRunning s ∧ p.delay = 0#8 ∧ st.verb ≠ .follow then routeStep st .ofShow s
    else schedule ⟨entryTime st.verb p.delay.toNat, st.verb, st.a, st.b, cue⟩ s

/-- The last-cue record (R37). -/
def recordCue (cue : Nat) (src : CueSource) (s : State) : State :=
  { s with disp := { s.disp with lastCue := cue, lastSource := src } }

/-- A cue 1..239 in ACTIVE (R37, R39, R40). -/
def loadedCue (cue : Nat) (src : CueSource) (s : State) : State :=
  let e := s.disp.liveBank.entry cue
  if e.count = 0 then count .cuesNotMine s
  else (s.disp.liveBank.steps e).foldl (expandStep cue) (recordCue cue src s)

/-- System cue 242 (R33, R38). -/
def commitCue (src : CueSource) (s : State) : State :=
  if s.disp.mirrorBusy then count .cuesIgnored s
  else
    let s' := recordCue 242 src s
    { s' with disp := s'.disp.commit }

/-- System cues 248 and 249: one slot on or back, at once while RUNNING, else from the list (R38). -/
def stepCue (cue : Nat) (v : Verb) (src : CueSource) (s : State) : State :=
  let s' := recordCue cue src s
  if showRunning s' then routeStep ⟨v, 1, 0⟩ .ofShow s' else schedule ⟨0, v, 1, 0, cue⟩ s'

/-- System cue 243 (R38). -/
def endOfShow (s : State) : State :=
  routeStep ⟨.lamp, 0, 20⟩ .ofShow (routeStep ⟨.tape, 1, 0⟩ .ofShow (emptySchedule s))

/-- A cue arrival (R36 to R40). `resume` is what a RESUME event does; it is a parameter because a RESUME routes records, and
a routed FOLLOW is a cue arrival. -/
def cueArrivalWith (resume : State → State) (cue : Nat) (src : CueSource) (s : State) : State :=
  if s.stn.state ≠ .active then count .cuesIgnored s
  else if cue = 0 then count .cuesNotMine s
  else if cue ≤ 239 then loadedCue cue src s
  else if cue = 240 then holdEvent (recordCue cue src s)
  else if cue = 241 then resume (recordCue cue src s)
  else if cue = 242 then commitCue src s
  else if cue = 243 then endOfShow (recordCue cue src s)
  else if cue = 244 then routeStep ⟨.home, 0, 0⟩ .ofShow (recordCue cue src s)
  else if cue = 248 then stepCue cue .advance src s
  else if cue = 249 then stepCue cue .reverse src s
  else count .cuesNotMine s

/-- A cue arrival raised by a FOLLOW record while the show is RUNNING: a RESUME event then finds RUNNING and does nothing
(R166). -/
def followArrival (cue : Nat) (s : State) : State := cueArrivalWith id cue .follow s

/-- A record leaves the list and is routed (R41, R47). -/
def routeRecord (r : Record) (s : State) : State :=
  if r.verb = .follow then followArrival r.a s else routeStep ⟨r.verb, r.a, r.b⟩ .ofShow s

/-- The records with remaining time 0 routed one by one from the head, while the show is RUNNING; at most `n` (R46, R48). DESIGN CHOICE
(log 43): a FOLLOW that raises cue 240 stops the routing at a RESUME as R46 has it at a show tick: the records not yet routed stay at
the head with remaining 0 until the next RESUME. -/
def routeDueUpTo : Nat → State → State
  | 0, s => s
  | n + 1, s =>
    match s.disp.schedule with
    | [] => s
    | r :: rest =>
      if showRunning s ∧ r.remaining = 0 then
        routeDueUpTo n (routeRecord r { s with disp := { s.disp with schedule := rest } })
      else s

/-- The records that stand at remaining time 0 routed (R46, R48). -/
def routeDue (s : State) : State := routeDueUpTo s.disp.schedule.length s

/-- A RESUME event (R166, R48). -/
def resumeEvent (s : State) : State := if showHeld s then routeDue (resumeShow s) else s

/-- A cue arrival (R35 to R40). -/
def cueArrival (cue : Nat) (src : CueSource) (s : State) : State := cueArrivalWith resumeEvent cue src s

/-- A pendant's hold toggle (R157). -/
def holdToggle (s : State) : State := if showHeld s then resumeEvent s else holdEvent s

/-- One tenth less on a record (R46). -/
def Record.tick (r : Record) : Record := { r with remaining := r.remaining - 1 }

/-- One show tick less on every record (R46). -/
def tickRecords (s : State) : State := { s with disp := { s.disp with schedule := s.disp.schedule.map Record.tick } }

/-- A show tick: every record's time decreases, then the due ones are routed (R46). -/
def showTick (s : State) : State := if showRunning s then routeDue (tickRecords s) else s

/-- A direct step, its verb code known (R43). -/
def directStep (verb a b : Byte) (s : State) : State :=
  match Step.ofBytes verb a b with
  | none => s
  | some st => if st.verb = .follow then cueArrival st.a .follow s else routeStep st .direct s

/-! ### LOAD (R27 to R29) -/

/-- The three tables (R27). -/
inductive LoadTable where
  | cueIndex | stepPool | curve
  deriving DecidableEq, Repr

/-- The table of a TABLE code (11 section 11.4). -/
def LoadTable.ofByte (b : Byte) : Option LoadTable :=
  if b = 1#8 then some .cueIndex else if b = 2#8 then some .stepPool else if b = 3#8 then some .curve else none

/-- Bytes of one entry (R27). -/
def LoadTable.entryBytes : LoadTable → Nat
  | .cueIndex => 2 | .stepPool => 4 | .curve => 2

/-- The first address of a table (R27). -/
def LoadTable.firstAddress : LoadTable → Nat
  | .cueIndex => 1 | .stepPool => 0 | .curve => 0

/-- The last address of a table (R27). -/
def LoadTable.lastAddress : LoadTable → Nat
  | .cueIndex => 239 | .stepPool => 479 | .curve => 16

/-- The two-byte entries of a payload. -/
def pairs : List Byte → List Nat
  | hi :: lo :: rest => word16 hi lo :: pairs rest
  | _ => []

/-- The four-byte entries of a payload (11 section 11.4). -/
def quads : List Byte → List PoolStep
  | v :: a :: b :: d :: rest => ⟨v, a, b, d⟩ :: quads rest
  | _ => []

/-- An index entry from its 16-bit value; bits 12..9 are not stored (11 section 11.4, R189). -/
def entryOf (v : Nat) : IndexEntry := ⟨v % 512, v / 8192⟩

/-- The 16-bit value of an index entry (11 section 11.4). -/
def entryValue (e : IndexEntry) : Nat := e.count * 8192 + e.first

/-- An index entry a LOAD may carry (R28). -/
def entryGood (e : IndexEntry) : Bool := decide (e.first ≤ 479) && decide (e.first + e.count ≤ 480)

/-- The entries of a LOAD for its table, decoded. -/
inductive LoadEntries where
  | index (start : Nat) (es : List IndexEntry)
  | pool (start : Nat) (es : List PoolStep)
  | curve (start : Nat) (es : List Nat)
  deriving DecidableEq, Repr

/-- The payload of a LOAD, none where R28's second condition holds. -/
def parseLoad (payload : List Byte) : Option LoadEntries :=
  match payload with
  | tb :: hi :: lo :: n :: rest =>
    match LoadTable.ofByte tb with
    | none => none
    | some t =>
      let start := word16 hi lo
      let cnt := n.toNat
      if cnt = 0 ∨ rest.length ≠ cnt * t.entryBytes ∨ start < t.firstAddress ∨ t.lastAddress < start + cnt - 1 then none
      else match t with
        | .cueIndex =>
          let es := (pairs rest).map entryOf
          if es.all entryGood then some (.index start es) else none
        | .stepPool => some (.pool start (quads rest))
        | .curve => if (pairs rest).all (fun v => decide (v ≤ 1023)) then some (.curve start (pairs rest)) else none
  | _ => none

/-- A run of entries written into a table from a position on. -/
def writeRun {α : Type} {n : Nat} (v : Vector α n) (pos : Nat) : List α → Vector α n
  | [] => v
  | x :: xs => writeRun (v.setIfInBounds pos x) (pos + 1) xs

/-- An ACCEPTED LOAD's entries written (R29). -/
def writeLoad (e : LoadEntries) (s : State) : State :=
  match e with
  | .index start es =>
    let b := s.disp.pendingBank
    { s with disp := s.disp.setPending { b with index := writeRun b.index (start - 1) es } }
  | .pool start es =>
    let b := s.disp.pendingBank
    { s with disp := s.disp.setPending { b with pool := writeRun b.pool start es } }
  | .curve start es => { s with lamp := { s.lamp with curve := writeRun s.lamp.curve start es } }

/-- The entries are for the CURVE. -/
def LoadEntries.isCurve : LoadEntries → Bool
  | .curve _ _ => true
  | .index _ _ => false
  | .pool _ _ => false

/-- A LOAD addressed to the station, judged at its CHECK (R28): its RESULT and the state after it. -/
def judgeLoad (payload : List Byte) (s : State) : State × Result :=
  if s.stn.state ≠ .configuring ∧ s.stn.state ≠ .active then (s, .refusedState)
  else match parseLoad payload with
    | none => (s, .refusedRange)
    | some e =>
      if e.isCurve ∧ s.stn.state ≠ .configuring then (s, .refusedLocked)
      else if s.disp.mirrorBusy then (s, .refusedBusy)
      else (writeLoad e s, .accepted)

end Sys2Proof.Machine
end

