-- ==== Sys2Proof/Machine/Station.lean ====
section
/-! DEFINITION. The Station Controller (chapter 9): station states, configuration, the judging of COMMAND frames, mains loss
and the retained record. -/

namespace Sys2Proof.Machine

/-! ### Configuration window (R164, R165) -/

/-- A configuration-class notice (R164). -/
def noticeConfig (s : State) : State :=
  if s.stn.state = .configuring ∧ s.stn.window = .running then
    { s with stn := { s.stn with window := .stopped } }
  else s

/-- The station enters ACTIVE with the show RUNNING, and the loop-silence timer starts (R163, R20). -/
def enterActive (s : State) : State :=
  restartSilence { s with stn := { s.stn with state := .active, showState := .running, window := .off } }

/-- The commit, the lock mark and the end of the window, the first part of every close (R165). -/
def lockConfiguration (s : State) : State :=
  { s with disp := s.disp.closeCommit, stn := { s.stn with lock := true, window := .off } }

/-- Configuration closes and the station enters ACTIVE (R165). -/
def closeConfiguration (s : State) : State := enterActive (lockConfiguration s)

/-! ### Standby, cooling down and wake (R167 to R169) -/

/-- The standby condition (R168). -/
def standbyCondition (s : State) : Bool := s.cool.cool && !s.tray.inCycle && s.deck.settled

/-- In COOLING_DOWN, the standby condition tested: if it holds, the station enters STANDBY (R168, R118). -/
def standbyTest (s : State) : State :=
  if s.stn.state = .coolingDown ∧ standbyCondition s = true then
    chooseFan { s with stn := { s.stn with state := .standby } }
  else s

/-- The Lamp Engine and the Transport take a new station state, in an order the manual leaves open (R163, log 12). -/
def tellLampAndTray (l : Lamp → Lamp) (t : Transport → Transport) (s : State) : State :=
  let s' := { s with openValues := s.openValues + 1 }
  if Config.lampToldFirst s.openValues then
    let s1 := setLamp (l s'.lamp) s'
    { s1 with tray := t s1.tray }
  else
    setLamp (l s'.lamp) { s' with tray := t s'.tray }

/-- The fan at an entry into COOLING_DOWN, where the lamp that goes OFF may be handed over before the new station state: the stage is then
chosen once without the lamp's call and without COOLING_DOWN's, and again at the new state, so that a fan at stage 1 by the lamp alone
drops to 0 and rises again (R107, R110, R163; log 12). -/
def fanBeforeCoolingDown (s : State) : Cooling :=
  if s.lamp.burning ∧ Config.lampToldBeforeFan s.openValues = true then
    s.cool.setStage (fanWanted { s with lamp := s.lamp.coolDown })
  else s.cool

/-- The entry into COOLING_DOWN as each block takes it (R167, R49, R74, R100, R118, R138). -/
def enterCoolingDown (s : State) : State :=
  let s1 := stopSilence
    { s with
      stn := { s.stn with state := .coolingDown, showState := .none, window := .off }
      cool := fanBeforeCoolingDown s }
  let s2 := chooseFan (tellLampAndTray Lamp.coolDown Transport.flush s1)
  emptySchedule (cancelSound (tapeStop s2))

/-- STANDBY taken (R167): configuration is closed first, and the standby condition is tested at the entry (R168). DESIGN CHOICE (log 44):
the test comes once every block has taken the new state, so that a move that the lamp's OFF started counts as a cycle. -/
def takeStandby (s : State) : State :=
  standbyTest (enterCoolingDown (if s.stn.state = .configuring then lockConfiguration s else s))

/-- WAKE taken (R169). -/
def takeWake (s : State) : State :=
  if s.stn.state = .coolingDown ∨ s.stn.state = .standby then chooseFan (enterActive s) else s

/-! ### Configuration items (R170, R171) -/

/-- The decoder at a change of the tape cue mode (R151). -/
def changeCueMode (m : TapeCueMode) (d : Decoder) : Decoder :=
  let d' := { d with candidate := none, guardWord := none }
  if d.state = .closed then d' else d'.restart (startState m)

/-- The items replaced; a changed tape cue mode reaches the decoder (R171, R151). -/
def writeItems (x : Items) (s : State) : State :=
  { s with
    stn := { s.stn with items := x }
    dec := if x.tapeCueMode = s.stn.items.tapeCueMode then s.dec else changeCueMode x.tapeCueMode s.dec }

/-- A CONFIG_SET of an item and a value, outside MAINS_LOSS (R171). -/
def configSetItem (code v : Nat) (s : State) : State × Result :=
  match s.stn.items.put code v with
  | none => (s, .refusedRange)
  | some x =>
    if x.consistent = false then (s, .refusedRange)
    else if lockedItem code ∧ s.stn.lock then (s, .refusedLocked)
    else (writeItems x s, .accepted)

/-! ### COMMAND frames (R172) -/

/-- A command of a known code in a state that accepts it, by its argument bytes. -/
def runCommand (c : Cmd) (args : List Byte) (s : State) : State × Result :=
  match c, args with
  | .step, [verb, a, b] => if 10 < verb.toNat then (s, .refusedRange) else (directStep verb a b s, .accepted)
  | .hold, [] => (holdEvent s, .accepted)
  | .resume, [] => (resumeEvent s, .accepted)
  | .commit, [] => if s.disp.mirrorBusy then (s, .refusedBusy) else ({ s with disp := s.disp.commit }, .accepted)
  | .configSet, [item, hi, lo] => configSetItem item.toNat (word16 hi lo) s
  | .configClose, [] => (closeConfiguration s, .accepted)
  | .standby, [] => (takeStandby s, .accepted)
  | .wake, [] => (takeWake s, .accepted)
  | .ack, [code] => match Source.ofCode code.toNat with
    | some src => ({ s with attn := s.attn.ack src }, .accepted)
    | none => (s, .refusedRange)
  | .attnSet, [code, enable, level] => match Source.ofCode code.toNat with
    | some src =>
      if enable.toNat ≤ 1 ∧ level.toNat ≤ 1 then
        ({ s with attn := s.attn.setting src (enable == 1#8) (level == 1#8) }, .accepted)
      else (s, .refusedRange)
    | none => (s, .refusedRange)
  | .clearCounters, [] => ({ s with attn := s.attn.clearCounters }, .accepted)
  | .reset, [] => (s, .accepted)
  | _, _ => (s, .refusedRange)

/-- A COMMAND addressed to the station, judged at its CHECK (R172). A configuration-class command is noticed first,
whatever its RESULT (R164). -/
def judgeCommand (payload : List Byte) (s : State) : State × Result :=
  match payload with
  | [] => (s, if s.stn.state = .mainsLoss then .refusedState else .refusedRange)
  | code :: args =>
    match Cmd.ofByte code with
    | none => (s, if s.stn.state = .mainsLoss then .refusedState else .refusedRange)
    | some c =>
      let s' := if c.configClass then noticeConfig s else s
      if c.acceptedIn s'.stn.state then runCommand c args s' else (s', .refusedState)

/-! ### Mains loss and the retained record (R175 to R177) -/

/-- The six field bytes a write stores (R176, 11 section 11.7). -/
def recordFields (s : State) : Vector Byte 6 :=
  let h := s.cool.heat
  let v := byteOf s.deck.volume
  if s.tray.settling = .afterPowerOn then
    if s.stn.valid then
      #v[s.stn.readRecord[0], s.stn.readRecord[1], s.stn.readRecord[2], byteOf (h / 256), byteOf h, v]
    else #v[0#8, 0#8, 0#8, byteOf (h / 256), byteOf h, v]
  else
    #v[byteOf s.tray.size.slots, byteOf s.tray.slot, byteOf s.tray.certainty.code,
       byteOf (h / 256), byteOf h, v]

/-- The write begins by voiding the stored check (R176). -/
def beginWrite (s : State) : State :=
  { s with
    retained := { s.retained with check := ~~~s.retained.check, void := true }
    stn := { s.stn with writing := some (recordFields s) } }

/-- The write ends by storing the new check (R176). -/
def endWrite (s : State) : State :=
  match s.stn.writing with
  | some f =>
    { s with
      retained := ⟨f, crc f.toList, false⟩
      stn := { s.stn with writing := none } }
  | none => s

/-- The fields of a record make sense together (R176). -/
def fieldsMakeSense (f : Vector Byte 6) : Bool :=
  let size := f[0].toNat
  let slot := f[1].toNat
  let certainty := f[2].toNat
  (size == 0 || size == 84 || size == 120) && decide (certainty ≤ 2) && decide (f[5].toNat ≤ 31) &&
    ((certainty == 0) == (size == 0)) && (if size = 0 then slot == 0 else decide (slot < size))

/-- The stored record is valid (R176). -/
def Retained.valid (r : Retained) : Bool := !r.void && r.check == crc r.fields.toList && fieldsMakeSense r.fields

/-- The focus drive at the entry into MAINS_LOSS (R160). -/
def Remote.mainsLoss (r : Remote) : Remote :=
  { keys := (r.keys.set 2 { r.keys[2] with consumed := true }).set 3 { r.keys[3] with consumed := true }
    focus := .stopped }

/-- The entry into MAINS_LOSS as each block takes it, then the write of the retained record (R175). -/
def enterMainsLoss (s : State) : State :=
  let resting := s.stn.state = .coolingDown ∨ s.stn.state = .standby
  let s1 := stopSilence
    { s with stn := { s.stn with state := .mainsLoss, showState := .none, window := .off } }
  let s2 := tellLampAndTray (fun l => l.extinguish .off) Transport.mainsLoss s1
  let s3 := if resting then chooseFan s2 else s2
  beginWrite { emptySchedule (deckMainsLoss s3) with remote := s3.remote.mainsLoss }

/-- MAINS_WARN asserts (R175); in MAINS_LOSS only the level is noted (R177). -/
def mainsWarnOn (s : State) : State :=
  let s' := { s with stn := { s.stn with mainsWarn := true } }
  if s.stn.state = .mainsLoss then s' else enterMainsLoss s'

/-- MAINS_LOSS may be left by a brownout restart: the write has ended and the warning has deasserted (R177;
log 26). -/
def brownoutDue (s : State) : Bool :=
  s.stn.state == .mainsLoss && s.stn.writing.isNone && !s.stn.mainsWarn

/-! ### Loop silence (R21) -/

/-- The loop-silence timer expires (R21). -/
def expireSilence (s : State) : State :=
  if s.loop.silence = .running then
    let p := s.stn.items.silencePolicy
    let s1 := raise .loopSilent p.code { s with loop := { s.loop with silence := .expired } }
    match p with
    | .none => s1
    | .hold => holdEvent s1
    | .dark => requestLamp 0 10 .direct s1
    | .holdDark => requestLamp 0 10 .direct (holdEvent s1)
  else s

end Sys2Proof.Machine
end

