-- ==== Sys2Proof/Machine/Decoder.lean ====
section
/-! DEFINITION. The Cue-Track Decoder (chapter 7): periods, samples, words, confirmation, pulse mode, and the handing on of
cues. -/

namespace Sys2Proof.Machine

/-! ### Periods and samples (R141, R142) -/

/-- The class of a period of so many whole microseconds (R141). -/
def classify (micros : Nat) : PeriodClass :=
  if 300 ≤ micros ∧ micros ≤ 420 then .mark
  else if 480 ≤ micros ∧ micros ≤ 680 then .space
  else .neither

/-- A rising crossing of the cue track, so long after the one before (R141). -/
def takePeriod (micros : Nat) (s : State) : State :=
  if s.dec.state = .closed then s
  else if s.dec.timing then { s with dec := { s.dec with lastPeriod := some (classify micros) } }
  else { s with dec := { s.dec with timing := true } }

/-- The last period as a sample tick reads it, if it completed within the last 2 ms (R142; DEDUCED, log 19). -/
def recentPeriod (d : Decoder) (age : Nat) : Option PeriodClass := if age ≤ 2000 then d.lastPeriod else none

/-- The value of a sample in WORD mode: only a recent SPACE period reads 0 (R142). -/
def wordValue (d : Decoder) (age : Nat) : Bool := recentPeriod d age != some .space

/-- A MARK sample in PULSE mode: only a recent MARK period (R142). -/
def markSample (d : Decoder) (age : Nat) : Bool := recentPeriod d age == some .mark

/-! ### Handing cues on (R150) -/

/-- A confirmed or given cue is handed on (R150). -/
def handOn (cue : Nat) (s : State) : State :=
  let s' := cueArrival cue .tape s
  if s.stn.strapMaster ∧ s.stn.strapDeck then offerFrame (.cue cue) s' else s'

/-! ### Words (R143 to R148) -/

/-- The decoder in a state. -/
def setDecoder (st : DecoderState) (s : State) : State := { s with dec := { s.dec with state := st } }

/-- The number of 1s among the eight data bits (R144). -/
def onesOf (b : Byte) : Nat := (List.range 8).countP fun i => b.getLsbD i

/-- Data and parity bits hold an odd number of 1s (R144). -/
def parityPasses (data : Byte) (parity : Bool) : Bool := (onesOf data + (if parity then 1 else 0)) % 2 == 1

/-- A failed word: kind 1 for parity, 2 for framing (R145). -/
def wordFail (kind : Nat) (s : State) : State :=
  raise .tapeCueFault (kind * 256 + s.dec.data.toNat) (count .tapeWordError (setDecoder .hunting s))

/-- A good word that passed the guard meets the candidate (R147). -/
def meetCandidate (w : Byte) (s : State) : State :=
  match s.dec.candidate with
  | none => { s with dec := { s.dec with candidate := some w } }
  | some c =>
    if c = w then handOn w.toNat { s with dec := { s.dec with candidate := none, guardWord := some w } }
    else count .tapeUnconfirmed { s with dec := { s.dec with candidate := some w } }

/-- A good word completes (R144, R146). -/
def goodWord (w : Byte) (s : State) : State :=
  let s' := setDecoder .hunting s
  if s'.dec.guardWord = some w then s' else meetCandidate w s'

/-- Sample `q` of a word in READING, with its value (R144). -/
def readSample (q : Nat) (v : Bool) (s : State) : State :=
  let s' := setDecoder (.reading q) s
  if q = 47 then
    let s1 := { s' with dec := { s'.dec with parity := v } }
    if parityPasses s.dec.data v then s1 else wordFail 1 s1
  else if q = 52 then (if v then goodWord s.dec.data s' else wordFail 2 s')
  else if q % 5 = 2 ∧ 7 ≤ q ∧ q ≤ 42 then
    { s' with dec := { s'.dec with data := s.dec.data ||| bitAt ((q - 7) / 5) v } }
  else s'

/-- A start bit has shown three spaces: READING begins with the shift word cleared (R143). -/
def beginReading (s : State) : State :=
  { s with dec := { s.dec with state := .reading 2, data := 0#8, parity := false } }

/-- A sample in WORD mode (R143, R144). -/
def wordSample (v : Bool) (s : State) : State :=
  match s.dec.state with
  | .hunting => if v then s else setDecoder (.starting 0) s
  | .starting q =>
    if v then setDecoder .hunting s else if q = 0 then setDecoder (.starting 1) s else beginReading s
  | .reading q => readSample (q + 1) v s
  | .closed => s | .pulseIdle => s | .burst => s | .spent => s

/-! ### Bursts (R149) -/

/-- The shortest burst that gives cue 248 (R149). -/
def shortestBurst : Nat := 53

/-- The burst length at which cue 249 is given (R149). -/
def burstLimit : Nat := 525

/-- PULSE_IDLE entered. DESIGN CHOICE (log 21): with nothing counted. -/
def enterPulseIdle (s : State) : State := { s with dec := s.dec.restart .pulseIdle }

/-- One more non-MARK sample, not the third in a row (R149). -/
def countNonMark (s : State) : State := { s with dec := { s.dec with nonMark := s.dec.nonMark + 1 } }

/-- The burst ends at its third non-MARK sample (R149). -/
def endBurst (s : State) : State :=
  let n := s.dec.burst
  let s' := enterPulseIdle s
  if shortestBurst ≤ n then handOn 248 s' else s'

/-- A MARK sample in BURST (R149). -/
def lengthenBurst (s : State) : State :=
  let n := s.dec.burst + 1
  let s' := { s with dec := { s.dec with burst := n, nonMark := 0 } }
  if burstLimit ≤ n then handOn 249 (setDecoder .spent s') else s'

/-- A sample in PULSE mode (R149). -/
def pulseSample (mark : Bool) (s : State) : State :=
  match s.dec.state with
  | .pulseIdle =>
    if mark then { s with dec := { s.dec with state := .burst, burst := 1, nonMark := 0 } } else s
  | .burst =>
    if mark then lengthenBurst s else if s.dec.nonMark < 2 then countNonMark s else endBurst s
  | .spent =>
    if mark then { s with dec := { s.dec with nonMark := 0 } }
    else if s.dec.nonMark < 2 then countNonMark s else enterPulseIdle s
  | .closed => s | .hunting => s | .starting _ => s | .reading _ => s

/-! ### What the commands of the decoder do -/

/-- A sample tick, with the age of the last period (R142). -/
def takeSample (age : Nat) (s : State) : State :=
  match s.dec.state with
  | .closed => s
  | .hunting => wordSample (wordValue s.dec age) s
  | .starting _ => wordSample (wordValue s.dec age) s
  | .reading _ => wordSample (wordValue s.dec age) s
  | .pulseIdle => pulseSample (markSample s.dec age) s
  | .burst => pulseSample (markSample s.dec age) s
  | .spent => pulseSample (markSample s.dec age) s

/-- The value a word's bits give at a sample position; the positions passed over read 1 here and nowhere matter (R144). -/
def bitAtSample (data : Byte) (parity stop : Bool) (q : Nat) : Bool :=
  if q = 47 then parity
  else if q = 52 then stop
  else if q % 5 = 2 ∧ 7 ≤ q ∧ q ≤ 42 then data.getLsbD ((q - 7) / 5)
  else true

/-- At most `n` further samples of the word in READING, ended where the word ends (R144). -/
def readWordUpTo (data : Byte) (parity stop : Bool) : Nat → State → State
  | 0, s => s
  | n + 1, s =>
    match s.dec.state with
    | .reading q => readWordUpTo data parity stop n (readSample (q + 1) (bitAtSample data parity stop (q + 1)) s)
    | _ => s

/-- The rest of the word in READING read with the given bits (R144). -/
def readWord (data : Byte) (parity stop : Bool) (s : State) : State := readWordUpTo data parity stop 50 s

/-- The candidate's timer expires (R148). -/
def expireCandidate (s : State) : State :=
  match s.dec.candidate with
  | some _ => count .tapeUnconfirmed { s with dec := { s.dec with candidate := none } }
  | none => s

/-- The guard's timer expires (R146). -/
def expireGuard (s : State) : State := { s with dec := { s.dec with guardWord := none } }

/-- The third non-MARK sample in a row, in BURST (R149). -/
def thirdNonMarkInBurst (s : State) : State :=
  if s.dec.state = .burst ∧ s.dec.nonMark = 2 then pulseSample false s else s

/-- The MARK sample that brings a burst to its limit (R149). -/
def limitMark (s : State) : State :=
  if s.dec.state = .burst ∧ s.dec.burst + 1 = burstLimit then pulseSample true s else s

/-- The third non-MARK sample in a row, in SPENT (R149). -/
def thirdNonMarkInSpent (s : State) : State :=
  if s.dec.state = .spent ∧ s.dec.nonMark = 2 then pulseSample false s else s

end Sys2Proof.Machine
end

