-- ==== Sys2Proof/Machine/Remote.lean ====
section
/-! DEFINITION. The Remote Scanner (chapter 8): key scans, presses and releases, what a press does, and the focus drive. -/

namespace Sys2Proof.Machine

/-- What the Scanner keeps of a key. -/
def Remote.get (r : Remote) (k : Key) : KeyRec := r.keys[keyIdx k]

/-- Replace what is kept of a key. -/
def Remote.put (r : Remote) (k : Key) (x : KeyRec) : Remote := { r with keys := r.keys.set (keyIdx k) x }

/-- Samples in a row that recognize a press or a release (R153). -/
def recognizedAt : Nat := 4

/-! ### The focus drive (R159, R160) -/

/-- A focus key drives (R159). -/
def KeyRec.drives (x : KeyRec) : Bool := x.pressed && !x.consumed && !x.limited

/-- The drive state for what the two focus keys do (R159). -/
def focusFor (inDrives outDrives : Bool) : Focus :=
  match inDrives, outDrives with
  | true, false => .inward
  | false, true => .outward
  | true, true => .stopped
  | false, false => .stopped

/-- The drive state chosen afresh (R159). -/
def Remote.chooseFocus (r : Remote) : Remote :=
  { r with focus := focusFor (r.get .focusIn).drives (r.get .focusOut).drives }

/-- The run timer has run 5 s: the driving key is limited (R160). -/
def Remote.limitRun (r : Remote) : Remote :=
  match r.focus with
  | .inward => (r.put .focusIn { r.get .focusIn with limited := true }).chooseFocus
  | .outward => (r.put .focusOut { r.get .focusOut with limited := true }).chooseFocus
  | .stopped => r

/-- The run limit (R160). -/
def focusRunLimit (s : State) : State := { s with remote := s.remote.limitRun }

/-! ### What a press does (R155 to R158) -/

/-- The keys consumed when a press wakes the station: every PRESSED key, and every key with a run toward a press (R155). -/
def Remote.consumeAtWake (r : Remote) : Remote :=
  { r with keys := r.keys.map fun x => { x with consumed := x.consumed || x.pressed || decide (0 < x.run) } }

/-- The keys act as under LOCAL (R156). -/
def localKeys (s : State) : Bool :=
  s.stn.state == .configuring || s.stn.items.remotePolicy == .localKeys

/-- A key relayed as a REMOTE frame, where the policy is RELAY (R158). -/
def relayKey (k : Key) (s : State) : State :=
  if s.stn.items.remotePolicy = .relay then offerFrame (.remote k) s else s

/-- A press of an unconsumed key in CONFIGURING or ACTIVE (R156); a focus key acts through the drive state alone.
DESIGN CHOICE (log 31): a DARK press in CONFIGURING lights an OFF lamp, as R156 and R99 say, though R102 says that only a direct
STEP lights the lamp before configuration closes. -/
def keyAction (k : Key) (s : State) : State :=
  match k with
  | .fwd => if localKeys s then offerMove (.step 1) false .direct s else relayKey k s
  | .rev => if localKeys s then offerMove (.step (-1)) false .direct s else relayKey k s
  | .hold =>
    if s.stn.state = .configuring then s
    else if localKeys s then holdToggle s else relayKey k s
  | .dark => if localKeys s then requestDark s else relayKey k s
  | .focusIn => s
  | .focusOut => s

/-- A press of an unconsumed key, by the station state (R155, R156). -/
def actOnPress (k : Key) (s : State) : State :=
  match s.stn.state with
  | .configuring => keyAction k s
  | .active => keyAction k s
  | .coolingDown => takeWake { s with remote := s.remote.consumeAtWake }
  | .standby => takeWake { s with remote := s.remote.consumeAtWake }
  | .mainsLoss => { s with remote := s.remote.put k { s.remote.get k with consumed := true } }

/-- The focus drive of the part chosen afresh (R159). -/
def chooseFocus (s : State) : State := { s with remote := s.remote.chooseFocus }

/-- A key with its run count ended in PRESSED. -/
def pressKey (k : Key) (s : State) : State :=
  { s with remote := s.remote.put k { s.remote.get k with pressed := true, run := 0 } }

/-- A press is recognized (R153, R155, R156). DESIGN CHOICE (log 35): in STANDBY and COOLING_DOWN a press of a RELEASED key whose
consumed mark still stands (set at an earlier wake for its run toward a press, which then broke off) has no effect; R155 says both
that such a press has no effect and that a press of any key wakes. -/
def recognizePress (k : Key) (s : State) : State :=
  let s' := pressKey k s
  chooseFocus (if (s.remote.get k).consumed then s' else actOnPress k s')

/-- A release is recognized: consumed and limited marks are cleared (R153, R155). -/
def recognizeRelease (k : Key) (s : State) : State :=
  chooseFocus { s with remote := s.remote.put k ⟨false, 0, false, false⟩ }

/-! ### Key scans (R153) -/

/-- One sample of a key: a sample that disagrees with the recognized state lengthens the run, any other ends it (R153). -/
def KeyRec.sample (x : KeyRec) (pressed : Bool) : KeyRec :=
  { x with run := if pressed = x.pressed then 0 else x.run + 1 }

/-- The samples of all keys taken. -/
def Remote.sampleAll (r : Remote) (x : KeySamples) : Remote :=
  allKeys.foldl (fun r k => r.put k ((r.get k).sample (sampleOf k x))) r

/-- A key whose run has reached four changes its recognized state (R153). -/
def recognizeKey (s : State) (k : Key) : State :=
  if recognizedAt ≤ (s.remote.get k).run then
    (if (s.remote.get k).pressed then recognizeRelease k s else recognizePress k s)
  else s

/-- A key scan: the samples, then the events they recognize, in the given order (R153; log 9). -/
def takeScan (x : KeySamples) (order : List Key) (s : State) : State :=
  (order ++ allKeys).foldl recognizeKey { s with remote := s.remote.sampleAll x }

/-- A press of a key that is RELEASED. -/
def pressEvent (k : Key) (s : State) : State := if (s.remote.get k).pressed then s else recognizePress k s

/-- A release of a key that is PRESSED. -/
def releaseEvent (k : Key) (s : State) : State := if (s.remote.get k).pressed then recognizeRelease k s else s

end Sys2Proof.Machine
end

