-- ==== Sys2Proof/Machine/Outputs.lean ====
section
/-! DEFINITION. The output lines, as functions of the state, the held part among them (R173). -/

namespace Sys2Proof.Machine

/-- Drives that are off while the part is held or without supply are on only while it runs (R173). -/
def whileRunning (s : State) (on : Bool) : Bool := s.power == .running && on

/-- The SHUTTER output: asserted is closed (R54, R67, R68). -/
def shutterClosed (s : State) : Bool :=
  match s.tray.state with
  | .cycle _ => true
  | .jammed => true
  | .idle => s.tray.demand == .closed
  | .noTray => s.tray.demand == .closed

/-- The tray motor runs in a direction (R54, R64). -/
def trayRuns (d : Direction) (s : State) : Bool :=
  match s.tray.state, s.tray.cycle with
  | .cycle .index, some c => c.dir == d
  | _, _ => false

/-- TRAY FWD (R64). -/
def trayFwd (s : State) : Bool := whileRunning s (trayRuns .forward s)

/-- TRAY REV (R64). -/
def trayRev (s : State) : Bool := whileRunning s (trayRuns .backward s)

/-- CAM RUN (R63, R66). -/
def camRun (s : State) : Bool :=
  whileRunning s (s.tray.state == .cycle .lift || s.tray.state == .cycle .drop)

/-- LAMP DRIVE (R90, R173). -/
def lampDrive (s : State) : Nat := if s.power = .running then s.lamp.drive else 0

/-- FAN PWM: the duty of the fan stage in force (R108). -/
def fanPwm (s : State) : Nat := s.stn.items.duty s.cool.fanStage

/-- DECK PLAY (R124). -/
def deckPlay (s : State) : Bool := whileRunning s (s.deck.state == .playing)

/-- DECK FWD (R124). -/
def deckFwd (s : State) : Bool := whileRunning s (s.deck.state == .windingFwd)

/-- DECK REV (R124). -/
def deckRev (s : State) : Bool :=
  whileRunning s (match s.deck.state with
    | .windingRev _ => true
    | _ => false)

/-- DECK BRAKE (R124, R138, R173). DESIGN CHOICE (log 32): it keeps its level once the supply has fallen too; R138 says of MAINS_LOSS
only that it is on while the supply lasts. -/
def deckBrake (s : State) : Bool :=
  match s.deck.state with
  | .stopped => true
  | .braking _ _ => true
  | .paused _ => true
  | .noCassette => false | .playing => false | .windingFwd => false | .windingRev _ => false

/-- VOLUME (R134). -/
def volumeLines (s : State) : Nat := s.deck.volume

/-- A station state in which MUTE is asserted (R137). -/
def mutedState (st : StationState) : Bool :=
  st == .coolingDown || st == .standby || st == .mainsLoss

/-- MUTE (R137, R173). -/
def mute (s : State) : Bool :=
  s.power != .running || s.deck.state != .playing || s.deck.volume == 0 || mutedState s.stn.state

/-- FOCUS IN (R159). -/
def focusInDrive (s : State) : Bool := whileRunning s (s.remote.focus == .inward)

/-- FOCUS OUT (R159). -/
def focusOutDrive (s : State) : Bool := whileRunning s (s.remote.focus == .outward)

end Sys2Proof.Machine
end

