-- ==== Sys2Proof/Machine/Query.lean ====
section
/-! DEFINITION. The five records and the answer to a QUERY (R185, R186, 11 section 11.6). -/

namespace Sys2Proof.Machine

/-! ### Codes of STATUS -/

/-- The code of a station state. -/
def StationState.code : StationState → Nat
  | .configuring => 1 | .active => 2 | .coolingDown => 3 | .standby => 4 | .mainsLoss => 5

/-- The code of a show state. -/
def ShowState.code : ShowState → Nat
  | .none => 0 | .running => 1 | .held => 2

/-- The code of a transport state. -/
def TransportState.code : TransportState → Nat
  | .noTray => 1 | .idle => 2 | .cycle _ => 3 | .jammed => 4

/-- The phase in STATUS; 0 for none. -/
def TransportState.phaseCode : TransportState → Nat
  | .cycle ph => ph.code
  | .noTray => 0 | .idle => 0 | .jammed => 0

/-- The code of a lamp state. -/
def LampState.code : LampState → Nat
  | .off => 0 | .warming => 1 | .lit => 2 | .tripped => 3 | .failed => 4

/-- The code of a deck state. -/
def DeckState.code : DeckState → Nat
  | .noCassette => 0 | .stopped => 1 | .braking _ _ => 2 | .playing => 3 | .paused _ => 4
  | .windingFwd => 5 | .windingRev _ => 6

/-- The deck state code of a pending mode. -/
def Pending.code : Pending → Nat
  | .stopped => 1 | .playing => 3 | .pausedHold => 4 | .windingFwd => 5 | .windingRev _ => 6

/-- The pending mode in STATUS; 0 for none. -/
def DeckState.pendingCode : DeckState → Nat
  | .braking m _ => m.code
  | .noCassette => 0 | .stopped => 0 | .playing => 0 | .paused _ => 0 | .windingFwd => 0 | .windingRev _ => 0

/-- The hold mark of the present or pending mode. -/
def DeckState.holdMark : DeckState → Bool
  | .paused h => h
  | .braking .pausedHold _ => true
  | _ => false

/-- The to-zero mark of the present or pending mode. -/
def DeckState.toZeroMark : DeckState → Bool
  | .windingRev z => z
  | .braking (.windingRev z) _ => z
  | _ => false

/-- The code of a cue source. -/
def CueSource.code : CueSource → Nat
  | .none => 0 | .loop => 1 | .tape => 2 | .follow => 3

/-- The code of a bank. -/
def BankName.code : BankName → Nat
  | .a => 0 | .b => 1

/-- The held source as a code; 0 for none. -/
def Attn.heldCode (a : Attn) : Nat :=
  match a.held with
  | some c => c.code
  | none => 0

/-! ### The records -/

/-- The trip causes as a flags byte (11 section 11.6). -/
def tripFlags (c : Cooling) : Byte := bitAt 0 c.thermal ||| bitAt 1 c.fanStall ||| bitAt 2 c.cutout

/-- The 37 bytes of STATUS (11 section 11.6). -/
def statusRecord (s : State) : List Byte :=
  [byteOf s.stn.state.code, byteOf s.stn.showState.code, byteOf (stationNumber s), s.loop.position,
   byteOf s.tray.state.code, byteOf s.tray.state.phaseCode, byteOf s.tray.size.slots, byteOf s.tray.slot,
   byteOf s.tray.certainty.code, byteOf s.tray.queue.length, bitAt 0 (shutterClosed s), byteOf s.lamp.state.code] ++
  bytes16 s.lamp.p ++ bytes16 s.lamp.ramp.target ++ bytes16 s.lamp.drive ++ bytes16 s.cool.ceiling ++
  bytes16 s.cool.heat ++
  [byteOf s.cool.fanStage, byteOf s.cool.lastTach, tripFlags s.cool, byteOf s.deck.state.code,
   byteOf s.deck.state.pendingCode, bitAt 0 s.deck.state.holdMark ||| bitAt 1 s.deck.state.toZeroMark] ++
  bytes16 s.deck.counter ++
  [byteOf s.deck.volume, byteOf s.disp.schedule.length, byteOf s.disp.lastCue, byteOf s.disp.lastSource.code,
   byteOf s.disp.live.code, bitAt 0 s.disp.mirrorBusy, byteOf s.attn.heldCode]

/-- The flags byte of a source (11 section 11.6). -/
def SourceRec.flags (r : SourceRec) : Byte :=
  bitAt 0 r.flag ||| bitAt 1 r.again ||| bitAt 2 r.enable ||| bitAt 3 r.high

/-- The 17 bytes of ATTENTION. -/
def attentionRecord (a : Attn) : List Byte := a.sources.toList.map SourceRec.flags ++ [byteOf a.heldCode]

/-- The 18 bytes of COUNTERS. -/
def countersRecord (a : Attn) : List Byte := a.counters.toList.flatMap bytes16

/-- The 40 bytes of CONFIG. -/
def configRecord (s : State) : List Byte :=
  let x := s.stn.items
  [byteOf s.stn.strapStation, bitAt 0 s.stn.strapDeck ||| bitAt 1 s.stn.strapMaster] ++ bytes16 x.groupSet.toNat ++
  [byteOf x.remotePolicy.code, byteOf x.silenceTimeout, byteOf x.silencePolicy.code, byteOf x.tapeCueMode.code,
   byteOf x.preheat] ++ bytes16 x.slew ++ [byteOf x.heatGain] ++
  bytes16 x.heatWarn ++ bytes16 x.heatMax ++ bytes16 x.heatResume ++ bytes16 x.heatCool ++
  bytes16 x.up1 ++ bytes16 x.up2 ++ bytes16 x.up3 ++ bytes16 x.hysteresis ++
  [byteOf x.duty0, byteOf x.duty1, byteOf x.duty2, byteOf x.duty3,
   byteOf x.loss0, byteOf x.loss1, byteOf x.loss2, byteOf x.loss3,
   byteOf x.tach1, byteOf x.tach2, byteOf x.tach3, bitAt 0 s.stn.lock]

/-! ### The reply (R185) -/

/-- OK and TRUNCATED. -/
def replyOk : Byte := 0x01#8
def replyTruncated : Byte := 0x02#8

/-- A record from an offset on, in an area of so many bytes; empty where the QUERY goes unanswered (R185, R186). -/
def recordReply (bytes : List Byte) (offset area : Nat) : List Byte :=
  if area = 0 ∨ bytes.length ≤ offset then []
  else
    let rest := bytes.drop offset
    if rest.length + 1 ≤ area then replyOk :: rest else replyTruncated :: rest.take (area - 1)

/-- The bytes of an index entry and of a step (11 section 11.4). -/
def entryBytesOf (e : IndexEntry) : List Byte := bytes16 (entryValue e)
def stepBytesOf (p : PoolStep) : List Byte := [p.verb, p.a, p.b, p.delay]

/-- The bytes of entry `addr` of a table, read in a bank of the Dispatcher (`pending` or live), where a mirror in progress has
copied so many entries: first the index, then the pool (R32). -/
def tableEntry (s : State) (pending : Bool) (t : LoadTable) (addr : Nat) : List Byte :=
  let b (k : Nat) : Bank :=
    if pending ∧ ¬(s.disp.mirrorBusy ∧ k < s.disp.mirrorCopied) then s.disp.pendingBank else s.disp.liveBank
  match t with
  | .cueIndex => entryBytesOf ((b (addr - 1)).entry addr)
  | .stepPool => stepBytesOf ((b (Config.indexEntries + addr)).step addr)
  | .curve => bytes16 (curvePoint s.lamp.curve addr)

/-- A TABLE reply in an area of so many bytes (R186); the start lies in the table. -/
def tableReply (s : State) (pending : Bool) (t : LoadTable) (start area : Nat) (bank table hi lo : Byte) : List Byte :=
  let n := min ((area - 6) / t.entryBytes) (t.lastAddress + 1 - start)
  if area = 0 then []
  else if 6 + t.entryBytes ≤ area then
    [replyOk, bank, table, hi, lo, byteOf n] ++
      (List.range n).flatMap fun i => tableEntry s pending t (start + i)
  else ([replyTruncated, bank, table, hi, lo, 0#8]).take area

/-- A mirror looked at: how far it has come is a free value that never goes back (R32; log 6). -/
def lookAtMirror (s : State) : State :=
  if s.disp.mirrorBusy then
    { s with
      disp := { s.disp with
        mirrorCopied := max s.disp.mirrorCopied
          (min (Config.indexEntries + Config.poolSteps) (Config.mirrorProgress s.openValues)) }
      openValues := s.openValues + 1 }
  else s

/-- The number of SELECT bytes of a RECORD code; none for an unknown code (11 section 11.6). -/
def selectBytes (record : Byte) : Option Nat :=
  if 1 ≤ record.toNat ∧ record.toNat ≤ 4 then some 1
  else if record = 5#8 then some 4
  else none

/-- The bytes of a record of a code 1..4. -/
def recordOf (record : Byte) (s : State) : List Byte :=
  if record = 1#8 then statusRecord s
  else if record = 2#8 then attentionRecord s.attn
  else if record = 3#8 then countersRecord s.attn
  else if record = 4#8 then configRecord s
  else []

/-- The answer to a QUERY whose RECORD and SELECT bytes have come, for an area of so many bytes (R185, R186): the bytes to
write, none where it goes unanswered, and the state after a mirror was looked at. -/
def answerQuery (fields : List Byte) (area : Nat) (s : State) : List Byte × State :=
  match fields with
  | [record, offset] =>
    if selectBytes record = some 1 then (recordReply (recordOf record s) offset.toNat area, s) else ([], s)
  | [record, bank, table, hi, lo] =>
    if record = 5#8 ∧ bank.toNat ≤ 1 then
      match LoadTable.ofByte table with
      | some t =>
        let start := word16 hi lo
        if t.firstAddress ≤ start ∧ start ≤ t.lastAddress then
          let s' := if bank = 1#8 ∧ 0 < area then lookAtMirror s else s
          (tableReply s' (bank == 1#8) t start area bank table hi lo, s')
        else ([], s)
      | none => ([], s)
    else ([], s)
  | _ => ([], s)

end Sys2Proof.Machine
end

