-- ==== Sys2Proof/Machine/LoopPort.lean ====
section
/-! DEFINITION. The Loop Port (chapter 1): LOOP OUT with its arbiter and delay buffer, the frame in passage byte by byte, what
is decided at each byte, and what a good CHECK sets going. -/

namespace Sys2Proof.Machine

/-! ### LOOP OUT (R4, R17, R18) -/

/-- The sending of a byte begins (R1). -/
def LoopOut.send (o : LoopOut) (b : Byte) : LoopOut :=
  { o with sent := o.sent ++ [b], left := Config.byteTime, idle := 0 }

/-- A bit time passes on the line: of the byte being sent, or of idle. A byte sent whole is one less ahead of a loop reset
that waits (R1, R17, R173). -/
def LoopOut.bitTime (o : LoopOut) : LoopOut :=
  if o.left = 0 then { o with idle := min Config.frameGap (o.idle + 1) }
  else { o with
    left := o.left - 1
    idle := 0
    resetAhead := if o.left = 1 then o.resetAhead.map (· - 1) else o.resetAhead }

/-- On a line with no byte on it the next byte of the originated frame begins, or the next byte of the delay buffer, whose frames
are kept two byte times of idle apart (R17, R18). DESIGN CHOICE (log 45): a byte frees its place in the delay buffer when its sending
begins. -/
def LoopOut.next (o : LoopOut) : LoopOut :=
  if o.left ≠ 0 then o
  else match o.originating with
    | b :: rest => { (o.send b) with originating := rest }
    | [] => match o.buffer with
      | d :: rest => if d.first ∧ o.idle < Config.frameGap then o else { (o.send d.byte) with buffer := rest }
      | [] => o

/-- One bit time of LOOP OUT (R17, R18). -/
def LoopOut.tick (o : LoopOut) : LoopOut := o.bitTime.next

/-- So many bit times of LOOP OUT. -/
def LoopOut.ticks : Nat → LoopOut → LoopOut
  | 0, o => o
  | n + 1, o => ticks n o.tick

/-- A byte to be repeated may be sent at once (R4); the first byte of a frame needs two byte times of idle before it (R18;
DEDUCED, log 22). -/
def LoopOut.freeFor (o : LoopOut) (first : Bool) : Bool :=
  o.left == 0 && o.originating.isEmpty && o.buffer.isEmpty && (!first || decide (Config.frameGap ≤ o.idle))

/-- The bytes that have begun or wait on LOOP OUT and are not yet sent whole. -/
def LoopOut.unsent (o : LoopOut) : Nat := (if o.left = 0 then 0 else 1) + o.originating.length + o.buffer.length

/-- A byte of the frame in passage goes out: at once, or behind the delay buffer; a full buffer ends the frame on the way out,
and FRAMING_FAIL is counted (R4, R18; log 23). -/
def emit (b : Byte) (first : Bool) (s : State) : State :=
  if s.out.cut then s
  else if s.out.freeFor first then { s with out := s.out.send b }
  else if s.out.buffer.length < Config.delayCapacity then
    { s with out := { s.out with buffer := s.out.buffer ++ [⟨b, first⟩] } }
  else count .framingFail { s with out := { s.out with cut := true } }

/-- Send a byte, or nothing where the frame is stripped. -/
def emitSome (b : Option Byte) (s : State) : State :=
  match b with
  | some x => emit x false s
  | none => s

/-- So many bit times pass on LOOP OUT. -/
def passOut (n : Nat) (s : State) : State := { s with out := s.out.ticks n }

/-! ### The frame in passage (R3, R14) -/

/-- The header fields received so far. -/
def Passage.kindByte (p : Passage) : Byte := p.got.getD 0 0#8
def Passage.kind (p : Passage) : Option FrameKind := FrameKind.ofByte p.kindByte
def Passage.target (p : Passage) : Byte := p.got.getD 1 0#8
def Passage.origin (p : Passage) : Byte := p.got.getD 2 0#8
def Passage.hop (p : Passage) : Byte := p.got.getD 3 0#8
def Passage.length (p : Passage) : Nat := (p.got.getD 4 0#8).toNat

/-- The payload bytes received so far. -/
def Passage.payload (p : Passage) : List Byte := (p.got.drop 5).take p.length

/-- The kind's fixed payload length is right, or the kind has none (R13). -/
def Passage.lengthRight (p : Passage) (k : FrameKind) : Bool :=
  match k.fixedLength with
  | some n => p.length == n
  | none => true

/-- The frame is for this station by number: the single target of a COMMAND or LOAD, the station of a QUERY (R10, R12). -/
def singleTarget (p : Passage) (s : State) : Bool :=
  stationNumber s != 0 && p.target.toNat == stationNumber s

/-- A CUE or REMOTE frame with the station's own nonzero number as ORIGIN (R14). -/
def strips (p : Passage) (origin : Byte) (s : State) : Bool :=
  (p.kind == some .cue || p.kind == some .remote) && stationNumber s != 0 && origin.toNat == stationNumber s

/-- The passage right after SYNC (R188). -/
def Passage.start : Passage := ⟨[], Config.crcStart, Config.crcStart, false, [], none, false⟩

/-- The passage after a byte below the check: received, and sent as given; a stripped frame sends nothing. -/
def Passage.push (p : Passage) (received sent : Byte) : Passage :=
  { p with
    got := p.got ++ [received]
    rxCheck := crcByte p.rxCheck received
    txCheck := crcByte p.txCheck sent }

/-- What LOOP IN is receiving. -/
def setRx (r : Rx) (s : State) : State := { s with loop := { s.loop with rx := r } }

/-- LOOP IN has just brought a byte. -/
def noteByte (s : State) : State := { s with loop := { s.loop with inIdle := 0, bits := 0 } }

/-- A passage goes on: its byte is sent unless the frame is stripped. -/
def passOn (p : Passage) (received sent : Byte) (s : State) : State :=
  let s' := setRx (.frame (p.push received sent)) s
  if p.stripped then s' else emit sent false s'

/-- HOP as sent (R5): one more, or 255. -/
def nextHop (hop : Byte) : Byte := if hop = 255#8 then 255#8 else hop + 1#8

/-! ### The end of a frame -/

/-- A RESET accepted in the frame that now ends waits until its last byte, and what goes before it, has been sent to its end
(R7, R22, R173; log 24). -/
def scheduleReset (p : Passage) (s : State) : State :=
  if p.resetTaken ∧ s.out.resetAhead = none then
    { s with out := { s.out with resetAhead := some s.out.unsent } }
  else s

/-- The frame has reached its end (R3). -/
def endFrame (p : Passage) (s : State) : State := scheduleReset p (setRx .quiet s)

/-- What a rewrite held provisionally is undone (R8, R181, R19). -/
def undoProvisional (s : State) : State :=
  { s with attn := s.attn.drop, loop := { s.loop with provNumber := none } }

/-- A framing failure (R9): counted, what was provisional undone, and LOOP IN left receiving `r`. DESIGN CHOICE (log 36): it is counted
too where the frame was cut at a full delay buffer and counted there (R18). -/
def failFrame (p : Passage) (r : Rx) (s : State) : State :=
  scheduleReset p (setRx r (undoProvisional (count .framingFail s)))

/-! ### Payload bytes (R8) -/

/-- The slot bytes of a source, as a filling station writes them (R180, 11 section 11.3). -/
def slotBytes (number : Nat) (c : Source) (a : Attn) : List Byte :=
  [byteOf number, byteOf c.code, bitAt 0 (a.get c).high] ++ bytes16 (a.get c).detail ++ [bitAt 0 (a.get c).again]

/-- The source this station offers in the slot of a POLL whose STATION byte arrives (R180, R189). -/
def pollOffer (minLevel station : Byte) (s : State) : Option Source :=
  if station = 0#8 ∧ stationNumber s ≠ 0 ∧ (minLevel = 1#8 ∨ minLevel = 2#8) then s.attn.offer (minLevel == 2#8)
  else none

/-- A source offered is held provisionally, unless it is held already (R181). -/
def Attn.holdProvisionally (a : Attn) (c : Source) : Attn := if a.held = some c then a else { a with prov := some c }

/-- The STATION byte of a POLL (R180). DESIGN CHOICE (log 33): all six bytes are those of this moment, at which R180 has the
station decide, though R8 decides a rewrite at the arrival of the byte to be rewritten: a raise or a side-effect clear that falls
before the later bytes does not change them. -/
def pollByte (p : Passage) (b : Byte) (s : State) : State :=
  match pollOffer (p.got.getD 5 0#8) b s with
  | none => passOn p b b s
  | some c =>
    let bytes := slotBytes (stationNumber s) c s.attn
    passOn { p with reply := bytes.drop 1 } b (bytes.headD b) { s with attn := s.attn.holdProvisionally c }

/-- The station is eligible for an ASSIGN (R19). -/
def eligible (p : Passage) (s : State) : Bool :=
  s.stn.state == .configuring && s.stn.strapStation == 0 && stationNumber s == 0 &&
    matchesTarget s p.target.toNat

/-- The NEXT byte of an ASSIGN (R19). -/
def assignByte (p : Passage) (b : Byte) (s : State) : State :=
  if eligible p s ∧ 1 ≤ b.toNat ∧ b.toNat ≤ 30 then
    passOn p b (b + 1#8) { s with loop := { s.loop with provNumber := some b.toNat } }
  else passOn p b b s

/-- A RECORD or SELECT byte of a QUERY for this station: after the last of them the answer is fixed (R185). -/
def queryByte (p : Passage) (b : Byte) (s : State) : State :=
  let fields := p.payload ++ [b]
  if singleTarget p s ∧ (selectBytes (fields.headD 0#8)).map (· + 1) = some fields.length then
    let a := answerQuery fields (p.length - fields.length) s
    passOn { p with reply := a.1 } b b a.2
  else passOn p b b s

/-- A payload byte: rewritten if a rewrite is in progress, else decided by its kind (R8). -/
def payloadByte (p : Passage) (b : Byte) (s : State) : State :=
  match p.reply with
  | r :: rest => passOn { p with reply := rest } b r s
  | [] =>
    match p.kind with
    | some .poll => if p.length = 7 ∧ p.got.length = 6 then pollByte p b s else passOn p b b s
    | some .query => queryByte p b s
    | some .assign => if p.length = 1 then assignByte p b s else passOn p b b s
    | some .cue => passOn p b b s
    | some .command => passOn p b b s
    | some .load => passOn p b b s
    | some .remote => passOn p b b s
    | none => passOn p b b s

/-! ### What a good CHECK sets going (R7) -/

/-- A CUE frame's group field and cue number reach the Dispatcher (R35). -/
def takeCue (payload : List Byte) (s : State) : State :=
  match payload with
  | [group, cue] =>
    if group = 255#8 ∨ (group.toNat < 16 ∧ inGroup s group.toNat) then cueArrival cue.toNat .loop s else s
  | _ => s

/-- An ASSIGN addressed to the station: the notice, and the provisional number made firm (R19, R164). -/
def takeAssign (s : State) : State :=
  let s' := noticeConfig s
  match s'.loop.provNumber with
  | some n => { s' with loop := { s'.loop with assigned := some n, provNumber := none } }
  | none => s'

/-- The RESULT the trailer carries, if this station writes one (R10). -/
def trailerResult (p : Passage) (r : Result) (s : State) : Option Byte :=
  if singleTarget p s then some r.code else none

/-- A frame with a good check and the right length handed to its owner (R7, R12): the state after it, and the passage with the
RESULT and the reset that its trailer needs. -/
def actOn (k : FrameKind) (p : Passage) (s : State) : State × Passage :=
  match k with
  | .cue => (takeCue p.payload s, p)
  | .poll => ({ s with attn := s.attn.firm }, p)
  | .query => (s, p)
  | .remote => (s, p)
  | .assign => (if matchesTarget s p.target.toNat then takeAssign s else s, p)
  | .command =>
    if matchesTarget s p.target.toNat then
      let a := judgeCommand p.payload s
      (a.1, { p with
        result := trailerResult p a.2 s
        resetTaken := p.payload == [Cmd.reset.code] && a.2 == .accepted })
    else (s, p)
  | .load =>
    if matchesTarget s p.target.toNat then
      let a := judgeLoad p.payload (noticeConfig s)
      (a.1, { p with result := trailerResult p a.2 s })
    else (s, p)

/-- The loop position taken from a good frame of the show computer (R5); DEDUCED (log 14): at its CHECK. -/
def takePosition (p : Passage) (s : State) : State :=
  if p.origin = 0#8 then { s with loop := { s.loop with position := p.hop } } else s

/-- A good check of a known kind, not stripped: position, silence timer, then the frame's own action, or FRAMING_FAIL for a
wrong fixed length (R5, R7, R13, R20). -/
def goodFrame (k : FrameKind) (p : Passage) (s : State) : State × Passage :=
  let s' := restartSilence (takePosition p s)
  if p.lengthRight k then actOn k p s' else (count .framingFail s', p)

/-- After its CHECK a frame ends, or goes on to its trailer (R3). -/
def afterCheck (k : FrameKind) (p : Passage) (check : Byte) (s : State) : State :=
  let p' := { p with got := p.got ++ [check] }
  if k.hasTrailer then setRx (.frame p') s else endFrame p' s

/-- The CHECK byte of a frame of a known kind (R6). -/
def knownCheck (k : FrameKind) (p : Passage) (b : Byte) (s : State) : State :=
  if b = p.rxCheck then
    let a := goodFrame k p s
    afterCheck k a.2 b (emit p.txCheck false a.1)
  else afterCheck k p b (emit (~~~p.txCheck) false (undoProvisional (count .checkFail s)))

/-- The CHECK byte of a stripped frame (R14): nothing is sent or counted; a good check restarts the silence timer (log 15). -/
def strippedCheck (p : Passage) (b : Byte) (s : State) : State :=
  endFrame p (if b = p.rxCheck then restartSilence s else s)

/-- The CHECK byte of a frame of an unknown kind (R11, R20); DEDUCED (log 13): it sets no loop position. -/
def unknownCheck (p : Passage) (b : Byte) (s : State) : State :=
  endFrame p (count .unknownKind (if b = p.rxCheck then restartSilence (emit b false s) else emit b false s))

/-- The CHECK byte (R6). -/
def checkByte (p : Passage) (b : Byte) (s : State) : State :=
  match p.kind with
  | none => unknownCheck p b s
  | some k => if p.stripped then strippedCheck p b s else knownCheck k p b s

/-- A trailer byte (R10); the second one ends the frame. -/
def trailerByte (p : Passage) (second : Bool) (b : Byte) (s : State) : State :=
  let x := match p.result with
    | some r => if second then ~~~r else r
    | none => b
  let p' := { p with got := p.got ++ [b] }
  let s' := emit x false s
  if second then endFrame p' s' else setRx (.frame p') s'

/-! ### One byte (R2 to R11) -/

/-- The ORIGIN byte (R14). -/
def originByte (p : Passage) (b : Byte) (s : State) : State := passOn { p with stripped := strips p b s } b b s

/-- The HOP byte (R5, R11). -/
def hopByte (p : Passage) (b : Byte) (s : State) : State :=
  if p.kind = none then passOn p b b s else passOn p b (nextHop b) s

/-- The LENGTH byte (R9): above 32 it is sent, and the frame has failed. -/
def lengthByte (p : Passage) (b : Byte) (s : State) : State :=
  if Config.maxLength < b.toNat then failFrame p (.stray false) (passOn p b b s) else passOn p b b s

/-- A byte of the frame in passage, by its place (R3). -/
def frameByte (p : Passage) (b : Byte) (s : State) : State :=
  match p.got.length with
  | 0 => passOn p b b s
  | 1 => passOn p b b s
  | 2 => originByte p b s
  | 3 => hopByte p b s
  | 4 => lengthByte p b s
  | n + 5 =>
    if n < p.length then payloadByte p b s
    else if n = p.length then checkByte p b s
    else trailerByte p (n != p.length + 1) b s

/-- A frame begins with its SYNC (R2, R4). -/
def beginFrame (s : State) : State :=
  emit Config.sync true
    (setRx (.frame Passage.start) { s with out := { s.out with cut := false } })

/-- A byte on LOOP IN while no frame is in passage: SYNC, or a stray byte (R2). -/
def quietByte (b : Byte) (s : State) : State :=
  if b = Config.sync ∧ Config.frameGap ≤ s.loop.inIdle then beginFrame s else setRx (.stray true) s

/-- What is left of the byte time of the byte arriving on LOOP IN passes (R1). -/
def passByte (s : State) : State := passOut (Config.byteTime - s.loop.bits) s

/-- One whole byte received on LOOP IN: its byte time passes, then the byte is taken (R1, R2). -/
def rxByte (b : Byte) (s : State) : State :=
  let s' := passByte s
  noteByte (match s'.loop.rx with
    | .quiet => quietByte b s'
    | .stray _ => s'
    | .frame p => frameByte p b s')

/-- Bytes received back to back. -/
def rxBytes (bs : List Byte) (s : State) : State := bs.foldl (fun s b => rxByte b s) s

/-! ### Idle time and broken bytes (R1, R2, R9) -/

/-- What the idle time so far ends: a frame in passage after more than one byte time, a run of stray bytes after two (R2). DESIGN CHOICE
(log 42): a run that began with the bytes of a frame with a LENGTH above 32 counts nothing, whatever stray bytes join it (R9). -/
def endByIdle (s : State) : State :=
  match s.loop.rx with
  | .quiet => s
  | .stray counts =>
    if Config.frameGap ≤ s.loop.inIdle then setRx .quiet (if counts then count .framingFail s else s) else s
  | .frame p => if Config.byteTime < s.loop.inIdle then failFrame p .quiet s else s

/-- A bit time of a byte arriving on LOOP IN passes, up to its tenth; the byte is received whole when a command brings its value
(R1, R17). -/
def byteTick (s : State) : State :=
  if s.loop.bits < Config.byteTime then { passOut 1 s with loop := { s.loop with bits := s.loop.bits + 1 } } else s

/-- So many bit times of a byte arriving on LOOP IN pass. -/
def byteFor : Nat → State → State
  | 0, s => s
  | n + 1, s => byteFor n (byteTick s)

/-- A bit time passes of a line held at the space level after a broken byte: LOOP IN is not idle yet (R1). -/
def spaceTick (s : State) : State := { passOut 1 s with loop := { s.loop with space := s.loop.space - 1 } }

/-- A line held at the space level after a broken byte returns to the mark level (R1). -/
def markAgain (s : State) : State := { passOut s.loop.space s with loop := { s.loop with space := 0 } }

/-- A bit time passes in which LOOP IN brings no byte: the line is still held at the space level, or it is idle, or, where a byte is
arriving, the time is that byte's (R1). -/
def idleTick (s : State) : State :=
  if s.loop.space ≠ 0 then spaceTick s
  else if s.loop.bits = 0 then
    endByIdle { passOut 1 s with loop := { s.loop with inIdle := min Config.frameGap (s.loop.inIdle + 1) } }
  else byteTick s

/-- So many bit times pass in which LOOP IN brings no byte. -/
def idleFor : Nat → State → State
  | 0, s => s
  | n + 1, s => idleFor n (idleTick s)

/-- A broken byte on LOOP IN, after which the line stays at the space level for so many bit times more; they pass in the commands that
follow, so that an originated frame may begin within them (R1, R9, R17). With no frame in passage it counts as a stray byte (DEDUCED,
log 16). -/
def takeBrokenByte (held : Nat) (s : State) : State :=
  let s' := passByte s
  let s'' := noteByte (match s'.loop.rx with
    | .quiet => setRx (.stray true) s'
    | .stray _ => s'
    | .frame p => failFrame p .quiet s')
  { s'' with loop := { s''.loop with space := held } }

/-! ### Originated frames (R16, R17) -/

/-- The HOP of an originated frame (R16). -/
def originHop (s : State) : Byte := if s.loop.position = 255#8 then 255#8 else s.loop.position + 1#8

/-- KIND and payload of an originated frame (R16). -/
def originBody (x : OrigFrame) (s : State) : Byte × List Byte :=
  match x with
  | .cue n => (FrameKind.cue.code, [255#8, byteOf n])
  | .remote k => (FrameKind.remote.code, [byteOf (keyCode k), byteOf (stationNumber s)])

/-- The nine bytes of an originated frame, built from the state as it stands (R16). -/
def originatedBytes (x : OrigFrame) (s : State) : List Byte :=
  let b := originBody x s
  let covered := [b.1, 0#8, byteOf (stationNumber s), originHop s, 2#8] ++ b.2
  [Config.sync] ++ covered ++ [crc covered]

/-- No frame is in passage on LOOP IN. -/
def Rx.noFrame : Rx → Bool
  | .quiet => true | .stray _ => true | .frame _ => false

/-- An originated frame may begin (R17). -/
def mayOriginate (s : State) : Bool :=
  s.out.freeFor true && s.loop.rx.noFrame

/-- The arbiter begins an originated frame: its SYNC begins to be sent, and its other bytes follow it (R17). -/
def startOriginated (s : State) : State :=
  if mayOriginate s then
    match s.loop.origQueue with
    | x :: rest =>
      { s with
        loop := { s.loop with origQueue := rest }
        out := { s.out with originating := originatedBytes x s }.next }
    | [] => s
  else s

/-! ### Commands of the loop -/

/-- A command of the loop begins with nothing sent yet (log 5). -/
def clearSent (s : State) : State := { s with out := { s.out with sent := [] } }

/-- A command that brings LOOP IN idle time or bytes begins: the line is back at the mark level (R1, log 34). -/
def lineReady (s : State) : State := markAgain (clearSent s)

/-- A frame, or a part of one, arrives on LOOP IN after its gap (R2, R3), and the byte that follows may begin to arrive (R17). -/
def frameArrives (f : Frame) (bytes : List Byte) (s : State) : State :=
  byteFor f.bits (rxBytes (framePart f bytes) (idleFor f.gap (lineReady s)))

/-- A frame of a known kind arrives. -/
def knownFrame (k : FrameKind) (f : Frame) (payload : List Byte) (s : State) : State :=
  frameArrives f (frameBytes f k.code payload k.hasTrailer) s

/-- A COMMAND frame of a known command arrives. -/
def commandFrame (c : Cmd) (f : Frame) (args : List Byte) (s : State) : State :=
  knownFrame .command f (c.code :: args) s

end Sys2Proof.Machine
end

