-- ==== Sys2Proof/Machine/Resets.lean ====
section
/-! DEFINITION. The four resets (R173, R174) with every block's values after them, the supply, and the RESET pin. -/

namespace Sys2Proof.Machine

/-- The four kinds of reset (R173). -/
inductive ResetKind where
  | powerOn | pin | loop | brownout
  deriving DecidableEq, Repr

/-- The kind in the detail of RESTARTED (R174). -/
def ResetKind.code : ResetKind → Nat
  | .powerOn => 1 | .pin => 2 | .loop => 3 | .brownout => 4

/-- The STATION strap as taken: 31 is taken as 0 (R161). -/
def strapAsTaken (st : BitVec 5) : Nat := if st = 31#5 then 0 else st.toNat

/-- The straps latched; CUE_MASTER counts only with DECK_FITTED (R161). -/
def Station.latch (x : Station) (st : Straps) : Station :=
  { x with
    strapStation := strapAsTaken st.station
    strapDeck := st.deckFitted
    strapMaster := st.cueMaster && st.deckFitted }

/-- The retained record read at a power-on (R176). -/
def Station.readRetained (x : Station) (r : Retained) : Station :=
  { x with valid := r.valid, readRecord := r.fields, items := .default }

/-- The Station Controller's own values after a reset (R174). A write of the retained record goes on through a loop reset
alone (DEDUCED, log 25). -/
def Station.atReset (x : Station) (kind : ResetKind) : Station :=
  { x with
    state := .configuring
    showState := .none
    lock := false
    window := .running
    valid := if kind = .powerOn then x.valid else false
    mainsWarn := false
    writing := if kind = .loop then x.writing else none }

/-- H at a power-on (R122). -/
def heatAtPowerOn (x : Station) : Nat :=
  if x.valid then word16 x.readRecord[3] x.readRecord[4] else x.items.heatWarn

/-- The volume at a power-on (R139). -/
def volumeAtPowerOn (x : Station) : Nat := if x.valid then x.readRecord[5].toNat else Config.defaultVolume

/-- Every block at its values after a reset, the straps and the retained record having been taken into `x`
(R22, R50, R76, R77, R102, R121, R139, R152, R154, R160, R174, R184). -/
def resetBlocks (kind : ResetKind) (x : Station) (r : Readings) (s : State) : State where
  power := .running
  loop := { LoopPort.atPowerOn with assigned := if kind = .loop then s.loop.assigned else none }
  out := .atPowerOn
  disp := s.disp.atReset (kind == .powerOn)
  tray := if kind = .powerOn then .atPowerOn else s.tray.atReset (kind == .loop)
  lamp := s.lamp.atReset (kind == .powerOn)
  cool := s.cool.atReset (kind == .powerOn) (heatAtPowerOn x) x.items r.cutoutOpen
  deck := s.deck.atReset (kind == .powerOn) x.strapDeck r.cassette (volumeAtPowerOn x)
  dec := .afterReset
  remote := .afterReset
  stn := x.atReset kind
  retained := s.retained
  attn := s.attn.atReset (kind == .powerOn)
  openValues := s.openValues
  pending := s.pending

/-- The detail of RESTARTED (R174). -/
def restartedDetail (kind : ResetKind) (valid : Bool) : Nat := kind.code * 256 + (if valid then 1 else 0)

/-- The trip causes that are active after a reset, raised again (R121, R184). -/
def raiseActiveTrips (s : State) : State :=
  let s' := if s.cool.thermal then raise .thermalTrip s.cool.heat s else s
  if s'.cool.cutout then raise .cutoutOpen 0 s' else s'

/-- The fan at a reset: at a power-on chosen from the trip causes; otherwise kept, unless CUTOUT has become active (R121;
log 20). -/
def fanAtReset (kind : ResetKind) (cutoutBefore : Bool) (s : State) : State :=
  if kind = .powerOn ∨ (s.cool.cutout = true ∧ cutoutBefore = false) then chooseFan s else s

/-- MAINS_WARN read at the end of a reset (R173). -/
def readMainsWarn (asserted : Bool) (s : State) : State := if asserted then mainsWarnOn s else s

/-- A reset, with the Station Controller's straps and record as taken. -/
def resetWith (kind : ResetKind) (x : Station) (r : Readings) (s : State) : State :=
  let s1 := resetBlocks kind x r s
  let s2 := raise .restarted (restartedDetail kind s1.stn.valid) s1
  readMainsWarn r.mainsWarn (fanAtReset kind s.cool.cutout (raiseActiveTrips s2))

/-- A power-on (R173, R174): straps latched, retained record read. -/
def powerOn (st : Straps) (r : Readings) (s : State) : State :=
  resetWith .powerOn ((s.stn.latch st).readRetained s.retained) r s

/-- A pin reset, taken at the release of the pin (R173). -/
def pinReset (st : Straps) (r : Readings) (s : State) : State := resetWith .pin (s.stn.latch st) r s

/-- A loop reset (R173). -/
def loopReset (r : Readings) (s : State) : State := resetWith .loop s.stn r s

/-- A brownout restart (R177). -/
def brownoutRestart (st : Straps) (r : Readings) (s : State) : State := resetWith .brownout (s.stn.latch st) r s

/-- The loop reset is due: the RESET frame has been sent to its end (R7, R22, R173). -/
def loopResetDue (s : State) : Bool := s.out.resetAhead == some 0

/-- The RESET pin asserts (R173): the part is held, LOOP OUT falls idle, and a write of the retained record stays
unfinished (R176). -/
def assertPin (s : State) : State :=
  { s with
    power := .held
    out := { s.out with sent := [] }
    stn := { s.stn with writing := none } }

/-- The supply falls: nothing of the part stands but its retained memory (R176). -/
def supplyFall (s : State) : State := { s with power := .off, stn := { s.stn with writing := none } }

end Sys2Proof.Machine
end

