-- ==== Sys2Proof/Machine/LoopFrames.lean ====
section
/-! DEFINITION. The commands of the loop line (chapter 1): frames, broken bytes, stray bytes, the arbiter, loop silence. -/

namespace Sys2Proof.Machine

/-- CUE_FRAME (R35, R14): a CUE frame arrives. -/
def execCueFrame (f : Frame) (payload : List Byte) (s : State) : Host.Outcome State Fault Refusal :=
  .next (whenRunning (knownFrame .cue f payload) s)

/-- POLL (R180, R181): a POLL frame arrives. -/
def execPoll (f : Frame) (payload : List Byte) (s : State) : Host.Outcome State Fault Refusal :=
  .next (whenRunning (knownFrame .poll f payload) s)

/-- QUERY (R185, R186): a QUERY frame arrives. -/
def execQuery (f : Frame) (payload : List Byte) (s : State) : Host.Outcome State Fault Refusal :=
  .next (whenRunning (knownFrame .query f payload) s)

/-- LOAD (R28, R29): a LOAD frame arrives. -/
def execLoad (f : Frame) (payload : List Byte) (s : State) : Host.Outcome State Fault Refusal :=
  .next (whenRunning (knownFrame .load f payload) s)

/-- REMOTE_FRAME (R12, R14): a REMOTE frame arrives. -/
def execRemoteFrame (f : Frame) (payload : List Byte) (s : State) : Host.Outcome State Fault Refusal :=
  .next (whenRunning (knownFrame .remote f payload) s)

/-- ASSIGN (R19): an ASSIGN frame arrives. -/
def execAssign (f : Frame) (payload : List Byte) (s : State) : Host.Outcome State Fault Refusal :=
  .next (whenRunning (knownFrame .assign f payload) s)

/-- UNKNOWN_KIND (R11): a frame of a kind that is none of the seven arrives; it has no trailer. -/
def execUnknownKind (f : Frame) (kind : Byte) (payload : List Byte) (s : State) : Host.Outcome State Fault Refusal :=
  .next (whenRunning (frameArrives f (frameBytes f kind payload false)) s)

/-- BROKEN_BYTE (R1, R9). DESIGN CHOICE (log 34): for how long the line stays at the space level after it is a free value; that time
passes in the commands of the loop that follow. -/
def execBrokenByte (s : State) : Host.Outcome State Fault Refusal :=
  .next (whenRunning (fun s =>
    takeBrokenByte (Config.spaceHeld s.openValues) { lineReady s with openValues := s.openValues + 1 }) s)

/-- FRAME_ENDED_EARLY (R2, R9): LOOP IN stays idle for more than one byte time, the first bit time past it included. -/
def execFrameEndedEarly (s : State) : Host.Outcome State Fault Refusal :=
  .next (whenRunning (idleFor (Config.byteTime + 1) ∘ lineReady) s)

/-- The bytes of a frame whose LENGTH byte is as given, with the bytes that follow it. -/
def overlongBytes (f : Frame) (kind length : Byte) (following : List Byte) : List Byte :=
  [Config.sync, kind, f.target, f.origin, f.hop, length] ++ following

/-- LENGTH_ABOVE_32 (R9). -/
def execLengthAbove32 (f : Frame) (kind length : Byte) (following : List Byte) (s : State) : Host.Outcome State Fault Refusal :=
  .next (whenRunning (frameArrives f (overlongBytes f kind length following)) s)

/-- A run of bytes on LOOP IN after an idle gap, ended by two byte times of idle. -/
def strayRun (gap : Nat) (bytes : List Byte) (s : State) : State :=
  idleFor Config.frameGap (rxBytes bytes (idleFor gap (lineReady s)))

/-- STRAY_BYTE_RUN (R2). -/
def execStrayByteRun (gap : Nat) (bytes : List Byte) (s : State) : Host.Outcome State Fault Refusal :=
  .next (whenRunning (strayRun gap bytes) s)

/-- ORIGINATED_FRAME_START (R16, R17), after so many bit times in which LOOP IN brings no byte. A byte still arriving is no frame
in passage: while the SYNC of a passing frame is not received whole, the originated frame goes first; nor is a line still held at the
space level after a broken byte (R1, R17). -/
def execOriginatedFrameStart (idle : Nat) (s : State) : Host.Outcome State Fault Refusal :=
  .next (whenRunning (fun s => startOriginated (idleFor idle (clearSent s))) s)

/-- DELAY_BUFFER_SEND (R18): the arbiter sends while LOOP IN brings no byte for so many bit times. -/
def execDelayBufferSend (idle : Nat) (s : State) : Host.Outcome State Fault Refusal :=
  .next (whenRunning (idleFor idle ∘ clearSent) s)

/-- LOOP_SILENCE_EXPIRY (R21). -/
def execLoopSilenceExpiry (s : State) : Host.Outcome State Fault Refusal :=
  .next (whenRunning expireSilence s)


end Sys2Proof.Machine
end

