-- ==== Sys2Proof/Machine/Commands.lean ====
section
/-! DEFINITION. The COMMAND frames (R172). -/

namespace Sys2Proof.Machine

/-- STEP (R43). -/
def execStep (f : Frame) (args : List Byte) (s : State) : Host.Outcome State Fault Refusal :=
  .next (whenRunning (commandFrame .step f args) s)

/-- HOLD (R166). -/
def execHold (f : Frame) (args : List Byte) (s : State) : Host.Outcome State Fault Refusal :=
  .next (whenRunning (commandFrame .hold f args) s)

/-- RESUME (R166). -/
def execResume (f : Frame) (args : List Byte) (s : State) : Host.Outcome State Fault Refusal :=
  .next (whenRunning (commandFrame .resume f args) s)

/-- COMMIT (R31). -/
def execCommit (f : Frame) (args : List Byte) (s : State) : Host.Outcome State Fault Refusal :=
  .next (whenRunning (commandFrame .commit f args) s)

/-- CONFIG_SET (R171). -/
def execConfigSet (f : Frame) (args : List Byte) (s : State) : Host.Outcome State Fault Refusal :=
  .next (whenRunning (commandFrame .configSet f args) s)

/-- CONFIG_CLOSE (R165). -/
def execConfigClose (f : Frame) (args : List Byte) (s : State) : Host.Outcome State Fault Refusal :=
  .next (whenRunning (commandFrame .configClose f args) s)

/-- STANDBY (R167). -/
def execStandby (f : Frame) (args : List Byte) (s : State) : Host.Outcome State Fault Refusal :=
  .next (whenRunning (commandFrame .standby f args) s)

/-- WAKE (R169). -/
def execWake (f : Frame) (args : List Byte) (s : State) : Host.Outcome State Fault Refusal :=
  .next (whenRunning (commandFrame .wake f args) s)

/-- ACK (R182). -/
def execAck (f : Frame) (args : List Byte) (s : State) : Host.Outcome State Fault Refusal :=
  .next (whenRunning (commandFrame .ack f args) s)

/-- ATTN_SET (R179). -/
def execAttnSet (f : Frame) (args : List Byte) (s : State) : Host.Outcome State Fault Refusal :=
  .next (whenRunning (commandFrame .attnSet f args) s)

/-- CLEAR_COUNTERS (R187). -/
def execClearCounters (f : Frame) (args : List Byte) (s : State) : Host.Outcome State Fault Refusal :=
  .next (whenRunning (commandFrame .clearCounters f args) s)

/-- RESET (R173): accepted here, taken by LOOP_RESET once the frame has been sent to its end. -/
def execReset (f : Frame) (args : List Byte) (s : State) : Host.Outcome State Fault Refusal :=
  .next (whenRunning (commandFrame .reset f args) s)

/-- UNKNOWN_COMMAND_CODE (R172, R189): a COMMAND frame with a whole payload as given. -/
def execUnknownCommandCode (f : Frame) (payload : List Byte) (s : State) : Host.Outcome State Fault Refusal :=
  .next (whenRunning (knownFrame .command f payload) s)


end Sys2Proof.Machine
end

