-- ==== Sys2Proof/Machine/Restarts.lean ====
section
/-! DEFINITION. Resets, supply, mains warning, and the Station Controller's own events (chapter 9). -/

namespace Sys2Proof.Machine

/-- LOOP_RESET (R173): taken once an accepted RESET frame has left LOOP OUT. -/
def execLoopReset (r : Readings) (s : State) : Host.Outcome State Fault Refusal :=
  .next (whenRunning (fun s => if loopResetDue s then loopReset r s else s) s)

/-- POWER_ON (R173, R174). -/
def execPowerOn (st : Straps) (r : Readings) (s : State) : Host.Outcome State Fault Refusal :=
  .next (powerOn st r s)

/-- PIN_RESET_ASSERT (R173). -/
def execPinResetAssert (s : State) : Host.Outcome State Fault Refusal :=
  .next (whenRunning assertPin s)

/-- PIN_RESET (R173): the pin is released, the part having its supply. -/
def execPinReset (st : Straps) (r : Readings) (s : State) : Host.Outcome State Fault Refusal :=
  .next (if s.power = .off then s else pinReset st r s)

/-- MAINS_WARN_ASSERT (R175). -/
def execMainsWarnAssert (s : State) : Host.Outcome State Fault Refusal :=
  .next (whenRunning mainsWarnOn s)

/-- RETAINED_WRITE_END (R176). -/
def execRetainedWriteEnd (s : State) : Host.Outcome State Fault Refusal :=
  .next (whenRunning endWrite s)

/-- MAINS_WARN has gone (R177). -/
def mainsWarnOff (s : State) : State := { s with stn := { s.stn with mainsWarn := false } }

/-- MAINS_WARN_DEASSERT (R177): the level is noted; the restart that may follow is BROWNOUT_RESTART. -/
def execMainsWarnDeassert (s : State) : Host.Outcome State Fault Refusal :=
  .next (whenRunning mainsWarnOff s)

/-- BROWNOUT_RESTART (R177). -/
def execBrownoutRestart (st : Straps) (r : Readings) (s : State) : Host.Outcome State Fault Refusal :=
  .next (whenRunning (fun s => if brownoutDue s then brownoutRestart st r s else s) s)

/-- SUPPLY_FALL (R176, R177). -/
def execSupplyFall (s : State) : Host.Outcome State Fault Refusal :=
  .next (supplyFall s)

/-- The configuration window runs (R164). -/
def windowRuns (s : State) : Bool := s.stn.state == .configuring && s.stn.window == .running

/-- CONFIG_WINDOW_EXPIRY (R164, R165). -/
def execConfigWindowExpiry (s : State) : Host.Outcome State Fault Refusal :=
  .next (whenRunning (fun s => if windowRuns s then closeConfiguration s else s) s)

/-- STANDBY_CONDITION (R168). -/
def execStandbyCondition (s : State) : Host.Outcome State Fault Refusal :=
  .next (whenRunning standbyTest s)


end Sys2Proof.Machine
end

