-- ==== Sys2Proof/Machine/ShowEvents.lean ====
section
/-! DEFINITION. The events of the Cue Dispatcher and the Transport (chapters 2 and 3). -/

namespace Sys2Proof.Machine

/-- SHOW_TICK (R46). -/
def execShowTick (s : State) : Host.Outcome State Fault Refusal :=
  .next (whenRunning showTick s)

/-- SCHEDULED_RECORD_DUE (R47): the records standing at 0 are routed while the show runs. -/
def execScheduledRecordDue (s : State) : Host.Outcome State Fault Refusal :=
  .next (whenRunning routeDue s)

/-- The mirror completes (R32, R33). -/
def completeMirror (s : State) : State := { s with disp := s.disp.mirrorComplete }

/-- MIRROR_COMPLETE (R32, R33). -/
def execMirrorComplete (s : State) : Host.Outcome State Fault Refusal :=
  .next (whenRunning completeMirror s)

/-- TRAY_CODE_CHANGE (R51, R72, R73, R76, R77). -/
def execTrayCodeChange (code : TrayCode) (s : State) : Host.Outcome State Fault Refusal :=
  .next (whenRunning (standbyTest ∘ settleCode (sizeOfCode code)) s)

/-- MOVE_START (R58). -/
def execMoveStart (s : State) : Host.Outcome State Fault Refusal :=
  .next (whenRunning startMoves s)

/-- DARK_WAIT_TIMEOUT (R59); the timer stands still while the show is HELD (R60). -/
def execDarkWaitTimeout (s : State) : Host.Outcome State Fault Refusal :=
  .next (whenRunning (fun s => if s.tray.darkTimer && !showHeld s then expireDarkWait s else s) s)

/-- CLOSE_PHASE_END (R63). -/
def execClosePhaseEnd (camMidClosed : Bool) (s : State) : Host.Outcome State Fault Refusal :=
  .next (whenRunning (endClose camMidClosed) s)

/-- CAM_MID (R63). -/
def execCamMid (s : State) : Host.Outcome State Fault Refusal :=
  .next (whenRunning closeCamMid s)

/-- LIFT_TIMEOUT (R63, R70). -/
def execLiftTimeout (s : State) : Host.Outcome State Fault Refusal :=
  .next (whenRunning (standbyTest ∘ expireLift) s)

/-- INDEX_PULSE (R64). -/
def execIndexPulse (s : State) : Host.Outcome State Fault Refusal :=
  .next (whenRunning (standbyTest ∘ indexPulse) s)

/-- INDEX_TIMEOUT (R64, R70). -/
def execIndexTimeout (s : State) : Host.Outcome State Fault Refusal :=
  .next (whenRunning (standbyTest ∘ expireIndex) s)

/-- HOMING_PASS_LIMIT (R64): the index pulse that brings a homing pass to its limit. -/
def execHomingPassLimit (s : State) : Host.Outcome State Fault Refusal :=
  .next (whenRunning (fun s => if homingAtLimit s then standbyTest (indexPulse s) else s) s)

/-- HOME_MARK (R65). -/
def execHomeMark (s : State) : Host.Outcome State Fault Refusal :=
  .next (whenRunning homeMark s)

/-- CAM_HOME (R66, R78). -/
def execCamHome (s : State) : Host.Outcome State Fault Refusal :=
  .next (whenRunning (standbyTest ∘ closeCamHome) s)

/-- DROP_TIMEOUT (R66, R70, R78). -/
def execDropTimeout (s : State) : Host.Outcome State Fault Refusal :=
  .next (whenRunning (standbyTest ∘ expireDrop) s)

/-- SETTLE_END (R66). -/
def execSettleEnd (s : State) : Host.Outcome State Fault Refusal :=
  .next (whenRunning (standbyTest ∘ endSettle) s)


end Sys2Proof.Machine
end

