-- ==== Sys2Proof/Machine/LampEvents.lean ====
section
/-! DEFINITION. The events of the Lamp Engine and the Cooling Controller (chapters 4 and 5). -/

namespace Sys2Proof.Machine

/-- LAMP_TICK (R86, R88 to R90, R93, R96); the tenth tick hands its energy sum over (R104). Where it reaches the failure limit too, a
free value says which is taken first (R94; log 41). -/
def execLampTick (current : Bool) (s : State) : Host.Outcome State Fault Refusal :=
  .next (whenRunning (standbyTest ∘ lampTick current) s)

/-- LAMP_RAMP_END (R86): the lamp tick that ends the ramp. -/
def execLampRampEnd (current : Bool) (s : State) : Host.Outcome State Fault Refusal :=
  .next (whenRunning (fun s => if lampRampEnds s then standbyTest (lampTick current s) else s) s)

/-- The next lamp tick, without lamp current, puts the lamp in FAILED (R96, R97). -/
def lampFails (s : State) : Bool := (tickedLamp false s).atLimit

/-- LAMP_FAILED (R97): the lamp tick that brings the failure count to its limit; at a tenth tick the failure is taken before the
hand-off (R94; log 41). -/
def execLampFailed (s : State) : Host.Outcome State Fault Refusal :=
  .next (whenRunning (fun s => if lampFails s then standbyTest (lampTickIn false false s) else s) s)

/-- The next lamp tick is the tenth (R104). -/
def tenthTickNext (s : State) : Bool := decide (9 ≤ s.lamp.ticks)

/-- COOLING_TICK (R104): the tenth lamp tick, with its hand-off; where the tick reaches the failure limit, the hand-off is taken before
the failure (R94; log 41). -/
def execCoolingTick (current : Bool) (s : State) : Host.Outcome State Fault Refusal :=
  .next (whenRunning (fun s => if tenthTickNext s then standbyTest (lampTickIn true current s) else s) s)

/-- FAN_TACH_PULSE (R109). -/
def execFanTachPulse (s : State) : Host.Outcome State Fault Refusal :=
  .next (whenRunning tachPulse s)

/-- TACH_GATE_END (R109, R111). -/
def execTachGateEnd (s : State) : Host.Outcome State Fault Refusal :=
  .next (whenRunning endTachGate s)

/-- The spin-up timer has run 2 s (R110). -/
def elapseSpinUp (s : State) : State :=
  if s.cool.spinUp = .running then { s with cool := { s.cool with spinUp := .elapsed } } else s

/-- SPIN_UP_ELAPSED (R110). -/
def execSpinUpElapsed (s : State) : Host.Outcome State Fault Refusal :=
  .next (whenRunning elapseSpinUp s)

/-- CUTOUT_CHANGE (R112). -/
def execCutoutChange (opened : Bool) (s : State) : Host.Outcome State Fault Refusal :=
  .next (whenRunning (takeCutout opened) s)


end Sys2Proof.Machine
end

