-- ==== Sys2Proof/Machine/DeckEvents.lean ====
section
/-! DEFINITION. The events of the Tape Deck Controller and the Cue-Track Decoder (chapters 6 and 7). -/

namespace Sys2Proof.Machine

/-- CASSETTE_CHANGE (R123). -/
def execCassetteChange (present : Bool) (s : State) : Host.Outcome State Fault Refusal :=
  .next (whenRunning (standbyTest ∘ takeCassette present) s)

/-- BRAKE_TIMER_EXPIRY (R125). -/
def execBrakeTimerExpiry (s : State) : Host.Outcome State Fault Refusal :=
  .next (whenRunning (standbyTest ∘ expireBrake) s)

/-- REEL_PULSE (R129, R130). -/
def execReelPulse (s : State) : Host.Outcome State Fault Refusal :=
  .next (whenRunning reelPulse s)

/-- REEL_SILENCE_EXPIRY (R131). -/
def execReelSilenceExpiry (s : State) : Host.Outcome State Fault Refusal :=
  .next (whenRunning (standbyTest ∘ expireReel) s)

/-- DECODER_GATE_OPEN (R133, R140). -/
def execDecoderGateOpen (s : State) : Host.Outcome State Fault Refusal :=
  .next (whenRunning openDecoderGate s)

/-- SOUND_TICK (R136). -/
def execSoundTick (s : State) : Host.Outcome State Fault Refusal :=
  .next (whenRunning soundTick s)

/-- SOUND_RAMP_END (R136): the sound tick that ends the ramp. -/
def execSoundRampEnd (s : State) : Host.Outcome State Fault Refusal :=
  .next (whenRunning (fun s => if soundRampEnds s then soundTick s else s) s)

/-- TAPE_WORD (R144 to R147): the rest of the word in READING. -/
def execTapeWord (data : Byte) (parity stop : Bool) (s : State) : Host.Outcome State Fault Refusal :=
  .next (whenRunning (readWord data parity stop) s)

/-- CANDIDATE_EXPIRY (R148). -/
def execCandidateExpiry (s : State) : Host.Outcome State Fault Refusal :=
  .next (whenRunning expireCandidate s)

/-- GUARD_EXPIRY (R146). -/
def execGuardExpiry (s : State) : Host.Outcome State Fault Refusal :=
  .next (whenRunning expireGuard s)

/-- BURST_END (R149). -/
def execBurstEnd (s : State) : Host.Outcome State Fault Refusal :=
  .next (whenRunning thirdNonMarkInBurst s)

/-- BURST_LIMIT (R149). -/
def execBurstLimit (s : State) : Host.Outcome State Fault Refusal :=
  .next (whenRunning limitMark s)

/-- SPENT_END (R149). -/
def execSpentEnd (s : State) : Host.Outcome State Fault Refusal :=
  .next (whenRunning thirdNonMarkInSpent s)

/-- CUE_TRACK_SAMPLE (R142): a sample tick, with the age of the last period in microseconds. -/
def execCueTrackSample (age : Nat) (s : State) : Host.Outcome State Fault Refusal :=
  .next (whenRunning (takeSample age) s)

/-- CUE_TRACK_PERIOD (R141): a rising crossing, with the time since the one before. -/
def execCueTrackPeriod (micros : Nat) (s : State) : Host.Outcome State Fault Refusal :=
  .next (whenRunning (takePeriod micros) s)


end Sys2Proof.Machine
end

