-- ==== Sys2Proof/Machine/PendantEvents.lean ====
section
/-! DEFINITION. The events of the Remote Scanner (chapter 8). -/

namespace Sys2Proof.Machine

/-- KEY_PRESS (R155, R156). -/
def execKeyPress (k : Key) (s : State) : Host.Outcome State Fault Refusal :=
  .next (whenRunning (pressEvent k) s)

/-- KEY_RELEASE (R155). -/
def execKeyRelease (k : Key) (s : State) : Host.Outcome State Fault Refusal :=
  .next (whenRunning (releaseEvent k) s)

/-- FOCUS_RUN_LIMIT (R160). -/
def execFocusRunLimit (s : State) : Host.Outcome State Fault Refusal :=
  .next (whenRunning focusRunLimit s)

/-- KEY_SCAN (R153). -/
def execKeyScan (samples : KeySamples) (order : List Key) (s : State) : Host.Outcome State Fault Refusal :=
  .next (whenRunning (takeScan samples order) s)


end Sys2Proof.Machine
end

