-- ==== Sys2Proof/Machine/Dispatch.lean ====
section
/-! DEFINITION. exec: one arm for each command. -/

namespace Sys2Proof.Machine

/-- The effect of a command on everything but the queue. -/
def exec (i : Instr) (s : State) : Host.Outcome State Fault Refusal :=
  match i with
  | .cueFrame f pl => Sys2Proof.Machine.execCueFrame f pl s
  | .poll f pl => Sys2Proof.Machine.execPoll f pl s
  | .query f pl => Sys2Proof.Machine.execQuery f pl s
  | .load f pl => Sys2Proof.Machine.execLoad f pl s
  | .remoteFrame f pl => Sys2Proof.Machine.execRemoteFrame f pl s
  | .assign f pl => Sys2Proof.Machine.execAssign f pl s
  | .unknownKind f kind pl => Sys2Proof.Machine.execUnknownKind f kind pl s
  | .brokenByte => Sys2Proof.Machine.execBrokenByte s
  | .frameEndedEarly => Sys2Proof.Machine.execFrameEndedEarly s
  | .lengthAbove32 f kind length following => Sys2Proof.Machine.execLengthAbove32 f kind length following s
  | .strayByteRun gap bytes => Sys2Proof.Machine.execStrayByteRun gap bytes s
  | .originatedFrameStart idle => Sys2Proof.Machine.execOriginatedFrameStart idle s
  | .delayBufferSend idle => Sys2Proof.Machine.execDelayBufferSend idle s
  | .loopSilenceExpiry => Sys2Proof.Machine.execLoopSilenceExpiry s
  | .step f args => Sys2Proof.Machine.execStep f args s
  | .hold f args => Sys2Proof.Machine.execHold f args s
  | .resume f args => Sys2Proof.Machine.execResume f args s
  | .commit f args => Sys2Proof.Machine.execCommit f args s
  | .configSet f args => Sys2Proof.Machine.execConfigSet f args s
  | .configClose f args => Sys2Proof.Machine.execConfigClose f args s
  | .standby f args => Sys2Proof.Machine.execStandby f args s
  | .wake f args => Sys2Proof.Machine.execWake f args s
  | .ack f args => Sys2Proof.Machine.execAck f args s
  | .attnSet f args => Sys2Proof.Machine.execAttnSet f args s
  | .clearCounters f args => Sys2Proof.Machine.execClearCounters f args s
  | .reset f args => Sys2Proof.Machine.execReset f args s
  | .loopReset r => Sys2Proof.Machine.execLoopReset r s
  | .powerOn st r => Sys2Proof.Machine.execPowerOn st r s
  | .pinResetAssert => Sys2Proof.Machine.execPinResetAssert s
  | .pinReset st r => Sys2Proof.Machine.execPinReset st r s
  | .showTick => Sys2Proof.Machine.execShowTick s
  | .scheduledRecordDue => Sys2Proof.Machine.execScheduledRecordDue s
  | .mirrorComplete => Sys2Proof.Machine.execMirrorComplete s
  | .trayCodeChange code => Sys2Proof.Machine.execTrayCodeChange code s
  | .moveStart => Sys2Proof.Machine.execMoveStart s
  | .darkWaitTimeout => Sys2Proof.Machine.execDarkWaitTimeout s
  | .closePhaseEnd camMidClosed => Sys2Proof.Machine.execClosePhaseEnd camMidClosed s
  | .camMid => Sys2Proof.Machine.execCamMid s
  | .liftTimeout => Sys2Proof.Machine.execLiftTimeout s
  | .indexPulse => Sys2Proof.Machine.execIndexPulse s
  | .indexTimeout => Sys2Proof.Machine.execIndexTimeout s
  | .homingPassLimit => Sys2Proof.Machine.execHomingPassLimit s
  | .homeMark => Sys2Proof.Machine.execHomeMark s
  | .camHome => Sys2Proof.Machine.execCamHome s
  | .dropTimeout => Sys2Proof.Machine.execDropTimeout s
  | .settleEnd => Sys2Proof.Machine.execSettleEnd s
  | .lampTick current => Sys2Proof.Machine.execLampTick current s
  | .lampRampEnd current => Sys2Proof.Machine.execLampRampEnd current s
  | .lampFailed => Sys2Proof.Machine.execLampFailed s
  | .coolingTick current => Sys2Proof.Machine.execCoolingTick current s
  | .fanTachPulse => Sys2Proof.Machine.execFanTachPulse s
  | .tachGateEnd => Sys2Proof.Machine.execTachGateEnd s
  | .spinUpElapsed => Sys2Proof.Machine.execSpinUpElapsed s
  | .cutoutChange opened => Sys2Proof.Machine.execCutoutChange opened s
  | .cassetteChange present => Sys2Proof.Machine.execCassetteChange present s
  | .brakeTimerExpiry => Sys2Proof.Machine.execBrakeTimerExpiry s
  | .reelPulse => Sys2Proof.Machine.execReelPulse s
  | .reelSilenceExpiry => Sys2Proof.Machine.execReelSilenceExpiry s
  | .decoderGateOpen => Sys2Proof.Machine.execDecoderGateOpen s
  | .soundTick => Sys2Proof.Machine.execSoundTick s
  | .soundRampEnd => Sys2Proof.Machine.execSoundRampEnd s
  | .tapeWord data parity stop => Sys2Proof.Machine.execTapeWord data parity stop s
  | .candidateExpiry => Sys2Proof.Machine.execCandidateExpiry s
  | .guardExpiry => Sys2Proof.Machine.execGuardExpiry s
  | .burstEnd => Sys2Proof.Machine.execBurstEnd s
  | .burstLimit => Sys2Proof.Machine.execBurstLimit s
  | .spentEnd => Sys2Proof.Machine.execSpentEnd s
  | .keyPress k => Sys2Proof.Machine.execKeyPress k s
  | .keyRelease k => Sys2Proof.Machine.execKeyRelease k s
  | .focusRunLimit => Sys2Proof.Machine.execFocusRunLimit s
  | .configWindowExpiry => Sys2Proof.Machine.execConfigWindowExpiry s
  | .standbyCondition => Sys2Proof.Machine.execStandbyCondition s
  | .mainsWarnAssert => Sys2Proof.Machine.execMainsWarnAssert s
  | .retainedWriteEnd => Sys2Proof.Machine.execRetainedWriteEnd s
  | .mainsWarnDeassert => Sys2Proof.Machine.execMainsWarnDeassert s
  | .brownoutRestart st r => Sys2Proof.Machine.execBrownoutRestart st r s
  | .cueTrackSample age => Sys2Proof.Machine.execCueTrackSample age s
  | .cueTrackPeriod micros => Sys2Proof.Machine.execCueTrackPeriod micros s
  | .keyScan samples order => Sys2Proof.Machine.execKeyScan samples order s
  | .supplyFall => Sys2Proof.Machine.execSupplyFall s
  | .unknownCommandCode f pl => Sys2Proof.Machine.execUnknownCommandCode f pl s

end Sys2Proof.Machine
end

