-- ==== Sys2Proof/Laws/State.lean ====
section
/-! SUPPORT. What each plain update of the state leaves as it was, field by field (true by rfl), for simp. -/

namespace Sys2Proof.Machine

open Sys2Proof (Byte Key Frame TrayCode Straps Readings KeySamples)

/-- `raise` leaves all but attn as it was. -/
@[simp] theorem raise_frame (c : Source) (d : Nat) (s : State) :
    (raise c d s).power = s.power ∧ (raise c d s).loop = s.loop ∧ (raise c d s).out = s.out ∧
    (raise c d s).disp = s.disp ∧ (raise c d s).tray = s.tray ∧ (raise c d s).lamp = s.lamp ∧
    (raise c d s).cool = s.cool ∧ (raise c d s).deck = s.deck ∧ (raise c d s).dec = s.dec ∧
    (raise c d s).remote = s.remote ∧ (raise c d s).stn = s.stn ∧ (raise c d s).retained = s.retained ∧
    (raise c d s).openValues = s.openValues ∧ (raise c d s).pending = s.pending := ⟨rfl, rfl, rfl, rfl, rfl, rfl, rfl, rfl, rfl, rfl, rfl, rfl, rfl, rfl⟩

/-- `count` leaves all but attn as it was. -/
@[simp] theorem count_frame (k : Counter) (s : State) :
    (count k s).power = s.power ∧ (count k s).loop = s.loop ∧ (count k s).out = s.out ∧
    (count k s).disp = s.disp ∧ (count k s).tray = s.tray ∧ (count k s).lamp = s.lamp ∧
    (count k s).cool = s.cool ∧ (count k s).deck = s.deck ∧ (count k s).dec = s.dec ∧
    (count k s).remote = s.remote ∧ (count k s).stn = s.stn ∧ (count k s).retained = s.retained ∧
    (count k s).openValues = s.openValues ∧ (count k s).pending = s.pending := ⟨rfl, rfl, rfl, rfl, rfl, rfl, rfl, rfl, rfl, rfl, rfl, rfl, rfl, rfl⟩

/-- `sideClear` leaves all but attn as it was. -/
@[simp] theorem sideClear_frame (c : Source) (s : State) :
    (sideClear c s).power = s.power ∧ (sideClear c s).loop = s.loop ∧ (sideClear c s).out = s.out ∧
    (sideClear c s).disp = s.disp ∧ (sideClear c s).tray = s.tray ∧ (sideClear c s).lamp = s.lamp ∧
    (sideClear c s).cool = s.cool ∧ (sideClear c s).deck = s.deck ∧ (sideClear c s).dec = s.dec ∧
    (sideClear c s).remote = s.remote ∧ (sideClear c s).stn = s.stn ∧ (sideClear c s).retained = s.retained ∧
    (sideClear c s).openValues = s.openValues ∧ (sideClear c s).pending = s.pending := ⟨rfl, rfl, rfl, rfl, rfl, rfl, rfl, rfl, rfl, rfl, rfl, rfl, rfl, rfl⟩

/-- A fan stage chosen is the stage; nothing but the gate's mark and the spin-up timer goes with it (R107, R108, R110). -/
@[simp] theorem Cooling.setStage_frame (c : Cooling) (n : Nat) :
    (c.setStage n).fanStage = n ∧
    (c.setStage n).heat = c.heat ∧ (c.setStage n).heatStage = c.heatStage ∧ (c.setStage n).gateCount = c.gateCount ∧ (c.setStage n).lastTach = c.lastTach ∧
    (c.setStage n).thermal = c.thermal ∧ (c.setStage n).fanStall = c.fanStall ∧ (c.setStage n).cutout = c.cutout ∧ (c.setStage n).ceiling = c.ceiling ∧
    (c.setStage n).derateArmed = c.derateArmed ∧ (c.setStage n).cool = c.cool := by
  unfold Cooling.setStage
  split <;> simp_all

/-- The mark of a gate is all that `markTrip` can change (R111). -/
@[simp] theorem Cooling.markTrip_frame (c : Cooling) :
    (c.markTrip).heat = c.heat ∧ (c.markTrip).heatStage = c.heatStage ∧ (c.markTrip).gateCount = c.gateCount ∧ (c.markTrip).lastTach = c.lastTach ∧
    (c.markTrip).thermal = c.thermal ∧ (c.markTrip).fanStall = c.fanStall ∧ (c.markTrip).cutout = c.cutout ∧ (c.markTrip).ceiling = c.ceiling ∧
    (c.markTrip).derateArmed = c.derateArmed ∧ (c.markTrip).cool = c.cool ∧ (c.markTrip).fanStage = c.fanStage ∧ (c.markTrip).spinUp = c.spinUp := by
  unfold Cooling.markTrip
  split <;> simp

/-- Under FAN_STALL a trip cause that sets or clears marks the gate; otherwise it does so by a change of stage alone (R111, R108). -/
@[simp] theorem Cooling.markTrip_stageChanged (c : Cooling) : c.markTrip.stageChanged = (c.fanStall || c.stageChanged) := by
  unfold Cooling.markTrip
  split <;> simp_all

@[simp] theorem Cooling.setStage_tripped (c : Cooling) (n : Nat) : (c.setStage n).tripped = c.tripped := by
  simp [Cooling.tripped]

@[simp] theorem Cooling.markTrip_tripped (c : Cooling) : c.markTrip.tripped = c.tripped := by simp [Cooling.tripped]

/-- `chooseFan` leaves all but cool as it was. -/
@[simp] theorem chooseFan_frame (s : State) :
    (chooseFan s).power = s.power ∧ (chooseFan s).loop = s.loop ∧ (chooseFan s).out = s.out ∧
    (chooseFan s).disp = s.disp ∧ (chooseFan s).tray = s.tray ∧ (chooseFan s).lamp = s.lamp ∧
    (chooseFan s).deck = s.deck ∧ (chooseFan s).dec = s.dec ∧ (chooseFan s).remote = s.remote ∧
    (chooseFan s).stn = s.stn ∧ (chooseFan s).retained = s.retained ∧ (chooseFan s).attn = s.attn ∧
    (chooseFan s).openValues = s.openValues ∧ (chooseFan s).pending = s.pending := ⟨rfl, rfl, rfl, rfl, rfl, rfl, rfl, rfl, rfl, rfl, rfl, rfl, rfl, rfl⟩

/-- `stopSilence` leaves all but loop as it was. -/
@[simp] theorem stopSilence_frame (s : State) :
    (stopSilence s).power = s.power ∧ (stopSilence s).out = s.out ∧ (stopSilence s).disp = s.disp ∧
    (stopSilence s).tray = s.tray ∧ (stopSilence s).lamp = s.lamp ∧ (stopSilence s).cool = s.cool ∧
    (stopSilence s).deck = s.deck ∧ (stopSilence s).dec = s.dec ∧ (stopSilence s).remote = s.remote ∧
    (stopSilence s).stn = s.stn ∧ (stopSilence s).retained = s.retained ∧ (stopSilence s).attn = s.attn ∧
    (stopSilence s).openValues = s.openValues ∧ (stopSilence s).pending = s.pending := ⟨rfl, rfl, rfl, rfl, rfl, rfl, rfl, rfl, rfl, rfl, rfl, rfl, rfl, rfl⟩

/-- `setDemand` leaves all but tray as it was. -/
@[simp] theorem setDemand_frame (d : Demand) (s : State) :
    (setDemand d s).power = s.power ∧ (setDemand d s).loop = s.loop ∧ (setDemand d s).out = s.out ∧
    (setDemand d s).disp = s.disp ∧ (setDemand d s).lamp = s.lamp ∧ (setDemand d s).cool = s.cool ∧
    (setDemand d s).deck = s.deck ∧ (setDemand d s).dec = s.dec ∧ (setDemand d s).remote = s.remote ∧
    (setDemand d s).stn = s.stn ∧ (setDemand d s).retained = s.retained ∧ (setDemand d s).attn = s.attn ∧
    (setDemand d s).openValues = s.openValues ∧ (setDemand d s).pending = s.pending := ⟨rfl, rfl, rfl, rfl, rfl, rfl, rfl, rfl, rfl, rfl, rfl, rfl, rfl, rfl⟩

/-- `setPhase` leaves all but tray as it was. -/
@[simp] theorem setPhase_frame (ph : Phase) (s : State) :
    (setPhase ph s).power = s.power ∧ (setPhase ph s).loop = s.loop ∧ (setPhase ph s).out = s.out ∧
    (setPhase ph s).disp = s.disp ∧ (setPhase ph s).lamp = s.lamp ∧ (setPhase ph s).cool = s.cool ∧
    (setPhase ph s).deck = s.deck ∧ (setPhase ph s).dec = s.dec ∧ (setPhase ph s).remote = s.remote ∧
    (setPhase ph s).stn = s.stn ∧ (setPhase ph s).retained = s.retained ∧ (setPhase ph s).attn = s.attn ∧
    (setPhase ph s).openValues = s.openValues ∧ (setPhase ph s).pending = s.pending := ⟨rfl, rfl, rfl, rfl, rfl, rfl, rfl, rfl, rfl, rfl, rfl, rfl, rfl, rfl⟩

/-- `emptySchedule` leaves all but disp as it was. -/
@[simp] theorem emptySchedule_frame (s : State) :
    (emptySchedule s).power = s.power ∧ (emptySchedule s).loop = s.loop ∧ (emptySchedule s).out = s.out ∧
    (emptySchedule s).tray = s.tray ∧ (emptySchedule s).lamp = s.lamp ∧ (emptySchedule s).cool = s.cool ∧
    (emptySchedule s).deck = s.deck ∧ (emptySchedule s).dec = s.dec ∧ (emptySchedule s).remote = s.remote ∧
    (emptySchedule s).stn = s.stn ∧ (emptySchedule s).retained = s.retained ∧ (emptySchedule s).attn = s.attn ∧
    (emptySchedule s).openValues = s.openValues ∧ (emptySchedule s).pending = s.pending := ⟨rfl, rfl, rfl, rfl, rfl, rfl, rfl, rfl, rfl, rfl, rfl, rfl, rfl, rfl⟩

/-- `recordCue` leaves all but disp as it was. -/
@[simp] theorem recordCue_frame (n : Nat) (src : CueSource) (s : State) :
    (recordCue n src s).power = s.power ∧ (recordCue n src s).loop = s.loop ∧ (recordCue n src s).out = s.out ∧
    (recordCue n src s).tray = s.tray ∧ (recordCue n src s).lamp = s.lamp ∧ (recordCue n src s).cool = s.cool ∧
    (recordCue n src s).deck = s.deck ∧ (recordCue n src s).dec = s.dec ∧ (recordCue n src s).remote = s.remote ∧
    (recordCue n src s).stn = s.stn ∧ (recordCue n src s).retained = s.retained ∧ (recordCue n src s).attn = s.attn ∧
    (recordCue n src s).openValues = s.openValues ∧ (recordCue n src s).pending = s.pending := ⟨rfl, rfl, rfl, rfl, rfl, rfl, rfl, rfl, rfl, rfl, rfl, rfl, rfl, rfl⟩

/-- `tickRecords` leaves all but disp as it was. -/
@[simp] theorem tickRecords_frame (s : State) :
    (tickRecords s).power = s.power ∧ (tickRecords s).loop = s.loop ∧ (tickRecords s).out = s.out ∧
    (tickRecords s).tray = s.tray ∧ (tickRecords s).lamp = s.lamp ∧ (tickRecords s).cool = s.cool ∧
    (tickRecords s).deck = s.deck ∧ (tickRecords s).dec = s.dec ∧ (tickRecords s).remote = s.remote ∧
    (tickRecords s).stn = s.stn ∧ (tickRecords s).retained = s.retained ∧ (tickRecords s).attn = s.attn ∧
    (tickRecords s).openValues = s.openValues ∧ (tickRecords s).pending = s.pending := ⟨rfl, rfl, rfl, rfl, rfl, rfl, rfl, rfl, rfl, rfl, rfl, rfl, rfl, rfl⟩

/-- `cancelSound` leaves all but deck as it was. -/
@[simp] theorem cancelSound_frame (s : State) :
    (cancelSound s).power = s.power ∧ (cancelSound s).loop = s.loop ∧ (cancelSound s).out = s.out ∧
    (cancelSound s).disp = s.disp ∧ (cancelSound s).tray = s.tray ∧ (cancelSound s).lamp = s.lamp ∧
    (cancelSound s).cool = s.cool ∧ (cancelSound s).dec = s.dec ∧ (cancelSound s).remote = s.remote ∧
    (cancelSound s).stn = s.stn ∧ (cancelSound s).retained = s.retained ∧ (cancelSound s).attn = s.attn ∧
    (cancelSound s).openValues = s.openValues ∧ (cancelSound s).pending = s.pending := ⟨rfl, rfl, rfl, rfl, rfl, rfl, rfl, rfl, rfl, rfl, rfl, rfl, rfl, rfl⟩

/-- `requestSound` leaves all but deck as it was. -/
@[simp] theorem requestSound_frame (v t : Nat) (o : Origin) (s : State) :
    (requestSound v t o s).power = s.power ∧ (requestSound v t o s).loop = s.loop ∧ (requestSound v t o s).out = s.out ∧
    (requestSound v t o s).disp = s.disp ∧ (requestSound v t o s).tray = s.tray ∧ (requestSound v t o s).lamp = s.lamp ∧
    (requestSound v t o s).cool = s.cool ∧ (requestSound v t o s).dec = s.dec ∧ (requestSound v t o s).remote = s.remote ∧
    (requestSound v t o s).stn = s.stn ∧ (requestSound v t o s).retained = s.retained ∧ (requestSound v t o s).attn = s.attn ∧
    (requestSound v t o s).openValues = s.openValues ∧ (requestSound v t o s).pending = s.pending := ⟨rfl, rfl, rfl, rfl, rfl, rfl, rfl, rfl, rfl, rfl, rfl, rfl, rfl, rfl⟩

/-- `tachPulse` leaves all but cool as it was. -/
@[simp] theorem tachPulse_frame (s : State) :
    (tachPulse s).power = s.power ∧ (tachPulse s).loop = s.loop ∧ (tachPulse s).out = s.out ∧
    (tachPulse s).disp = s.disp ∧ (tachPulse s).tray = s.tray ∧ (tachPulse s).lamp = s.lamp ∧
    (tachPulse s).deck = s.deck ∧ (tachPulse s).dec = s.dec ∧ (tachPulse s).remote = s.remote ∧
    (tachPulse s).stn = s.stn ∧ (tachPulse s).retained = s.retained ∧ (tachPulse s).attn = s.attn ∧
    (tachPulse s).openValues = s.openValues ∧ (tachPulse s).pending = s.pending := ⟨rfl, rfl, rfl, rfl, rfl, rfl, rfl, rfl, rfl, rfl, rfl, rfl, rfl, rfl⟩

/-- `setDecoder` leaves all but dec as it was. -/
@[simp] theorem setDecoder_frame (st : DecoderState) (s : State) :
    (setDecoder st s).power = s.power ∧ (setDecoder st s).loop = s.loop ∧ (setDecoder st s).out = s.out ∧
    (setDecoder st s).disp = s.disp ∧ (setDecoder st s).tray = s.tray ∧ (setDecoder st s).lamp = s.lamp ∧
    (setDecoder st s).cool = s.cool ∧ (setDecoder st s).deck = s.deck ∧ (setDecoder st s).remote = s.remote ∧
    (setDecoder st s).stn = s.stn ∧ (setDecoder st s).retained = s.retained ∧ (setDecoder st s).attn = s.attn ∧
    (setDecoder st s).openValues = s.openValues ∧ (setDecoder st s).pending = s.pending := ⟨rfl, rfl, rfl, rfl, rfl, rfl, rfl, rfl, rfl, rfl, rfl, rfl, rfl, rfl⟩

/-- `beginReading` leaves all but dec as it was. -/
@[simp] theorem beginReading_frame (s : State) :
    (beginReading s).power = s.power ∧ (beginReading s).loop = s.loop ∧ (beginReading s).out = s.out ∧
    (beginReading s).disp = s.disp ∧ (beginReading s).tray = s.tray ∧ (beginReading s).lamp = s.lamp ∧
    (beginReading s).cool = s.cool ∧ (beginReading s).deck = s.deck ∧ (beginReading s).remote = s.remote ∧
    (beginReading s).stn = s.stn ∧ (beginReading s).retained = s.retained ∧ (beginReading s).attn = s.attn ∧
    (beginReading s).openValues = s.openValues ∧ (beginReading s).pending = s.pending := ⟨rfl, rfl, rfl, rfl, rfl, rfl, rfl, rfl, rfl, rfl, rfl, rfl, rfl, rfl⟩

/-- `enterPulseIdle` leaves all but dec as it was. -/
@[simp] theorem enterPulseIdle_frame (s : State) :
    (enterPulseIdle s).power = s.power ∧ (enterPulseIdle s).loop = s.loop ∧ (enterPulseIdle s).out = s.out ∧
    (enterPulseIdle s).disp = s.disp ∧ (enterPulseIdle s).tray = s.tray ∧ (enterPulseIdle s).lamp = s.lamp ∧
    (enterPulseIdle s).cool = s.cool ∧ (enterPulseIdle s).deck = s.deck ∧ (enterPulseIdle s).remote = s.remote ∧
    (enterPulseIdle s).stn = s.stn ∧ (enterPulseIdle s).retained = s.retained ∧ (enterPulseIdle s).attn = s.attn ∧
    (enterPulseIdle s).openValues = s.openValues ∧ (enterPulseIdle s).pending = s.pending := ⟨rfl, rfl, rfl, rfl, rfl, rfl, rfl, rfl, rfl, rfl, rfl, rfl, rfl, rfl⟩

/-- `countNonMark` leaves all but dec as it was. -/
@[simp] theorem countNonMark_frame (s : State) :
    (countNonMark s).power = s.power ∧ (countNonMark s).loop = s.loop ∧ (countNonMark s).out = s.out ∧
    (countNonMark s).disp = s.disp ∧ (countNonMark s).tray = s.tray ∧ (countNonMark s).lamp = s.lamp ∧
    (countNonMark s).cool = s.cool ∧ (countNonMark s).deck = s.deck ∧ (countNonMark s).remote = s.remote ∧
    (countNonMark s).stn = s.stn ∧ (countNonMark s).retained = s.retained ∧ (countNonMark s).attn = s.attn ∧
    (countNonMark s).openValues = s.openValues ∧ (countNonMark s).pending = s.pending := ⟨rfl, rfl, rfl, rfl, rfl, rfl, rfl, rfl, rfl, rfl, rfl, rfl, rfl, rfl⟩

/-- `expireGuard` leaves all but dec as it was. -/
@[simp] theorem expireGuard_frame (s : State) :
    (expireGuard s).power = s.power ∧ (expireGuard s).loop = s.loop ∧ (expireGuard s).out = s.out ∧
    (expireGuard s).disp = s.disp ∧ (expireGuard s).tray = s.tray ∧ (expireGuard s).lamp = s.lamp ∧
    (expireGuard s).cool = s.cool ∧ (expireGuard s).deck = s.deck ∧ (expireGuard s).remote = s.remote ∧
    (expireGuard s).stn = s.stn ∧ (expireGuard s).retained = s.retained ∧ (expireGuard s).attn = s.attn ∧
    (expireGuard s).openValues = s.openValues ∧ (expireGuard s).pending = s.pending := ⟨rfl, rfl, rfl, rfl, rfl, rfl, rfl, rfl, rfl, rfl, rfl, rfl, rfl, rfl⟩

/-- `chooseFocus` leaves all but remote as it was. -/
@[simp] theorem chooseFocus_frame (s : State) :
    (chooseFocus s).power = s.power ∧ (chooseFocus s).loop = s.loop ∧ (chooseFocus s).out = s.out ∧
    (chooseFocus s).disp = s.disp ∧ (chooseFocus s).tray = s.tray ∧ (chooseFocus s).lamp = s.lamp ∧
    (chooseFocus s).cool = s.cool ∧ (chooseFocus s).deck = s.deck ∧ (chooseFocus s).dec = s.dec ∧
    (chooseFocus s).stn = s.stn ∧ (chooseFocus s).retained = s.retained ∧ (chooseFocus s).attn = s.attn ∧
    (chooseFocus s).openValues = s.openValues ∧ (chooseFocus s).pending = s.pending := ⟨rfl, rfl, rfl, rfl, rfl, rfl, rfl, rfl, rfl, rfl, rfl, rfl, rfl, rfl⟩

/-- `focusRunLimit` leaves all but remote as it was. -/
@[simp] theorem focusRunLimit_frame (s : State) :
    (focusRunLimit s).power = s.power ∧ (focusRunLimit s).loop = s.loop ∧ (focusRunLimit s).out = s.out ∧
    (focusRunLimit s).disp = s.disp ∧ (focusRunLimit s).tray = s.tray ∧ (focusRunLimit s).lamp = s.lamp ∧
    (focusRunLimit s).cool = s.cool ∧ (focusRunLimit s).deck = s.deck ∧ (focusRunLimit s).dec = s.dec ∧
    (focusRunLimit s).stn = s.stn ∧ (focusRunLimit s).retained = s.retained ∧ (focusRunLimit s).attn = s.attn ∧
    (focusRunLimit s).openValues = s.openValues ∧ (focusRunLimit s).pending = s.pending := ⟨rfl, rfl, rfl, rfl, rfl, rfl, rfl, rfl, rfl, rfl, rfl, rfl, rfl, rfl⟩

/-- `pressKey` leaves all but remote as it was. -/
@[simp] theorem pressKey_frame (k : Key) (s : State) :
    (pressKey k s).power = s.power ∧ (pressKey k s).loop = s.loop ∧ (pressKey k s).out = s.out ∧
    (pressKey k s).disp = s.disp ∧ (pressKey k s).tray = s.tray ∧ (pressKey k s).lamp = s.lamp ∧
    (pressKey k s).cool = s.cool ∧ (pressKey k s).deck = s.deck ∧ (pressKey k s).dec = s.dec ∧
    (pressKey k s).stn = s.stn ∧ (pressKey k s).retained = s.retained ∧ (pressKey k s).attn = s.attn ∧
    (pressKey k s).openValues = s.openValues ∧ (pressKey k s).pending = s.pending := ⟨rfl, rfl, rfl, rfl, rfl, rfl, rfl, rfl, rfl, rfl, rfl, rfl, rfl, rfl⟩

/-- `updateCool` leaves all but cool as it was. -/
@[simp] theorem updateCool_frame (s : State) :
    (updateCool s).power = s.power ∧ (updateCool s).loop = s.loop ∧ (updateCool s).out = s.out ∧
    (updateCool s).disp = s.disp ∧ (updateCool s).tray = s.tray ∧ (updateCool s).lamp = s.lamp ∧
    (updateCool s).deck = s.deck ∧ (updateCool s).dec = s.dec ∧ (updateCool s).remote = s.remote ∧
    (updateCool s).stn = s.stn ∧ (updateCool s).retained = s.retained ∧ (updateCool s).attn = s.attn ∧
    (updateCool s).openValues = s.openValues ∧ (updateCool s).pending = s.pending := ⟨rfl, rfl, rfl, rfl, rfl, rfl, rfl, rfl, rfl, rfl, rfl, rfl, rfl, rfl⟩

/-- `lockConfiguration` leaves all but disp, stn as it was. -/
@[simp] theorem lockConfiguration_frame (s : State) :
    (lockConfiguration s).power = s.power ∧ (lockConfiguration s).loop = s.loop ∧ (lockConfiguration s).out = s.out ∧
    (lockConfiguration s).tray = s.tray ∧ (lockConfiguration s).lamp = s.lamp ∧ (lockConfiguration s).cool = s.cool ∧
    (lockConfiguration s).deck = s.deck ∧ (lockConfiguration s).dec = s.dec ∧ (lockConfiguration s).remote = s.remote ∧
    (lockConfiguration s).retained = s.retained ∧ (lockConfiguration s).attn = s.attn ∧ (lockConfiguration s).openValues = s.openValues ∧
    (lockConfiguration s).pending = s.pending := ⟨rfl, rfl, rfl, rfl, rfl, rfl, rfl, rfl, rfl, rfl, rfl, rfl, rfl⟩

/-- `beginWrite` leaves all but retained, stn as it was. -/
@[simp] theorem beginWrite_frame (s : State) :
    (beginWrite s).power = s.power ∧ (beginWrite s).loop = s.loop ∧ (beginWrite s).out = s.out ∧
    (beginWrite s).disp = s.disp ∧ (beginWrite s).tray = s.tray ∧ (beginWrite s).lamp = s.lamp ∧
    (beginWrite s).cool = s.cool ∧ (beginWrite s).deck = s.deck ∧ (beginWrite s).dec = s.dec ∧
    (beginWrite s).remote = s.remote ∧ (beginWrite s).attn = s.attn ∧ (beginWrite s).openValues = s.openValues ∧
    (beginWrite s).pending = s.pending := ⟨rfl, rfl, rfl, rfl, rfl, rfl, rfl, rfl, rfl, rfl, rfl, rfl, rfl⟩

/-- `setRx` leaves all but loop as it was. -/
@[simp] theorem setRx_frame (r : Rx) (s : State) :
    (setRx r s).power = s.power ∧ (setRx r s).out = s.out ∧ (setRx r s).disp = s.disp ∧
    (setRx r s).tray = s.tray ∧ (setRx r s).lamp = s.lamp ∧ (setRx r s).cool = s.cool ∧
    (setRx r s).deck = s.deck ∧ (setRx r s).dec = s.dec ∧ (setRx r s).remote = s.remote ∧
    (setRx r s).stn = s.stn ∧ (setRx r s).retained = s.retained ∧ (setRx r s).attn = s.attn ∧
    (setRx r s).openValues = s.openValues ∧ (setRx r s).pending = s.pending := ⟨rfl, rfl, rfl, rfl, rfl, rfl, rfl, rfl, rfl, rfl, rfl, rfl, rfl, rfl⟩

/-- After a byte LOOP IN has been idle for no time, and no byte is partly received. -/
@[simp] theorem noteByte_loop (s : State) : (noteByte s).loop = { s.loop with inIdle := 0, bits := 0 } := rfl

/-- `noteByte` leaves all but loop as it was. -/
@[simp] theorem noteByte_frame (s : State) :
    (noteByte s).power = s.power ∧ (noteByte s).out = s.out ∧ (noteByte s).disp = s.disp ∧
    (noteByte s).tray = s.tray ∧ (noteByte s).lamp = s.lamp ∧ (noteByte s).cool = s.cool ∧
    (noteByte s).deck = s.deck ∧ (noteByte s).dec = s.dec ∧ (noteByte s).remote = s.remote ∧
    (noteByte s).stn = s.stn ∧ (noteByte s).retained = s.retained ∧ (noteByte s).attn = s.attn ∧
    (noteByte s).openValues = s.openValues ∧ (noteByte s).pending = s.pending := ⟨rfl, rfl, rfl, rfl, rfl, rfl, rfl, rfl, rfl, rfl, rfl, rfl, rfl, rfl⟩

/-- `undoProvisional` leaves all but attn, loop as it was. -/
@[simp] theorem undoProvisional_frame (s : State) :
    (undoProvisional s).power = s.power ∧ (undoProvisional s).out = s.out ∧ (undoProvisional s).disp = s.disp ∧
    (undoProvisional s).tray = s.tray ∧ (undoProvisional s).lamp = s.lamp ∧ (undoProvisional s).cool = s.cool ∧
    (undoProvisional s).deck = s.deck ∧ (undoProvisional s).dec = s.dec ∧ (undoProvisional s).remote = s.remote ∧
    (undoProvisional s).stn = s.stn ∧ (undoProvisional s).retained = s.retained ∧ (undoProvisional s).openValues = s.openValues ∧
    (undoProvisional s).pending = s.pending := ⟨rfl, rfl, rfl, rfl, rfl, rfl, rfl, rfl, rfl, rfl, rfl, rfl, rfl⟩

/-- `passOut` leaves all but out as it was. -/
@[simp] theorem passOut_frame (n : Nat) (s : State) :
    (passOut n s).power = s.power ∧ (passOut n s).loop = s.loop ∧ (passOut n s).disp = s.disp ∧
    (passOut n s).tray = s.tray ∧ (passOut n s).lamp = s.lamp ∧ (passOut n s).cool = s.cool ∧
    (passOut n s).deck = s.deck ∧ (passOut n s).dec = s.dec ∧ (passOut n s).remote = s.remote ∧
    (passOut n s).stn = s.stn ∧ (passOut n s).retained = s.retained ∧ (passOut n s).attn = s.attn ∧
    (passOut n s).openValues = s.openValues ∧ (passOut n s).pending = s.pending := ⟨rfl, rfl, rfl, rfl, rfl, rfl, rfl, rfl, rfl, rfl, rfl, rfl, rfl, rfl⟩

/-- `clearSent` leaves all but out as it was. -/
@[simp] theorem clearSent_frame (s : State) :
    (clearSent s).power = s.power ∧ (clearSent s).loop = s.loop ∧ (clearSent s).disp = s.disp ∧
    (clearSent s).tray = s.tray ∧ (clearSent s).lamp = s.lamp ∧ (clearSent s).cool = s.cool ∧
    (clearSent s).deck = s.deck ∧ (clearSent s).dec = s.dec ∧ (clearSent s).remote = s.remote ∧
    (clearSent s).stn = s.stn ∧ (clearSent s).retained = s.retained ∧ (clearSent s).attn = s.attn ∧
    (clearSent s).openValues = s.openValues ∧ (clearSent s).pending = s.pending := ⟨rfl, rfl, rfl, rfl, rfl, rfl, rfl, rfl, rfl, rfl, rfl, rfl, rfl, rfl⟩

/-- `assertPin` leaves all but out, power, stn as it was. -/
@[simp] theorem assertPin_frame (s : State) :
    (assertPin s).loop = s.loop ∧ (assertPin s).disp = s.disp ∧ (assertPin s).tray = s.tray ∧
    (assertPin s).lamp = s.lamp ∧ (assertPin s).cool = s.cool ∧ (assertPin s).deck = s.deck ∧
    (assertPin s).dec = s.dec ∧ (assertPin s).remote = s.remote ∧ (assertPin s).retained = s.retained ∧
    (assertPin s).attn = s.attn ∧ (assertPin s).openValues = s.openValues ∧ (assertPin s).pending = s.pending := ⟨rfl, rfl, rfl, rfl, rfl, rfl, rfl, rfl, rfl, rfl, rfl, rfl⟩

/-- `supplyFall` leaves all but power, stn as it was. -/
@[simp] theorem supplyFall_frame (s : State) :
    (supplyFall s).loop = s.loop ∧ (supplyFall s).out = s.out ∧ (supplyFall s).disp = s.disp ∧
    (supplyFall s).tray = s.tray ∧ (supplyFall s).lamp = s.lamp ∧ (supplyFall s).cool = s.cool ∧
    (supplyFall s).deck = s.deck ∧ (supplyFall s).dec = s.dec ∧ (supplyFall s).remote = s.remote ∧
    (supplyFall s).retained = s.retained ∧ (supplyFall s).attn = s.attn ∧ (supplyFall s).openValues = s.openValues ∧
    (supplyFall s).pending = s.pending := ⟨rfl, rfl, rfl, rfl, rfl, rfl, rfl, rfl, rfl, rfl, rfl, rfl, rfl⟩

end Sys2Proof.Machine
end

