-- ==== Sys2Proof/Laws/FramesTray.lean ====
section
/-! SUPPORT. What the shared operations and the Transport's operations leave as it was. -/

namespace Sys2Proof.Machine

open Sys2Proof (Byte Key Frame TrayCode Straps Readings KeySamples)

/-- `restartSilence` leaves all but loop as it was. -/
@[simp] theorem restartSilence_frame (s : State) :
    (restartSilence s).power = s.power ∧ (restartSilence s).out = s.out ∧ (restartSilence s).disp = s.disp ∧
    (restartSilence s).tray = s.tray ∧ (restartSilence s).lamp = s.lamp ∧ (restartSilence s).cool = s.cool ∧
    (restartSilence s).deck = s.deck ∧ (restartSilence s).dec = s.dec ∧ (restartSilence s).remote = s.remote ∧
    (restartSilence s).stn = s.stn ∧ (restartSilence s).retained = s.retained ∧ (restartSilence s).attn = s.attn ∧
    (restartSilence s).openValues = s.openValues ∧ (restartSilence s).pending = s.pending := by
  unfold restartSilence
  try dsimp only
  (repeat' split) <;> simp_all

/-- `offerFrame` leaves all but attn, loop as it was. -/
@[simp] theorem offerFrame_frame (x : OrigFrame) (s : State) :
    (offerFrame x s).power = s.power ∧ (offerFrame x s).out = s.out ∧ (offerFrame x s).disp = s.disp ∧
    (offerFrame x s).tray = s.tray ∧ (offerFrame x s).lamp = s.lamp ∧ (offerFrame x s).cool = s.cool ∧
    (offerFrame x s).deck = s.deck ∧ (offerFrame x s).dec = s.dec ∧ (offerFrame x s).remote = s.remote ∧
    (offerFrame x s).stn = s.stn ∧ (offerFrame x s).retained = s.retained ∧ (offerFrame x s).openValues = s.openValues ∧
    (offerFrame x s).pending = s.pending := by
  unfold offerFrame
  try dsimp only
  (repeat' split) <;> simp_all

/-- `startMove` leaves all but attn, tray as it was. -/
@[simp] theorem startMove_frame (m : Move) (s : State) :
    (startMove m s).power = s.power ∧ (startMove m s).loop = s.loop ∧ (startMove m s).out = s.out ∧
    (startMove m s).disp = s.disp ∧ (startMove m s).lamp = s.lamp ∧ (startMove m s).cool = s.cool ∧
    (startMove m s).deck = s.deck ∧ (startMove m s).dec = s.dec ∧ (startMove m s).remote = s.remote ∧
    (startMove m s).stn = s.stn ∧ (startMove m s).retained = s.retained ∧ (startMove m s).openValues = s.openValues ∧
    (startMove m s).pending = s.pending := by
  unfold startMove
  try dsimp only
  (repeat' split) <;> simp_all

/-- `startMovesUpTo` leaves all but attn, tray as it was. -/
@[simp] theorem startMovesUpTo_frame (n : Nat) (s : State) :
    (startMovesUpTo n s).power = s.power ∧ (startMovesUpTo n s).loop = s.loop ∧ (startMovesUpTo n s).out = s.out ∧
    (startMovesUpTo n s).disp = s.disp ∧ (startMovesUpTo n s).lamp = s.lamp ∧ (startMovesUpTo n s).cool = s.cool ∧
    (startMovesUpTo n s).deck = s.deck ∧ (startMovesUpTo n s).dec = s.dec ∧ (startMovesUpTo n s).remote = s.remote ∧
    (startMovesUpTo n s).stn = s.stn ∧ (startMovesUpTo n s).retained = s.retained ∧ (startMovesUpTo n s).openValues = s.openValues ∧
    (startMovesUpTo n s).pending = s.pending := by
  induction n generalizing s with
  | zero => simp [startMovesUpTo]
  | succ n ih =>
    unfold startMovesUpTo
    (repeat' split) <;> simp_all

/-- `startMoves` leaves all but attn, tray as it was. -/
@[simp] theorem startMoves_frame (s : State) :
    (startMoves s).power = s.power ∧ (startMoves s).loop = s.loop ∧ (startMoves s).out = s.out ∧
    (startMoves s).disp = s.disp ∧ (startMoves s).lamp = s.lamp ∧ (startMoves s).cool = s.cool ∧
    (startMoves s).deck = s.deck ∧ (startMoves s).dec = s.dec ∧ (startMoves s).remote = s.remote ∧
    (startMoves s).stn = s.stn ∧ (startMoves s).retained = s.retained ∧ (startMoves s).openValues = s.openValues ∧
    (startMoves s).pending = s.pending := by
  unfold startMoves
  try dsimp only
  simp_all

/-- `offerMove` leaves all but attn, tray as it was. -/
@[simp] theorem offerMove_frame (k : MoveKind) (dark : Bool) (o : Origin) (s : State) :
    (offerMove k dark o s).power = s.power ∧ (offerMove k dark o s).loop = s.loop ∧ (offerMove k dark o s).out = s.out ∧
    (offerMove k dark o s).disp = s.disp ∧ (offerMove k dark o s).lamp = s.lamp ∧ (offerMove k dark o s).cool = s.cool ∧
    (offerMove k dark o s).deck = s.deck ∧ (offerMove k dark o s).dec = s.dec ∧ (offerMove k dark o s).remote = s.remote ∧
    (offerMove k dark o s).stn = s.stn ∧ (offerMove k dark o s).retained = s.retained ∧ (offerMove k dark o s).openValues = s.openValues ∧
    (offerMove k dark o s).pending = s.pending := by
  unfold offerMove
  try dsimp only
  (repeat' split) <;> simp_all

/-- `enterIdle` leaves all but attn, tray as it was. -/
@[simp] theorem enterIdle_frame (s : State) :
    (enterIdle s).power = s.power ∧ (enterIdle s).loop = s.loop ∧ (enterIdle s).out = s.out ∧
    (enterIdle s).disp = s.disp ∧ (enterIdle s).lamp = s.lamp ∧ (enterIdle s).cool = s.cool ∧
    (enterIdle s).deck = s.deck ∧ (enterIdle s).dec = s.dec ∧ (enterIdle s).remote = s.remote ∧
    (enterIdle s).stn = s.stn ∧ (enterIdle s).retained = s.retained ∧ (enterIdle s).openValues = s.openValues ∧
    (enterIdle s).pending = s.pending := by
  unfold enterIdle
  try dsimp only
  simp_all

/-- `jam` leaves all but attn, tray as it was. -/
@[simp] theorem jam_frame (ph : Phase) (s : State) :
    (jam ph s).power = s.power ∧ (jam ph s).loop = s.loop ∧ (jam ph s).out = s.out ∧
    (jam ph s).disp = s.disp ∧ (jam ph s).lamp = s.lamp ∧ (jam ph s).cool = s.cool ∧
    (jam ph s).deck = s.deck ∧ (jam ph s).dec = s.dec ∧ (jam ph s).remote = s.remote ∧
    (jam ph s).stn = s.stn ∧ (jam ph s).retained = s.retained ∧ (jam ph s).openValues = s.openValues ∧
    (jam ph s).pending = s.pending := by
  unfold jam
  try dsimp only
  (repeat' split) <;> simp_all

/-- `correctSlot` leaves all but attn, tray as it was. -/
@[simp] theorem correctSlot_frame (s : State) :
    (correctSlot s).power = s.power ∧ (correctSlot s).loop = s.loop ∧ (correctSlot s).out = s.out ∧
    (correctSlot s).disp = s.disp ∧ (correctSlot s).lamp = s.lamp ∧ (correctSlot s).cool = s.cool ∧
    (correctSlot s).deck = s.deck ∧ (correctSlot s).dec = s.dec ∧ (correctSlot s).remote = s.remote ∧
    (correctSlot s).stn = s.stn ∧ (correctSlot s).retained = s.retained ∧ (correctSlot s).openValues = s.openValues ∧
    (correctSlot s).pending = s.pending := by
  unfold correctSlot
  dsimp only
  (repeat' split) <;> simp_all

/-- `endHomingPass` leaves all but attn, tray as it was. -/
@[simp] theorem endHomingPass_frame (c : Cycle) (s : State) :
    (endHomingPass c s).power = s.power ∧ (endHomingPass c s).loop = s.loop ∧ (endHomingPass c s).out = s.out ∧
    (endHomingPass c s).disp = s.disp ∧ (endHomingPass c s).lamp = s.lamp ∧ (endHomingPass c s).cool = s.cool ∧
    (endHomingPass c s).deck = s.deck ∧ (endHomingPass c s).dec = s.dec ∧ (endHomingPass c s).remote = s.remote ∧
    (endHomingPass c s).stn = s.stn ∧ (endHomingPass c s).retained = s.retained ∧ (endHomingPass c s).openValues = s.openValues ∧
    (endHomingPass c s).pending = s.pending := by
  unfold endHomingPass
  dsimp only
  (repeat' split) <;> simp_all

/-- `takeHomeMark` leaves all but attn, tray as it was. -/
@[simp] theorem takeHomeMark_frame (c : Cycle) (s : State) :
    (takeHomeMark c s).power = s.power ∧ (takeHomeMark c s).loop = s.loop ∧ (takeHomeMark c s).out = s.out ∧
    (takeHomeMark c s).disp = s.disp ∧ (takeHomeMark c s).lamp = s.lamp ∧ (takeHomeMark c s).cool = s.cool ∧
    (takeHomeMark c s).deck = s.deck ∧ (takeHomeMark c s).dec = s.dec ∧ (takeHomeMark c s).remote = s.remote ∧
    (takeHomeMark c s).stn = s.stn ∧ (takeHomeMark c s).retained = s.retained ∧ (takeHomeMark c s).openValues = s.openValues ∧
    (takeHomeMark c s).pending = s.pending := by
  unfold takeHomeMark
  try dsimp only
  (repeat' split) <;> simp_all

/-- `enterIndex` leaves all but attn, tray as it was. -/
@[simp] theorem enterIndex_frame (s : State) :
    (enterIndex s).power = s.power ∧ (enterIndex s).loop = s.loop ∧ (enterIndex s).out = s.out ∧
    (enterIndex s).disp = s.disp ∧ (enterIndex s).lamp = s.lamp ∧ (enterIndex s).cool = s.cool ∧
    (enterIndex s).deck = s.deck ∧ (enterIndex s).dec = s.dec ∧ (enterIndex s).remote = s.remote ∧
    (enterIndex s).stn = s.stn ∧ (enterIndex s).retained = s.retained ∧ (enterIndex s).openValues = s.openValues ∧
    (enterIndex s).pending = s.pending := by
  unfold enterIndex
  dsimp only
  (repeat' split) <;> simp_all

/-- `takeIndexPulse` leaves all but attn, tray as it was. -/
@[simp] theorem takeIndexPulse_frame (c : Cycle) (s : State) :
    (takeIndexPulse c s).power = s.power ∧ (takeIndexPulse c s).loop = s.loop ∧ (takeIndexPulse c s).out = s.out ∧
    (takeIndexPulse c s).disp = s.disp ∧ (takeIndexPulse c s).lamp = s.lamp ∧ (takeIndexPulse c s).cool = s.cool ∧
    (takeIndexPulse c s).deck = s.deck ∧ (takeIndexPulse c s).dec = s.dec ∧ (takeIndexPulse c s).remote = s.remote ∧
    (takeIndexPulse c s).stn = s.stn ∧ (takeIndexPulse c s).retained = s.retained ∧ (takeIndexPulse c s).openValues = s.openValues ∧
    (takeIndexPulse c s).pending = s.pending := by
  unfold takeIndexPulse
  dsimp only
  (repeat' split) <;> simp_all

/-- `loseTray` leaves all but attn, tray as it was. -/
@[simp] theorem loseTray_frame (s : State) :
    (loseTray s).power = s.power ∧ (loseTray s).loop = s.loop ∧ (loseTray s).out = s.out ∧
    (loseTray s).disp = s.disp ∧ (loseTray s).lamp = s.lamp ∧ (loseTray s).cool = s.cool ∧
    (loseTray s).deck = s.deck ∧ (loseTray s).dec = s.dec ∧ (loseTray s).remote = s.remote ∧
    (loseTray s).stn = s.stn ∧ (loseTray s).retained = s.retained ∧ (loseTray s).openValues = s.openValues ∧
    (loseTray s).pending = s.pending := by
  unfold loseTray
  try dsimp only
  simp_all

/-- `removeTray` leaves all but attn, tray as it was. -/
@[simp] theorem removeTray_frame (s : State) :
    (removeTray s).power = s.power ∧ (removeTray s).loop = s.loop ∧ (removeTray s).out = s.out ∧
    (removeTray s).disp = s.disp ∧ (removeTray s).lamp = s.lamp ∧ (removeTray s).cool = s.cool ∧
    (removeTray s).deck = s.deck ∧ (removeTray s).dec = s.dec ∧ (removeTray s).remote = s.remote ∧
    (removeTray s).stn = s.stn ∧ (removeTray s).retained = s.retained ∧ (removeTray s).openValues = s.openValues ∧
    (removeTray s).pending = s.pending := by
  unfold removeTray
  try dsimp only
  (repeat' split) <;> simp_all

/-- `fitTray` leaves all but attn, tray as it was. -/
@[simp] theorem fitTray_frame (z : TraySize) (s : State) :
    (fitTray z s).power = s.power ∧ (fitTray z s).loop = s.loop ∧ (fitTray z s).out = s.out ∧
    (fitTray z s).disp = s.disp ∧ (fitTray z s).lamp = s.lamp ∧ (fitTray z s).cool = s.cool ∧
    (fitTray z s).deck = s.deck ∧ (fitTray z s).dec = s.dec ∧ (fitTray z s).remote = s.remote ∧
    (fitTray z s).stn = s.stn ∧ (fitTray z s).retained = s.retained ∧ (fitTray z s).openValues = s.openValues ∧
    (fitTray z s).pending = s.pending := by
  unfold fitTray
  try dsimp only
  simp_all

/-- `changeTray` leaves all but attn, tray as it was. -/
@[simp] theorem changeTray_frame (z : TraySize) (s : State) :
    (changeTray z s).power = s.power ∧ (changeTray z s).loop = s.loop ∧ (changeTray z s).out = s.out ∧
    (changeTray z s).disp = s.disp ∧ (changeTray z s).lamp = s.lamp ∧ (changeTray z s).cool = s.cool ∧
    (changeTray z s).deck = s.deck ∧ (changeTray z s).dec = s.dec ∧ (changeTray z s).remote = s.remote ∧
    (changeTray z s).stn = s.stn ∧ (changeTray z s).retained = s.retained ∧ (changeTray z s).openValues = s.openValues ∧
    (changeTray z s).pending = s.pending := by
  unfold changeTray
  dsimp only
  (repeat' split) <;> simp_all

/-- `formTray` leaves all but tray as it was. -/
@[simp] theorem formTray_frame (z : TraySize) (s : State) :
    (formTray z s).power = s.power ∧ (formTray z s).loop = s.loop ∧ (formTray z s).out = s.out ∧
    (formTray z s).disp = s.disp ∧ (formTray z s).lamp = s.lamp ∧ (formTray z s).cool = s.cool ∧
    (formTray z s).deck = s.deck ∧ (formTray z s).dec = s.dec ∧ (formTray z s).remote = s.remote ∧
    (formTray z s).stn = s.stn ∧ (formTray z s).retained = s.retained ∧ (formTray z s).attn = s.attn ∧
    (formTray z s).openValues = s.openValues ∧ (formTray z s).pending = s.pending := by
  unfold formTray
  dsimp only
  simp_all

/-- `settleCode` leaves all but attn, tray as it was. -/
@[simp] theorem settleCode_frame (z : TraySize) (s : State) :
    (settleCode z s).power = s.power ∧ (settleCode z s).loop = s.loop ∧ (settleCode z s).out = s.out ∧
    (settleCode z s).disp = s.disp ∧ (settleCode z s).lamp = s.lamp ∧ (settleCode z s).cool = s.cool ∧
    (settleCode z s).deck = s.deck ∧ (settleCode z s).dec = s.dec ∧ (settleCode z s).remote = s.remote ∧
    (settleCode z s).stn = s.stn ∧ (settleCode z s).retained = s.retained ∧ (settleCode z s).openValues = s.openValues ∧
    (settleCode z s).pending = s.pending := by
  unfold settleCode
  dsimp only
  (repeat' split) <;> simp_all

/-- `expireDarkWait` leaves all but attn, tray as it was. -/
@[simp] theorem expireDarkWait_frame (s : State) :
    (expireDarkWait s).power = s.power ∧ (expireDarkWait s).loop = s.loop ∧ (expireDarkWait s).out = s.out ∧
    (expireDarkWait s).disp = s.disp ∧ (expireDarkWait s).lamp = s.lamp ∧ (expireDarkWait s).cool = s.cool ∧
    (expireDarkWait s).deck = s.deck ∧ (expireDarkWait s).dec = s.dec ∧ (expireDarkWait s).remote = s.remote ∧
    (expireDarkWait s).stn = s.stn ∧ (expireDarkWait s).retained = s.retained ∧ (expireDarkWait s).openValues = s.openValues ∧
    (expireDarkWait s).pending = s.pending := by
  unfold expireDarkWait
  try dsimp only
  (repeat' split) <;> simp_all

/-- `closeCamMid` leaves all but attn, tray as it was. -/
@[simp] theorem closeCamMid_frame (s : State) :
    (closeCamMid s).power = s.power ∧ (closeCamMid s).loop = s.loop ∧ (closeCamMid s).out = s.out ∧
    (closeCamMid s).disp = s.disp ∧ (closeCamMid s).lamp = s.lamp ∧ (closeCamMid s).cool = s.cool ∧
    (closeCamMid s).deck = s.deck ∧ (closeCamMid s).dec = s.dec ∧ (closeCamMid s).remote = s.remote ∧
    (closeCamMid s).stn = s.stn ∧ (closeCamMid s).retained = s.retained ∧ (closeCamMid s).openValues = s.openValues ∧
    (closeCamMid s).pending = s.pending := by
  unfold closeCamMid
  try dsimp only
  (repeat' split) <;> simp_all

/-- `expireLift` leaves all but attn, tray as it was. -/
@[simp] theorem expireLift_frame (s : State) :
    (expireLift s).power = s.power ∧ (expireLift s).loop = s.loop ∧ (expireLift s).out = s.out ∧
    (expireLift s).disp = s.disp ∧ (expireLift s).lamp = s.lamp ∧ (expireLift s).cool = s.cool ∧
    (expireLift s).deck = s.deck ∧ (expireLift s).dec = s.dec ∧ (expireLift s).remote = s.remote ∧
    (expireLift s).stn = s.stn ∧ (expireLift s).retained = s.retained ∧ (expireLift s).openValues = s.openValues ∧
    (expireLift s).pending = s.pending := by
  unfold expireLift
  try dsimp only
  (repeat' split) <;> simp_all

/-- `indexPulse` leaves all but attn, tray as it was. -/
@[simp] theorem indexPulse_frame (s : State) :
    (indexPulse s).power = s.power ∧ (indexPulse s).loop = s.loop ∧ (indexPulse s).out = s.out ∧
    (indexPulse s).disp = s.disp ∧ (indexPulse s).lamp = s.lamp ∧ (indexPulse s).cool = s.cool ∧
    (indexPulse s).deck = s.deck ∧ (indexPulse s).dec = s.dec ∧ (indexPulse s).remote = s.remote ∧
    (indexPulse s).stn = s.stn ∧ (indexPulse s).retained = s.retained ∧ (indexPulse s).openValues = s.openValues ∧
    (indexPulse s).pending = s.pending := by
  unfold indexPulse
  try dsimp only
  (repeat' split) <;> simp_all

/-- `expireIndex` leaves all but attn, tray as it was. -/
@[simp] theorem expireIndex_frame (s : State) :
    (expireIndex s).power = s.power ∧ (expireIndex s).loop = s.loop ∧ (expireIndex s).out = s.out ∧
    (expireIndex s).disp = s.disp ∧ (expireIndex s).lamp = s.lamp ∧ (expireIndex s).cool = s.cool ∧
    (expireIndex s).deck = s.deck ∧ (expireIndex s).dec = s.dec ∧ (expireIndex s).remote = s.remote ∧
    (expireIndex s).stn = s.stn ∧ (expireIndex s).retained = s.retained ∧ (expireIndex s).openValues = s.openValues ∧
    (expireIndex s).pending = s.pending := by
  unfold expireIndex
  try dsimp only
  (repeat' split) <;> simp_all

/-- `homeMark` leaves all but attn, tray as it was. -/
@[simp] theorem homeMark_frame (s : State) :
    (homeMark s).power = s.power ∧ (homeMark s).loop = s.loop ∧ (homeMark s).out = s.out ∧
    (homeMark s).disp = s.disp ∧ (homeMark s).lamp = s.lamp ∧ (homeMark s).cool = s.cool ∧
    (homeMark s).deck = s.deck ∧ (homeMark s).dec = s.dec ∧ (homeMark s).remote = s.remote ∧
    (homeMark s).stn = s.stn ∧ (homeMark s).retained = s.retained ∧ (homeMark s).openValues = s.openValues ∧
    (homeMark s).pending = s.pending := by
  unfold homeMark
  try dsimp only
  (repeat' split) <;> simp_all

/-- `closeCamHome` leaves all but attn, tray as it was. -/
@[simp] theorem closeCamHome_frame (s : State) :
    (closeCamHome s).power = s.power ∧ (closeCamHome s).loop = s.loop ∧ (closeCamHome s).out = s.out ∧
    (closeCamHome s).disp = s.disp ∧ (closeCamHome s).lamp = s.lamp ∧ (closeCamHome s).cool = s.cool ∧
    (closeCamHome s).deck = s.deck ∧ (closeCamHome s).dec = s.dec ∧ (closeCamHome s).remote = s.remote ∧
    (closeCamHome s).stn = s.stn ∧ (closeCamHome s).retained = s.retained ∧ (closeCamHome s).openValues = s.openValues ∧
    (closeCamHome s).pending = s.pending := by
  unfold closeCamHome
  try dsimp only
  (repeat' split) <;> simp_all

/-- `expireDrop` leaves all but attn, tray as it was. -/
@[simp] theorem expireDrop_frame (s : State) :
    (expireDrop s).power = s.power ∧ (expireDrop s).loop = s.loop ∧ (expireDrop s).out = s.out ∧
    (expireDrop s).disp = s.disp ∧ (expireDrop s).lamp = s.lamp ∧ (expireDrop s).cool = s.cool ∧
    (expireDrop s).deck = s.deck ∧ (expireDrop s).dec = s.dec ∧ (expireDrop s).remote = s.remote ∧
    (expireDrop s).stn = s.stn ∧ (expireDrop s).retained = s.retained ∧ (expireDrop s).openValues = s.openValues ∧
    (expireDrop s).pending = s.pending := by
  unfold expireDrop
  try dsimp only
  (repeat' split) <;> simp_all

/-- `endSettle` leaves all but attn, tray as it was. -/
@[simp] theorem endSettle_frame (s : State) :
    (endSettle s).power = s.power ∧ (endSettle s).loop = s.loop ∧ (endSettle s).out = s.out ∧
    (endSettle s).disp = s.disp ∧ (endSettle s).lamp = s.lamp ∧ (endSettle s).cool = s.cool ∧
    (endSettle s).deck = s.deck ∧ (endSettle s).dec = s.dec ∧ (endSettle s).remote = s.remote ∧
    (endSettle s).stn = s.stn ∧ (endSettle s).retained = s.retained ∧ (endSettle s).openValues = s.openValues ∧
    (endSettle s).pending = s.pending := by
  unfold endSettle
  try dsimp only
  (repeat' split) <;> simp_all

/-- `endClose` leaves all but attn, tray as it was. -/
@[simp] theorem endClose_frame (b : Bool) (s : State) :
    (endClose b s).power = s.power ∧ (endClose b s).loop = s.loop ∧ (endClose b s).out = s.out ∧
    (endClose b s).disp = s.disp ∧ (endClose b s).lamp = s.lamp ∧ (endClose b s).cool = s.cool ∧
    (endClose b s).deck = s.deck ∧ (endClose b s).dec = s.dec ∧ (endClose b s).remote = s.remote ∧
    (endClose b s).stn = s.stn ∧ (endClose b s).retained = s.retained ∧ (endClose b s).openValues = s.openValues ∧
    (endClose b s).pending = s.pending := by
  unfold endClose
  try dsimp only
  (repeat' split) <;> simp_all

end Sys2Proof.Machine
end

