-- ==== Sys2Proof/Laws/FramesLamp.lean ====
section
/-! SUPPORT. What the Lamp Engine's and the Cooling Controller's operations leave as it was. -/

namespace Sys2Proof.Machine

open Sys2Proof (Byte Key Frame TrayCode Straps Readings KeySamples)

/-- `setLamp` leaves all but attn, cool, lamp, tray as it was. -/
@[simp] theorem setLamp_frame (l : Lamp) (s : State) :
    (setLamp l s).power = s.power ∧ (setLamp l s).loop = s.loop ∧ (setLamp l s).out = s.out ∧
    (setLamp l s).disp = s.disp ∧ (setLamp l s).deck = s.deck ∧ (setLamp l s).dec = s.dec ∧
    (setLamp l s).remote = s.remote ∧ (setLamp l s).stn = s.stn ∧ (setLamp l s).retained = s.retained ∧
    (setLamp l s).openValues = s.openValues ∧ (setLamp l s).pending = s.pending := by
  unfold setLamp
  dsimp only
  (repeat' split) <;> simp_all

/-- `requestPosition` leaves all but attn, cool, lamp, tray as it was. -/
@[simp] theorem requestPosition_frame (target ticks : Nat) (o : Origin) (s : State) :
    (requestPosition target ticks o s).power = s.power ∧ (requestPosition target ticks o s).loop = s.loop ∧ (requestPosition target ticks o s).out = s.out ∧
    (requestPosition target ticks o s).disp = s.disp ∧ (requestPosition target ticks o s).deck = s.deck ∧ (requestPosition target ticks o s).dec = s.dec ∧
    (requestPosition target ticks o s).remote = s.remote ∧ (requestPosition target ticks o s).stn = s.stn ∧ (requestPosition target ticks o s).retained = s.retained ∧
    (requestPosition target ticks o s).openValues = s.openValues ∧ (requestPosition target ticks o s).pending = s.pending := by
  unfold requestPosition
  try dsimp only
  (repeat' split) <;> simp_all

/-- `requestLamp` leaves all but attn, cool, lamp, tray as it was. -/
@[simp] theorem requestLamp_frame (level tenths : Nat) (o : Origin) (s : State) :
    (requestLamp level tenths o s).power = s.power ∧ (requestLamp level tenths o s).loop = s.loop ∧ (requestLamp level tenths o s).out = s.out ∧
    (requestLamp level tenths o s).disp = s.disp ∧ (requestLamp level tenths o s).deck = s.deck ∧ (requestLamp level tenths o s).dec = s.dec ∧
    (requestLamp level tenths o s).remote = s.remote ∧ (requestLamp level tenths o s).stn = s.stn ∧ (requestLamp level tenths o s).retained = s.retained ∧
    (requestLamp level tenths o s).openValues = s.openValues ∧ (requestLamp level tenths o s).pending = s.pending := by
  unfold requestLamp
  try dsimp only
  simp_all

/-- `requestLampOff` leaves all but attn, cool, lamp, tray as it was. -/
@[simp] theorem requestLampOff_frame (s : State) :
    (requestLampOff s).power = s.power ∧ (requestLampOff s).loop = s.loop ∧ (requestLampOff s).out = s.out ∧
    (requestLampOff s).disp = s.disp ∧ (requestLampOff s).deck = s.deck ∧ (requestLampOff s).dec = s.dec ∧
    (requestLampOff s).remote = s.remote ∧ (requestLampOff s).stn = s.stn ∧ (requestLampOff s).retained = s.retained ∧
    (requestLampOff s).openValues = s.openValues ∧ (requestLampOff s).pending = s.pending := by
  unfold requestLampOff
  try dsimp only
  (repeat' split) <;> simp_all

/-- `requestDark` leaves all but attn, cool, lamp, tray as it was. -/
@[simp] theorem requestDark_frame (s : State) :
    (requestDark s).power = s.power ∧ (requestDark s).loop = s.loop ∧ (requestDark s).out = s.out ∧
    (requestDark s).disp = s.disp ∧ (requestDark s).deck = s.deck ∧ (requestDark s).dec = s.dec ∧
    (requestDark s).remote = s.remote ∧ (requestDark s).stn = s.stn ∧ (requestDark s).retained = s.retained ∧
    (requestDark s).openValues = s.openValues ∧ (requestDark s).pending = s.pending := by
  unfold requestDark
  dsimp only
  (repeat' split) <;> simp_all

/-- `failLamp` leaves all but attn, cool, lamp, tray as it was. -/
@[simp] theorem failLamp_frame (d : Nat) (l : Lamp) (s : State) :
    (failLamp d l s).power = s.power ∧ (failLamp d l s).loop = s.loop ∧ (failLamp d l s).out = s.out ∧
    (failLamp d l s).disp = s.disp ∧ (failLamp d l s).deck = s.deck ∧ (failLamp d l s).dec = s.dec ∧
    (failLamp d l s).remote = s.remote ∧ (failLamp d l s).stn = s.stn ∧ (failLamp d l s).retained = s.retained ∧
    (failLamp d l s).openValues = s.openValues ∧ (failLamp d l s).pending = s.pending := by
  simp [failLamp]

/-- `lampTickOnly` leaves all but attn, cool, lamp, tray as it was. -/
@[simp] theorem lampTickOnly_frame (current : Bool) (s : State) :
    (lampTickOnly current s).power = s.power ∧ (lampTickOnly current s).loop = s.loop ∧ (lampTickOnly current s).out = s.out ∧
    (lampTickOnly current s).disp = s.disp ∧ (lampTickOnly current s).deck = s.deck ∧ (lampTickOnly current s).dec = s.dec ∧
    (lampTickOnly current s).remote = s.remote ∧ (lampTickOnly current s).stn = s.stn ∧ (lampTickOnly current s).retained = s.retained ∧
    (lampTickOnly current s).openValues = s.openValues ∧ (lampTickOnly current s).pending = s.pending := by
  unfold lampTickOnly
  dsimp only
  (repeat' split) <;> simp_all

/-- `tripsChanged` leaves all but attn, cool, lamp, tray as it was. -/
@[simp] theorem tripsChanged_frame (s : State) :
    (tripsChanged s).power = s.power ∧ (tripsChanged s).loop = s.loop ∧ (tripsChanged s).out = s.out ∧
    (tripsChanged s).disp = s.disp ∧ (tripsChanged s).deck = s.deck ∧ (tripsChanged s).dec = s.dec ∧
    (tripsChanged s).remote = s.remote ∧ (tripsChanged s).stn = s.stn ∧ (tripsChanged s).retained = s.retained ∧
    (tripsChanged s).openValues = s.openValues ∧ (tripsChanged s).pending = s.pending := by
  unfold tripsChanged
  try dsimp only
  simp_all

/-- `testThermal` leaves all but attn, cool, lamp, tray as it was. -/
@[simp] theorem testThermal_frame (s : State) :
    (testThermal s).power = s.power ∧ (testThermal s).loop = s.loop ∧ (testThermal s).out = s.out ∧
    (testThermal s).disp = s.disp ∧ (testThermal s).deck = s.deck ∧ (testThermal s).dec = s.dec ∧
    (testThermal s).remote = s.remote ∧ (testThermal s).stn = s.stn ∧ (testThermal s).retained = s.retained ∧
    (testThermal s).openValues = s.openValues ∧ (testThermal s).pending = s.pending := by
  unfold testThermal
  try dsimp only
  (repeat' split) <;> simp_all

/-- `updateStages` leaves all but cool as it was. -/
@[simp] theorem updateStages_frame (s : State) :
    (updateStages s).power = s.power ∧ (updateStages s).loop = s.loop ∧ (updateStages s).out = s.out ∧
    (updateStages s).disp = s.disp ∧ (updateStages s).tray = s.tray ∧ (updateStages s).lamp = s.lamp ∧
    (updateStages s).deck = s.deck ∧ (updateStages s).dec = s.dec ∧ (updateStages s).remote = s.remote ∧
    (updateStages s).stn = s.stn ∧ (updateStages s).retained = s.retained ∧ (updateStages s).attn = s.attn ∧
    (updateStages s).openValues = s.openValues ∧ (updateStages s).pending = s.pending := by
  unfold updateStages
  try dsimp only
  simp_all

/-- `updateCeiling` leaves all but attn, cool, lamp as it was. -/
@[simp] theorem updateCeiling_frame (s : State) :
    (updateCeiling s).power = s.power ∧ (updateCeiling s).loop = s.loop ∧ (updateCeiling s).out = s.out ∧
    (updateCeiling s).disp = s.disp ∧ (updateCeiling s).tray = s.tray ∧ (updateCeiling s).deck = s.deck ∧
    (updateCeiling s).dec = s.dec ∧ (updateCeiling s).remote = s.remote ∧ (updateCeiling s).stn = s.stn ∧
    (updateCeiling s).retained = s.retained ∧ (updateCeiling s).openValues = s.openValues ∧ (updateCeiling s).pending = s.pending := by
  unfold updateCeiling
  dsimp only
  (repeat' split) <;> simp_all

/-- `coolingTick` leaves all but attn, cool, lamp, tray as it was. -/
@[simp] theorem coolingTick_frame (e : Nat) (s : State) :
    (coolingTick e s).power = s.power ∧ (coolingTick e s).loop = s.loop ∧ (coolingTick e s).out = s.out ∧
    (coolingTick e s).disp = s.disp ∧ (coolingTick e s).deck = s.deck ∧ (coolingTick e s).dec = s.dec ∧
    (coolingTick e s).remote = s.remote ∧ (coolingTick e s).stn = s.stn ∧ (coolingTick e s).retained = s.retained ∧
    (coolingTick e s).openValues = s.openValues ∧ (coolingTick e s).pending = s.pending := by
  unfold coolingTick
  try dsimp only
  simp_all

/-- `handOver` leaves all but attn, cool, lamp, tray as it was. -/
@[simp] theorem handOver_frame (s : State) :
    (handOver s).power = s.power ∧ (handOver s).loop = s.loop ∧ (handOver s).out = s.out ∧
    (handOver s).disp = s.disp ∧ (handOver s).deck = s.deck ∧ (handOver s).dec = s.dec ∧
    (handOver s).remote = s.remote ∧ (handOver s).stn = s.stn ∧ (handOver s).retained = s.retained ∧
    (handOver s).openValues = s.openValues ∧ (handOver s).pending = s.pending := by
  unfold handOver
  split <;> simp

/-- `handOverThenFail` leaves all but attn, cool, lamp, tray as it was. -/
@[simp] theorem handOverThenFail_frame (current : Bool) (s : State) :
    (handOverThenFail current s).power = s.power ∧ (handOverThenFail current s).loop = s.loop ∧ (handOverThenFail current s).out = s.out ∧
    (handOverThenFail current s).disp = s.disp ∧ (handOverThenFail current s).deck = s.deck ∧ (handOverThenFail current s).dec = s.dec ∧
    (handOverThenFail current s).remote = s.remote ∧ (handOverThenFail current s).stn = s.stn ∧ (handOverThenFail current s).retained = s.retained ∧
    (handOverThenFail current s).openValues = s.openValues ∧ (handOverThenFail current s).pending = s.pending := by
  unfold handOverThenFail
  dsimp only
  split <;> simp

/-- `lampTickIn` leaves all but attn, cool, lamp, tray as it was. -/
@[simp] theorem lampTickIn_frame (first current : Bool) (s : State) :
    (lampTickIn first current s).power = s.power ∧ (lampTickIn first current s).loop = s.loop ∧ (lampTickIn first current s).out = s.out ∧
    (lampTickIn first current s).disp = s.disp ∧ (lampTickIn first current s).deck = s.deck ∧ (lampTickIn first current s).dec = s.dec ∧
    (lampTickIn first current s).remote = s.remote ∧ (lampTickIn first current s).stn = s.stn ∧ (lampTickIn first current s).retained = s.retained ∧
    (lampTickIn first current s).openValues = s.openValues ∧ (lampTickIn first current s).pending = s.pending := by
  unfold lampTickIn
  split <;> simp

/-- Where failure limit and hand-off do not fall together, the order of the two is without effect (R94). -/
theorem lampTickIn_of_apart (first current : Bool) (s : State) (h : failsAtHandOver current s = false) :
    lampTickIn first current s = handOver (lampTickOnly current s) := by simp [lampTickIn, h]

/-- A lamp tick is the tick in one of the two orders, with a free value taken only where the order matters (R94, log 41). -/
theorem lampTick_cases (current : Bool) (s : State) :
    (failsAtHandOver current s = false ∧ lampTick current s = handOver (lampTickOnly current s)) ∨
    (failsAtHandOver current s = true ∧
      ∃ first, lampTick current s = lampTickIn first current { s with openValues := s.openValues + 1 }) := by
  unfold lampTick
  cases h : failsAtHandOver current s
  · exact .inl ⟨rfl, by simpa using lampTickIn_of_apart false current s h⟩
  · exact .inr ⟨rfl, Config.handOverFirst s.openValues, by simp⟩

/-- No more than 18 failing ticks behind it, a lamp does not reach its limit in the next one (R96). -/
theorem failsAtHandOver_of_lt (current : Bool) (s : State) (h : s.lamp.failCount < 19) : failsAtHandOver current s = false := by
  have : (tickedLamp current s).failCount < 20 := by
    simp only [tickedLamp, Lamp.addEnergy, Lamp.countFailure]
    split
    · have : ∀ l : Lamp, ∀ p c sl, (l.computeDrive p c sl).failCount = l.failCount := by
        intro l p c sl; unfold Lamp.computeDrive; split <;> rfl
      rw [this]
      have : ∀ l : Lamp, ∀ b, (l.rampStep b).failCount = l.failCount := by intro l b; unfold Lamp.rampStep; split <;> rfl
      rw [this]
      omega
    · omega
  have h' : (tickedLamp current s).atLimit = false := decide_eq_false (by simp only [Config.failureLimit]; omega)
  simp [failsAtHandOver, h']

/-- `lampTick` leaves all but attn, cool, lamp, openValues, tray as it was. -/
@[simp] theorem lampTick_frame (current : Bool) (s : State) :
    (lampTick current s).power = s.power ∧ (lampTick current s).loop = s.loop ∧ (lampTick current s).out = s.out ∧
    (lampTick current s).disp = s.disp ∧ (lampTick current s).deck = s.deck ∧ (lampTick current s).dec = s.dec ∧
    (lampTick current s).remote = s.remote ∧ (lampTick current s).stn = s.stn ∧ (lampTick current s).retained = s.retained ∧
    (lampTick current s).pending = s.pending := by
  unfold lampTick
  split <;> simp

/-- `stallTest` leaves all but attn, cool, lamp, tray as it was. -/
@[simp] theorem stallTest_frame (n : Nat) (s : State) :
    (stallTest n s).power = s.power ∧ (stallTest n s).loop = s.loop ∧ (stallTest n s).out = s.out ∧
    (stallTest n s).disp = s.disp ∧ (stallTest n s).deck = s.deck ∧ (stallTest n s).dec = s.dec ∧
    (stallTest n s).remote = s.remote ∧ (stallTest n s).stn = s.stn ∧ (stallTest n s).retained = s.retained ∧
    (stallTest n s).openValues = s.openValues ∧ (stallTest n s).pending = s.pending := by
  unfold stallTest
  dsimp only
  (repeat' split) <;> simp_all

/-- `endTachGate` leaves all but attn, cool, lamp, tray as it was. -/
@[simp] theorem endTachGate_frame (s : State) :
    (endTachGate s).power = s.power ∧ (endTachGate s).loop = s.loop ∧ (endTachGate s).out = s.out ∧
    (endTachGate s).disp = s.disp ∧ (endTachGate s).deck = s.deck ∧ (endTachGate s).dec = s.dec ∧
    (endTachGate s).remote = s.remote ∧ (endTachGate s).stn = s.stn ∧ (endTachGate s).retained = s.retained ∧
    (endTachGate s).openValues = s.openValues ∧ (endTachGate s).pending = s.pending := by
  unfold endTachGate
  dsimp only
  (repeat' split) <;> simp_all

/-- `takeCutout` leaves all but attn, cool, lamp, tray as it was. -/
@[simp] theorem takeCutout_frame (b : Bool) (s : State) :
    (takeCutout b s).power = s.power ∧ (takeCutout b s).loop = s.loop ∧ (takeCutout b s).out = s.out ∧
    (takeCutout b s).disp = s.disp ∧ (takeCutout b s).deck = s.deck ∧ (takeCutout b s).dec = s.dec ∧
    (takeCutout b s).remote = s.remote ∧ (takeCutout b s).stn = s.stn ∧ (takeCutout b s).retained = s.retained ∧
    (takeCutout b s).openValues = s.openValues ∧ (takeCutout b s).pending = s.pending := by
  unfold takeCutout
  dsimp only
  (repeat' split) <;> simp_all

end Sys2Proof.Machine
end

