-- ==== Sys2Proof/Laws/FramesDeck.lean ====
section
/-! SUPPORT. What the Tape Deck Controller's operations leave as it was. -/

namespace Sys2Proof.Machine

open Sys2Proof (Byte Key Frame TrayCode Straps Readings KeySamples)

/-- `enterDeck` leaves all but dec, deck as it was. -/
@[simp] theorem enterDeck_frame (d : DeckState) (s : State) :
    (enterDeck d s).power = s.power ∧ (enterDeck d s).loop = s.loop ∧ (enterDeck d s).out = s.out ∧
    (enterDeck d s).disp = s.disp ∧ (enterDeck d s).tray = s.tray ∧ (enterDeck d s).lamp = s.lamp ∧
    (enterDeck d s).cool = s.cool ∧ (enterDeck d s).remote = s.remote ∧ (enterDeck d s).stn = s.stn ∧
    (enterDeck d s).retained = s.retained ∧ (enterDeck d s).attn = s.attn ∧ (enterDeck d s).openValues = s.openValues ∧
    (enterDeck d s).pending = s.pending := by
  unfold enterDeck
  try dsimp only
  simp_all

/-- `brakeTo` leaves all but dec, deck as it was. -/
@[simp] theorem brakeTo_frame (m : Pending) (s : State) :
    (brakeTo m s).power = s.power ∧ (brakeTo m s).loop = s.loop ∧ (brakeTo m s).out = s.out ∧
    (brakeTo m s).disp = s.disp ∧ (brakeTo m s).tray = s.tray ∧ (brakeTo m s).lamp = s.lamp ∧
    (brakeTo m s).cool = s.cool ∧ (brakeTo m s).remote = s.remote ∧ (brakeTo m s).stn = s.stn ∧
    (brakeTo m s).retained = s.retained ∧ (brakeTo m s).attn = s.attn ∧ (brakeTo m s).openValues = s.openValues ∧
    (brakeTo m s).pending = s.pending := by
  unfold brakeTo
  try dsimp only
  (repeat' split) <;> simp_all

/-- `tapeStop` leaves all but dec, deck as it was. -/
@[simp] theorem tapeStop_frame (s : State) :
    (tapeStop s).power = s.power ∧ (tapeStop s).loop = s.loop ∧ (tapeStop s).out = s.out ∧
    (tapeStop s).disp = s.disp ∧ (tapeStop s).tray = s.tray ∧ (tapeStop s).lamp = s.lamp ∧
    (tapeStop s).cool = s.cool ∧ (tapeStop s).remote = s.remote ∧ (tapeStop s).stn = s.stn ∧
    (tapeStop s).retained = s.retained ∧ (tapeStop s).attn = s.attn ∧ (tapeStop s).openValues = s.openValues ∧
    (tapeStop s).pending = s.pending := by
  unfold tapeStop
  try dsimp only
  (repeat' split) <;> simp_all

/-- `tapePlay` leaves all but attn, dec, deck as it was. -/
@[simp] theorem tapePlay_frame (s : State) :
    (tapePlay s).power = s.power ∧ (tapePlay s).loop = s.loop ∧ (tapePlay s).out = s.out ∧
    (tapePlay s).disp = s.disp ∧ (tapePlay s).tray = s.tray ∧ (tapePlay s).lamp = s.lamp ∧
    (tapePlay s).cool = s.cool ∧ (tapePlay s).remote = s.remote ∧ (tapePlay s).stn = s.stn ∧
    (tapePlay s).retained = s.retained ∧ (tapePlay s).openValues = s.openValues ∧ (tapePlay s).pending = s.pending := by
  unfold tapePlay
  try dsimp only
  (repeat' split) <;> simp_all

/-- `tapeRewind` leaves all but attn, dec, deck as it was. -/
@[simp] theorem tapeRewind_frame (s : State) :
    (tapeRewind s).power = s.power ∧ (tapeRewind s).loop = s.loop ∧ (tapeRewind s).out = s.out ∧
    (tapeRewind s).disp = s.disp ∧ (tapeRewind s).tray = s.tray ∧ (tapeRewind s).lamp = s.lamp ∧
    (tapeRewind s).cool = s.cool ∧ (tapeRewind s).remote = s.remote ∧ (tapeRewind s).stn = s.stn ∧
    (tapeRewind s).retained = s.retained ∧ (tapeRewind s).openValues = s.openValues ∧ (tapeRewind s).pending = s.pending := by
  unfold tapeRewind
  try dsimp only
  (repeat' split) <;> simp_all

/-- `tapeWindFwd` leaves all but attn, dec, deck as it was. -/
@[simp] theorem tapeWindFwd_frame (s : State) :
    (tapeWindFwd s).power = s.power ∧ (tapeWindFwd s).loop = s.loop ∧ (tapeWindFwd s).out = s.out ∧
    (tapeWindFwd s).disp = s.disp ∧ (tapeWindFwd s).tray = s.tray ∧ (tapeWindFwd s).lamp = s.lamp ∧
    (tapeWindFwd s).cool = s.cool ∧ (tapeWindFwd s).remote = s.remote ∧ (tapeWindFwd s).stn = s.stn ∧
    (tapeWindFwd s).retained = s.retained ∧ (tapeWindFwd s).openValues = s.openValues ∧ (tapeWindFwd s).pending = s.pending := by
  unfold tapeWindFwd
  try dsimp only
  (repeat' split) <;> simp_all

/-- `tapePause` leaves all but dec, deck as it was. -/
@[simp] theorem tapePause_frame (s : State) :
    (tapePause s).power = s.power ∧ (tapePause s).loop = s.loop ∧ (tapePause s).out = s.out ∧
    (tapePause s).disp = s.disp ∧ (tapePause s).tray = s.tray ∧ (tapePause s).lamp = s.lamp ∧
    (tapePause s).cool = s.cool ∧ (tapePause s).remote = s.remote ∧ (tapePause s).stn = s.stn ∧
    (tapePause s).retained = s.retained ∧ (tapePause s).attn = s.attn ∧ (tapePause s).openValues = s.openValues ∧
    (tapePause s).pending = s.pending := by
  unfold tapePause
  try dsimp only
  (repeat' split) <;> simp_all

/-- `tapeRewToZero` leaves all but attn, dec, deck as it was. -/
@[simp] theorem tapeRewToZero_frame (s : State) :
    (tapeRewToZero s).power = s.power ∧ (tapeRewToZero s).loop = s.loop ∧ (tapeRewToZero s).out = s.out ∧
    (tapeRewToZero s).disp = s.disp ∧ (tapeRewToZero s).tray = s.tray ∧ (tapeRewToZero s).lamp = s.lamp ∧
    (tapeRewToZero s).cool = s.cool ∧ (tapeRewToZero s).remote = s.remote ∧ (tapeRewToZero s).stn = s.stn ∧
    (tapeRewToZero s).retained = s.retained ∧ (tapeRewToZero s).openValues = s.openValues ∧ (tapeRewToZero s).pending = s.pending := by
  unfold tapeRewToZero
  try dsimp only
  (repeat' split) <;> simp_all

/-- `setCounter` leaves all but dec, deck as it was. -/
@[simp] theorem setCounter_frame (n : Nat) (s : State) :
    (setCounter n s).power = s.power ∧ (setCounter n s).loop = s.loop ∧ (setCounter n s).out = s.out ∧
    (setCounter n s).disp = s.disp ∧ (setCounter n s).tray = s.tray ∧ (setCounter n s).lamp = s.lamp ∧
    (setCounter n s).cool = s.cool ∧ (setCounter n s).remote = s.remote ∧ (setCounter n s).stn = s.stn ∧
    (setCounter n s).retained = s.retained ∧ (setCounter n s).attn = s.attn ∧ (setCounter n s).openValues = s.openValues ∧
    (setCounter n s).pending = s.pending := by
  unfold setCounter
  dsimp only
  (repeat' split) <;> simp_all

/-- `tapeCommand` leaves all but attn, dec, deck as it was. -/
@[simp] theorem tapeCommand_frame (m : TapeMode) (s : State) :
    (tapeCommand m s).power = s.power ∧ (tapeCommand m s).loop = s.loop ∧ (tapeCommand m s).out = s.out ∧
    (tapeCommand m s).disp = s.disp ∧ (tapeCommand m s).tray = s.tray ∧ (tapeCommand m s).lamp = s.lamp ∧
    (tapeCommand m s).cool = s.cool ∧ (tapeCommand m s).remote = s.remote ∧ (tapeCommand m s).stn = s.stn ∧
    (tapeCommand m s).retained = s.retained ∧ (tapeCommand m s).openValues = s.openValues ∧ (tapeCommand m s).pending = s.pending := by
  unfold tapeCommand
  try dsimp only
  (repeat' split) <;> simp_all

/-- `deckHold` leaves all but dec, deck as it was. -/
@[simp] theorem deckHold_frame (s : State) :
    (deckHold s).power = s.power ∧ (deckHold s).loop = s.loop ∧ (deckHold s).out = s.out ∧
    (deckHold s).disp = s.disp ∧ (deckHold s).tray = s.tray ∧ (deckHold s).lamp = s.lamp ∧
    (deckHold s).cool = s.cool ∧ (deckHold s).remote = s.remote ∧ (deckHold s).stn = s.stn ∧
    (deckHold s).retained = s.retained ∧ (deckHold s).attn = s.attn ∧ (deckHold s).openValues = s.openValues ∧
    (deckHold s).pending = s.pending := by
  unfold deckHold
  try dsimp only
  (repeat' split) <;> simp_all

/-- `deckResume` leaves all but dec, deck as it was. -/
@[simp] theorem deckResume_frame (s : State) :
    (deckResume s).power = s.power ∧ (deckResume s).loop = s.loop ∧ (deckResume s).out = s.out ∧
    (deckResume s).disp = s.disp ∧ (deckResume s).tray = s.tray ∧ (deckResume s).lamp = s.lamp ∧
    (deckResume s).cool = s.cool ∧ (deckResume s).remote = s.remote ∧ (deckResume s).stn = s.stn ∧
    (deckResume s).retained = s.retained ∧ (deckResume s).attn = s.attn ∧ (deckResume s).openValues = s.openValues ∧
    (deckResume s).pending = s.pending := by
  unfold deckResume
  try dsimp only
  (repeat' split) <;> simp_all

/-- `expireBrake` leaves all but dec, deck as it was. -/
@[simp] theorem expireBrake_frame (s : State) :
    (expireBrake s).power = s.power ∧ (expireBrake s).loop = s.loop ∧ (expireBrake s).out = s.out ∧
    (expireBrake s).disp = s.disp ∧ (expireBrake s).tray = s.tray ∧ (expireBrake s).lamp = s.lamp ∧
    (expireBrake s).cool = s.cool ∧ (expireBrake s).remote = s.remote ∧ (expireBrake s).stn = s.stn ∧
    (expireBrake s).retained = s.retained ∧ (expireBrake s).attn = s.attn ∧ (expireBrake s).openValues = s.openValues ∧
    (expireBrake s).pending = s.pending := by
  unfold expireBrake
  try dsimp only
  (repeat' split) <;> simp_all

/-- `reelPulse` leaves all but dec, deck as it was. -/
@[simp] theorem reelPulse_frame (s : State) :
    (reelPulse s).power = s.power ∧ (reelPulse s).loop = s.loop ∧ (reelPulse s).out = s.out ∧
    (reelPulse s).disp = s.disp ∧ (reelPulse s).tray = s.tray ∧ (reelPulse s).lamp = s.lamp ∧
    (reelPulse s).cool = s.cool ∧ (reelPulse s).remote = s.remote ∧ (reelPulse s).stn = s.stn ∧
    (reelPulse s).retained = s.retained ∧ (reelPulse s).attn = s.attn ∧ (reelPulse s).openValues = s.openValues ∧
    (reelPulse s).pending = s.pending := by
  unfold reelPulse
  try dsimp only
  (repeat' split) <;> simp_all

/-- `expireReel` leaves all but attn, dec, deck as it was. -/
@[simp] theorem expireReel_frame (s : State) :
    (expireReel s).power = s.power ∧ (expireReel s).loop = s.loop ∧ (expireReel s).out = s.out ∧
    (expireReel s).disp = s.disp ∧ (expireReel s).tray = s.tray ∧ (expireReel s).lamp = s.lamp ∧
    (expireReel s).cool = s.cool ∧ (expireReel s).remote = s.remote ∧ (expireReel s).stn = s.stn ∧
    (expireReel s).retained = s.retained ∧ (expireReel s).openValues = s.openValues ∧ (expireReel s).pending = s.pending := by
  unfold expireReel
  try dsimp only
  (repeat' split) <;> simp_all

/-- `openDecoderGate` leaves all but dec, deck as it was. -/
@[simp] theorem openDecoderGate_frame (s : State) :
    (openDecoderGate s).power = s.power ∧ (openDecoderGate s).loop = s.loop ∧ (openDecoderGate s).out = s.out ∧
    (openDecoderGate s).disp = s.disp ∧ (openDecoderGate s).tray = s.tray ∧ (openDecoderGate s).lamp = s.lamp ∧
    (openDecoderGate s).cool = s.cool ∧ (openDecoderGate s).remote = s.remote ∧ (openDecoderGate s).stn = s.stn ∧
    (openDecoderGate s).retained = s.retained ∧ (openDecoderGate s).attn = s.attn ∧ (openDecoderGate s).openValues = s.openValues ∧
    (openDecoderGate s).pending = s.pending := by
  unfold openDecoderGate
  try dsimp only
  (repeat' split) <;> simp_all

/-- `takeCassette` leaves all but dec, deck as it was. -/
@[simp] theorem takeCassette_frame (b : Bool) (s : State) :
    (takeCassette b s).power = s.power ∧ (takeCassette b s).loop = s.loop ∧ (takeCassette b s).out = s.out ∧
    (takeCassette b s).disp = s.disp ∧ (takeCassette b s).tray = s.tray ∧ (takeCassette b s).lamp = s.lamp ∧
    (takeCassette b s).cool = s.cool ∧ (takeCassette b s).remote = s.remote ∧ (takeCassette b s).stn = s.stn ∧
    (takeCassette b s).retained = s.retained ∧ (takeCassette b s).attn = s.attn ∧ (takeCassette b s).openValues = s.openValues ∧
    (takeCassette b s).pending = s.pending := by
  unfold takeCassette
  dsimp only
  (repeat' split) <;> simp_all

/-- `soundTick` leaves all but deck as it was. -/
@[simp] theorem soundTick_frame (s : State) :
    (soundTick s).power = s.power ∧ (soundTick s).loop = s.loop ∧ (soundTick s).out = s.out ∧
    (soundTick s).disp = s.disp ∧ (soundTick s).tray = s.tray ∧ (soundTick s).lamp = s.lamp ∧
    (soundTick s).cool = s.cool ∧ (soundTick s).dec = s.dec ∧ (soundTick s).remote = s.remote ∧
    (soundTick s).stn = s.stn ∧ (soundTick s).retained = s.retained ∧ (soundTick s).attn = s.attn ∧
    (soundTick s).openValues = s.openValues ∧ (soundTick s).pending = s.pending := by
  unfold soundTick
  try dsimp only
  (repeat' split) <;> simp_all

/-- `deckMainsLoss` leaves all but dec, deck as it was. -/
@[simp] theorem deckMainsLoss_frame (s : State) :
    (deckMainsLoss s).power = s.power ∧ (deckMainsLoss s).loop = s.loop ∧ (deckMainsLoss s).out = s.out ∧
    (deckMainsLoss s).disp = s.disp ∧ (deckMainsLoss s).tray = s.tray ∧ (deckMainsLoss s).lamp = s.lamp ∧
    (deckMainsLoss s).cool = s.cool ∧ (deckMainsLoss s).remote = s.remote ∧ (deckMainsLoss s).stn = s.stn ∧
    (deckMainsLoss s).retained = s.retained ∧ (deckMainsLoss s).attn = s.attn ∧ (deckMainsLoss s).openValues = s.openValues ∧
    (deckMainsLoss s).pending = s.pending := by
  unfold deckMainsLoss
  try dsimp only
  (repeat' split) <;> simp_all

end Sys2Proof.Machine
end

