-- ==== Sys2Proof/Laws/FramesShow.lean ====
section
/-! SUPPORT. What the Cue Dispatcher's operations leave as it was. -/

namespace Sys2Proof.Machine

open Sys2Proof (Byte Key Frame TrayCode Straps Readings KeySamples)

/-- `schedule` leaves all but attn, disp as it was. -/
@[simp] theorem schedule_frame (r : Record) (s : State) :
    (schedule r s).power = s.power ∧ (schedule r s).loop = s.loop ∧ (schedule r s).out = s.out ∧
    (schedule r s).tray = s.tray ∧ (schedule r s).lamp = s.lamp ∧ (schedule r s).cool = s.cool ∧
    (schedule r s).deck = s.deck ∧ (schedule r s).dec = s.dec ∧ (schedule r s).remote = s.remote ∧
    (schedule r s).stn = s.stn ∧ (schedule r s).retained = s.retained ∧ (schedule r s).openValues = s.openValues ∧
    (schedule r s).pending = s.pending := by
  unfold schedule
  try dsimp only
  (repeat' split) <;> simp_all

/-- `routeStep` leaves all but attn, cool, dec, deck, lamp, tray as it was. -/
@[simp] theorem routeStep_frame (st : Step) (o : Origin) (s : State) :
    (routeStep st o s).power = s.power ∧ (routeStep st o s).loop = s.loop ∧ (routeStep st o s).out = s.out ∧
    (routeStep st o s).disp = s.disp ∧ (routeStep st o s).remote = s.remote ∧ (routeStep st o s).stn = s.stn ∧
    (routeStep st o s).retained = s.retained ∧ (routeStep st o s).openValues = s.openValues ∧ (routeStep st o s).pending = s.pending := by
  unfold routeStep
  try dsimp only
  (repeat' split) <;> simp_all

/-- `holdEvent` leaves all but dec, deck, stn as it was. -/
@[simp] theorem holdEvent_frame (s : State) :
    (holdEvent s).power = s.power ∧ (holdEvent s).loop = s.loop ∧ (holdEvent s).out = s.out ∧
    (holdEvent s).disp = s.disp ∧ (holdEvent s).tray = s.tray ∧ (holdEvent s).lamp = s.lamp ∧
    (holdEvent s).cool = s.cool ∧ (holdEvent s).remote = s.remote ∧ (holdEvent s).retained = s.retained ∧
    (holdEvent s).attn = s.attn ∧ (holdEvent s).openValues = s.openValues ∧ (holdEvent s).pending = s.pending := by
  unfold holdEvent
  try dsimp only
  (repeat' split) <;> simp_all

/-- `resumeShow` leaves all but dec, deck, stn as it was. -/
@[simp] theorem resumeShow_frame (s : State) :
    (resumeShow s).power = s.power ∧ (resumeShow s).loop = s.loop ∧ (resumeShow s).out = s.out ∧
    (resumeShow s).disp = s.disp ∧ (resumeShow s).tray = s.tray ∧ (resumeShow s).lamp = s.lamp ∧
    (resumeShow s).cool = s.cool ∧ (resumeShow s).remote = s.remote ∧ (resumeShow s).retained = s.retained ∧
    (resumeShow s).attn = s.attn ∧ (resumeShow s).openValues = s.openValues ∧ (resumeShow s).pending = s.pending := by
  unfold resumeShow
  try dsimp only
  simp_all

/-- `expandStep` leaves all but attn, cool, dec, deck, disp, lamp, tray as it was. -/
@[simp] theorem expandStep_frame (cue : Nat) (s : State) (p : PoolStep) :
    (expandStep cue s p).power = s.power ∧ (expandStep cue s p).loop = s.loop ∧ (expandStep cue s p).out = s.out ∧
    (expandStep cue s p).remote = s.remote ∧ (expandStep cue s p).stn = s.stn ∧ (expandStep cue s p).retained = s.retained ∧
    (expandStep cue s p).openValues = s.openValues ∧ (expandStep cue s p).pending = s.pending := by
  unfold expandStep
  (repeat' split) <;> simp_all

/-- A run of expansions leaves all but the Dispatcher and the owners of steps as it was. -/
@[simp] theorem expandAll_frame (cue : Nat) (ps : List PoolStep) (s : State) :
    (ps.foldl (expandStep cue) s).power = s.power ∧
    (ps.foldl (expandStep cue) s).loop = s.loop ∧
    (ps.foldl (expandStep cue) s).out = s.out ∧
    (ps.foldl (expandStep cue) s).remote = s.remote ∧
    (ps.foldl (expandStep cue) s).stn = s.stn ∧
    (ps.foldl (expandStep cue) s).retained = s.retained ∧
    (ps.foldl (expandStep cue) s).openValues = s.openValues ∧
    (ps.foldl (expandStep cue) s).pending = s.pending := by
  induction ps generalizing s with
  | nil => simp
  | cons p ps ih => simp [ih]


/-- `loadedCue` leaves all but attn, cool, dec, deck, disp, lamp, tray as it was. -/
@[simp] theorem loadedCue_frame (cue : Nat) (src : CueSource) (s : State) :
    (loadedCue cue src s).power = s.power ∧ (loadedCue cue src s).loop = s.loop ∧ (loadedCue cue src s).out = s.out ∧
    (loadedCue cue src s).remote = s.remote ∧ (loadedCue cue src s).stn = s.stn ∧ (loadedCue cue src s).retained = s.retained ∧
    (loadedCue cue src s).openValues = s.openValues ∧ (loadedCue cue src s).pending = s.pending := by
  unfold loadedCue
  dsimp only
  (repeat' split) <;> simp_all

/-- `commitCue` leaves all but attn, disp as it was. -/
@[simp] theorem commitCue_frame (src : CueSource) (s : State) :
    (commitCue src s).power = s.power ∧ (commitCue src s).loop = s.loop ∧ (commitCue src s).out = s.out ∧
    (commitCue src s).tray = s.tray ∧ (commitCue src s).lamp = s.lamp ∧ (commitCue src s).cool = s.cool ∧
    (commitCue src s).deck = s.deck ∧ (commitCue src s).dec = s.dec ∧ (commitCue src s).remote = s.remote ∧
    (commitCue src s).stn = s.stn ∧ (commitCue src s).retained = s.retained ∧ (commitCue src s).openValues = s.openValues ∧
    (commitCue src s).pending = s.pending := by
  unfold commitCue
  dsimp only
  (repeat' split) <;> simp_all

/-- `stepCue` leaves all but attn, cool, dec, deck, disp, lamp, tray as it was. -/
@[simp] theorem stepCue_frame (cue : Nat) (v : Verb) (src : CueSource) (s : State) :
    (stepCue cue v src s).power = s.power ∧ (stepCue cue v src s).loop = s.loop ∧ (stepCue cue v src s).out = s.out ∧
    (stepCue cue v src s).remote = s.remote ∧ (stepCue cue v src s).stn = s.stn ∧ (stepCue cue v src s).retained = s.retained ∧
    (stepCue cue v src s).openValues = s.openValues ∧ (stepCue cue v src s).pending = s.pending := by
  unfold stepCue
  dsimp only
  (repeat' split) <;> simp_all

/-- `endOfShow` leaves all but attn, cool, dec, deck, disp, lamp, tray as it was. -/
@[simp] theorem endOfShow_frame (s : State) :
    (endOfShow s).power = s.power ∧ (endOfShow s).loop = s.loop ∧ (endOfShow s).out = s.out ∧
    (endOfShow s).remote = s.remote ∧ (endOfShow s).stn = s.stn ∧ (endOfShow s).retained = s.retained ∧
    (endOfShow s).openValues = s.openValues ∧ (endOfShow s).pending = s.pending := by
  unfold endOfShow
  try dsimp only
  simp_all

/-- A cue arrival leaves all but the show's blocks as it was, if what a RESUME does leaves them so. -/
theorem cueArrivalWith_frame (resume : State → State) (cue : Nat) (src : CueSource)
    (h : ∀ s, (resume s).power = s.power ∧ (resume s).loop = s.loop ∧ (resume s).out = s.out ∧ (resume s).remote = s.remote ∧ (resume s).retained = s.retained ∧ (resume s).openValues = s.openValues ∧ (resume s).pending = s.pending) (s : State) :
    (cueArrivalWith resume cue src s).power = s.power ∧
    (cueArrivalWith resume cue src s).loop = s.loop ∧
    (cueArrivalWith resume cue src s).out = s.out ∧
    (cueArrivalWith resume cue src s).remote = s.remote ∧
    (cueArrivalWith resume cue src s).retained = s.retained ∧
    (cueArrivalWith resume cue src s).openValues = s.openValues ∧
    (cueArrivalWith resume cue src s).pending = s.pending := by
  unfold cueArrivalWith
  (repeat' split) <;> simp_all


/-- `followArrival` leaves all but attn, cool, dec, deck, disp, lamp, stn, tray as it was. -/
@[simp] theorem followArrival_frame (cue : Nat) (s : State) :
    (followArrival cue s).power = s.power ∧ (followArrival cue s).loop = s.loop ∧ (followArrival cue s).out = s.out ∧
    (followArrival cue s).remote = s.remote ∧ (followArrival cue s).retained = s.retained ∧ (followArrival cue s).openValues = s.openValues ∧
    (followArrival cue s).pending = s.pending := by
  unfold followArrival
  exact cueArrivalWith_frame id cue .follow (by simp) s

/-- `routeRecord` leaves all but attn, cool, dec, deck, disp, lamp, stn, tray as it was. -/
@[simp] theorem routeRecord_frame (r : Record) (s : State) :
    (routeRecord r s).power = s.power ∧ (routeRecord r s).loop = s.loop ∧ (routeRecord r s).out = s.out ∧
    (routeRecord r s).remote = s.remote ∧ (routeRecord r s).retained = s.retained ∧ (routeRecord r s).openValues = s.openValues ∧
    (routeRecord r s).pending = s.pending := by
  unfold routeRecord
  try dsimp only
  (repeat' split) <;> simp_all

/-- `routeDueUpTo` leaves all but attn, cool, dec, deck, disp, lamp, stn, tray as it was. -/
@[simp] theorem routeDueUpTo_frame (n : Nat) (s : State) :
    (routeDueUpTo n s).power = s.power ∧ (routeDueUpTo n s).loop = s.loop ∧ (routeDueUpTo n s).out = s.out ∧
    (routeDueUpTo n s).remote = s.remote ∧ (routeDueUpTo n s).retained = s.retained ∧ (routeDueUpTo n s).openValues = s.openValues ∧
    (routeDueUpTo n s).pending = s.pending := by
  induction n generalizing s with
  | zero => simp [routeDueUpTo]
  | succ n ih =>
    unfold routeDueUpTo
    (repeat' split) <;> simp_all

/-- `routeDue` leaves all but attn, cool, dec, deck, disp, lamp, stn, tray as it was. -/
@[simp] theorem routeDue_frame (s : State) :
    (routeDue s).power = s.power ∧ (routeDue s).loop = s.loop ∧ (routeDue s).out = s.out ∧
    (routeDue s).remote = s.remote ∧ (routeDue s).retained = s.retained ∧ (routeDue s).openValues = s.openValues ∧
    (routeDue s).pending = s.pending := by
  unfold routeDue
  try dsimp only
  simp_all

/-- `resumeEvent` leaves all but attn, cool, dec, deck, disp, lamp, stn, tray as it was. -/
@[simp] theorem resumeEvent_frame (s : State) :
    (resumeEvent s).power = s.power ∧ (resumeEvent s).loop = s.loop ∧ (resumeEvent s).out = s.out ∧
    (resumeEvent s).remote = s.remote ∧ (resumeEvent s).retained = s.retained ∧ (resumeEvent s).openValues = s.openValues ∧
    (resumeEvent s).pending = s.pending := by
  unfold resumeEvent
  try dsimp only
  (repeat' split) <;> simp_all

/-- `cueArrival` leaves all but attn, cool, dec, deck, disp, lamp, stn, tray as it was. -/
@[simp] theorem cueArrival_frame (cue : Nat) (src : CueSource) (s : State) :
    (cueArrival cue src s).power = s.power ∧ (cueArrival cue src s).loop = s.loop ∧ (cueArrival cue src s).out = s.out ∧
    (cueArrival cue src s).remote = s.remote ∧ (cueArrival cue src s).retained = s.retained ∧ (cueArrival cue src s).openValues = s.openValues ∧
    (cueArrival cue src s).pending = s.pending := by
  unfold cueArrival
  exact cueArrivalWith_frame resumeEvent cue src (by simp) s

/-- `holdToggle` leaves all but attn, cool, dec, deck, disp, lamp, stn, tray as it was. -/
@[simp] theorem holdToggle_frame (s : State) :
    (holdToggle s).power = s.power ∧ (holdToggle s).loop = s.loop ∧ (holdToggle s).out = s.out ∧
    (holdToggle s).remote = s.remote ∧ (holdToggle s).retained = s.retained ∧ (holdToggle s).openValues = s.openValues ∧
    (holdToggle s).pending = s.pending := by
  unfold holdToggle
  try dsimp only
  (repeat' split) <;> simp_all

/-- `showTick` leaves all but attn, cool, dec, deck, disp, lamp, stn, tray as it was. -/
@[simp] theorem showTick_frame (s : State) :
    (showTick s).power = s.power ∧ (showTick s).loop = s.loop ∧ (showTick s).out = s.out ∧
    (showTick s).remote = s.remote ∧ (showTick s).retained = s.retained ∧ (showTick s).openValues = s.openValues ∧
    (showTick s).pending = s.pending := by
  unfold showTick
  try dsimp only
  (repeat' split) <;> simp_all

/-- `directStep` leaves all but attn, cool, dec, deck, disp, lamp, stn, tray as it was. -/
@[simp] theorem directStep_frame (v a b : Byte) (s : State) :
    (directStep v a b s).power = s.power ∧ (directStep v a b s).loop = s.loop ∧ (directStep v a b s).out = s.out ∧
    (directStep v a b s).remote = s.remote ∧ (directStep v a b s).retained = s.retained ∧ (directStep v a b s).openValues = s.openValues ∧
    (directStep v a b s).pending = s.pending := by
  unfold directStep
  try dsimp only
  (repeat' split) <;> simp_all

/-- `writeLoad` leaves all but disp, lamp as it was. -/
@[simp] theorem writeLoad_frame (e : LoadEntries) (s : State) :
    (writeLoad e s).power = s.power ∧ (writeLoad e s).loop = s.loop ∧ (writeLoad e s).out = s.out ∧
    (writeLoad e s).tray = s.tray ∧ (writeLoad e s).cool = s.cool ∧ (writeLoad e s).deck = s.deck ∧
    (writeLoad e s).dec = s.dec ∧ (writeLoad e s).remote = s.remote ∧ (writeLoad e s).stn = s.stn ∧
    (writeLoad e s).retained = s.retained ∧ (writeLoad e s).attn = s.attn ∧ (writeLoad e s).openValues = s.openValues ∧
    (writeLoad e s).pending = s.pending := by
  unfold writeLoad
  dsimp only
  (repeat' split) <;> simp_all

/-- `judgeLoad` leaves all but disp, lamp as it was. -/
@[simp] theorem judgeLoad_frame (pl : List Byte) (s : State) :
    (judgeLoad pl s).1.power = s.power ∧ (judgeLoad pl s).1.loop = s.loop ∧ (judgeLoad pl s).1.out = s.out ∧
    (judgeLoad pl s).1.tray = s.tray ∧ (judgeLoad pl s).1.cool = s.cool ∧ (judgeLoad pl s).1.deck = s.deck ∧
    (judgeLoad pl s).1.dec = s.dec ∧ (judgeLoad pl s).1.remote = s.remote ∧ (judgeLoad pl s).1.stn = s.stn ∧
    (judgeLoad pl s).1.retained = s.retained ∧ (judgeLoad pl s).1.attn = s.attn ∧ (judgeLoad pl s).1.openValues = s.openValues ∧
    (judgeLoad pl s).1.pending = s.pending := by
  unfold judgeLoad
  (repeat' split) <;> simp_all

end Sys2Proof.Machine
end

