-- ==== Sys2Proof/Laws/FramesStation.lean ====
section
/-! SUPPORT. What the Station Controller's operations leave as it was. -/

namespace Sys2Proof.Machine

open Sys2Proof (Byte Key Frame TrayCode Straps Readings KeySamples)

/-- `noticeConfig` leaves all but stn as it was. -/
@[simp] theorem noticeConfig_frame (s : State) :
    (noticeConfig s).power = s.power ∧ (noticeConfig s).loop = s.loop ∧ (noticeConfig s).out = s.out ∧
    (noticeConfig s).disp = s.disp ∧ (noticeConfig s).tray = s.tray ∧ (noticeConfig s).lamp = s.lamp ∧
    (noticeConfig s).cool = s.cool ∧ (noticeConfig s).deck = s.deck ∧ (noticeConfig s).dec = s.dec ∧
    (noticeConfig s).remote = s.remote ∧ (noticeConfig s).retained = s.retained ∧ (noticeConfig s).attn = s.attn ∧
    (noticeConfig s).openValues = s.openValues ∧ (noticeConfig s).pending = s.pending := by
  unfold noticeConfig
  try dsimp only
  (repeat' split) <;> simp_all

/-- `enterActive` leaves all but loop, stn as it was. -/
@[simp] theorem enterActive_frame (s : State) :
    (enterActive s).power = s.power ∧ (enterActive s).out = s.out ∧ (enterActive s).disp = s.disp ∧
    (enterActive s).tray = s.tray ∧ (enterActive s).lamp = s.lamp ∧ (enterActive s).cool = s.cool ∧
    (enterActive s).deck = s.deck ∧ (enterActive s).dec = s.dec ∧ (enterActive s).remote = s.remote ∧
    (enterActive s).retained = s.retained ∧ (enterActive s).attn = s.attn ∧ (enterActive s).openValues = s.openValues ∧
    (enterActive s).pending = s.pending := by
  unfold enterActive
  try dsimp only
  simp_all

/-- `closeConfiguration` leaves all but disp, loop, stn as it was. -/
@[simp] theorem closeConfiguration_frame (s : State) :
    (closeConfiguration s).power = s.power ∧ (closeConfiguration s).out = s.out ∧ (closeConfiguration s).tray = s.tray ∧
    (closeConfiguration s).lamp = s.lamp ∧ (closeConfiguration s).cool = s.cool ∧ (closeConfiguration s).deck = s.deck ∧
    (closeConfiguration s).dec = s.dec ∧ (closeConfiguration s).remote = s.remote ∧ (closeConfiguration s).retained = s.retained ∧
    (closeConfiguration s).attn = s.attn ∧ (closeConfiguration s).openValues = s.openValues ∧ (closeConfiguration s).pending = s.pending := by
  unfold closeConfiguration
  try dsimp only
  simp_all

/-- `standbyTest` leaves all but cool, stn as it was. -/
@[simp] theorem standbyTest_frame (s : State) :
    (standbyTest s).power = s.power ∧ (standbyTest s).loop = s.loop ∧ (standbyTest s).out = s.out ∧
    (standbyTest s).disp = s.disp ∧ (standbyTest s).tray = s.tray ∧ (standbyTest s).lamp = s.lamp ∧
    (standbyTest s).deck = s.deck ∧ (standbyTest s).dec = s.dec ∧ (standbyTest s).remote = s.remote ∧
    (standbyTest s).retained = s.retained ∧ (standbyTest s).attn = s.attn ∧ (standbyTest s).openValues = s.openValues ∧
    (standbyTest s).pending = s.pending := by
  unfold standbyTest
  try dsimp only
  (repeat' split) <;> simp_all

/-- `tellLampAndTray` leaves all but attn, cool, lamp, openValues, tray as it was. -/
@[simp] theorem tellLampAndTray_frame (l : Lamp → Lamp) (t : Transport → Transport) (s : State) :
    (tellLampAndTray l t s).power = s.power ∧ (tellLampAndTray l t s).loop = s.loop ∧ (tellLampAndTray l t s).out = s.out ∧
    (tellLampAndTray l t s).disp = s.disp ∧ (tellLampAndTray l t s).deck = s.deck ∧ (tellLampAndTray l t s).dec = s.dec ∧
    (tellLampAndTray l t s).remote = s.remote ∧ (tellLampAndTray l t s).stn = s.stn ∧ (tellLampAndTray l t s).retained = s.retained ∧
    (tellLampAndTray l t s).pending = s.pending := by
  unfold tellLampAndTray
  dsimp only
  split <;> simp_all

/-- Before the entry into COOLING_DOWN only the fan stage, the gate's mark and the spin-up timer can have changed (R107, R163). -/
theorem fanBeforeCoolingDown_cases (s : State) :
    fanBeforeCoolingDown s = s.cool ∨
    (s.lamp.burning = true ∧ fanBeforeCoolingDown s = s.cool.setStage (fanWanted { s with lamp := s.lamp.coolDown })) := by
  unfold fanBeforeCoolingDown
  split
  · exact .inr ⟨‹_ ∧ _›.1, rfl⟩
  · exact .inl rfl

@[simp] theorem fanBeforeCoolingDown_frame (s : State) :
    (fanBeforeCoolingDown s).heat = s.cool.heat ∧ (fanBeforeCoolingDown s).heatStage = s.cool.heatStage ∧
    (fanBeforeCoolingDown s).cool = s.cool.cool ∧ (fanBeforeCoolingDown s).ceiling = s.cool.ceiling ∧
    (fanBeforeCoolingDown s).tripped = s.cool.tripped := by
  rcases fanBeforeCoolingDown_cases s with h | ⟨-, h⟩ <;> simp [h]

/-- `enterCoolingDown` leaves all but attn, cool, dec, deck, disp, lamp, loop, openValues, stn, tray as it was. -/
@[simp] theorem enterCoolingDown_frame (s : State) :
    (enterCoolingDown s).power = s.power ∧ (enterCoolingDown s).out = s.out ∧ (enterCoolingDown s).remote = s.remote ∧
    (enterCoolingDown s).retained = s.retained ∧ (enterCoolingDown s).pending = s.pending := by
  unfold enterCoolingDown
  try dsimp only
  simp_all

/-- `takeStandby` leaves all but attn, cool, dec, deck, disp, lamp, loop, openValues, stn, tray as it was. -/
@[simp] theorem takeStandby_frame (s : State) :
    (takeStandby s).power = s.power ∧ (takeStandby s).out = s.out ∧ (takeStandby s).remote = s.remote ∧
    (takeStandby s).retained = s.retained ∧ (takeStandby s).pending = s.pending := by
  unfold takeStandby
  try dsimp only
  (repeat' split) <;> simp_all

/-- `takeWake` leaves all but cool, loop, stn as it was. -/
@[simp] theorem takeWake_frame (s : State) :
    (takeWake s).power = s.power ∧ (takeWake s).out = s.out ∧ (takeWake s).disp = s.disp ∧
    (takeWake s).tray = s.tray ∧ (takeWake s).lamp = s.lamp ∧ (takeWake s).deck = s.deck ∧
    (takeWake s).dec = s.dec ∧ (takeWake s).remote = s.remote ∧ (takeWake s).retained = s.retained ∧
    (takeWake s).attn = s.attn ∧ (takeWake s).openValues = s.openValues ∧ (takeWake s).pending = s.pending := by
  unfold takeWake
  try dsimp only
  (repeat' split) <;> simp_all

/-- `writeItems` leaves all but dec, stn as it was. -/
@[simp] theorem writeItems_frame (x : Items) (s : State) :
    (writeItems x s).power = s.power ∧ (writeItems x s).loop = s.loop ∧ (writeItems x s).out = s.out ∧
    (writeItems x s).disp = s.disp ∧ (writeItems x s).tray = s.tray ∧ (writeItems x s).lamp = s.lamp ∧
    (writeItems x s).cool = s.cool ∧ (writeItems x s).deck = s.deck ∧ (writeItems x s).remote = s.remote ∧
    (writeItems x s).retained = s.retained ∧ (writeItems x s).attn = s.attn ∧ (writeItems x s).openValues = s.openValues ∧
    (writeItems x s).pending = s.pending := by
  unfold writeItems
  try dsimp only
  simp_all

/-- `configSetItem` leaves all but dec, stn as it was. -/
@[simp] theorem configSetItem_frame (code v : Nat) (s : State) :
    (configSetItem code v s).1.power = s.power ∧ (configSetItem code v s).1.loop = s.loop ∧ (configSetItem code v s).1.out = s.out ∧
    (configSetItem code v s).1.disp = s.disp ∧ (configSetItem code v s).1.tray = s.tray ∧ (configSetItem code v s).1.lamp = s.lamp ∧
    (configSetItem code v s).1.cool = s.cool ∧ (configSetItem code v s).1.deck = s.deck ∧ (configSetItem code v s).1.remote = s.remote ∧
    (configSetItem code v s).1.retained = s.retained ∧ (configSetItem code v s).1.attn = s.attn ∧ (configSetItem code v s).1.openValues = s.openValues ∧
    (configSetItem code v s).1.pending = s.pending := by
  unfold configSetItem
  (repeat' split) <;> simp_all

/-- `runCommand` leaves all but attn, cool, dec, deck, disp, lamp, loop, openValues, stn, tray as it was. -/
@[simp] theorem runCommand_frame (c : Cmd) (args : List Byte) (s : State) :
    (runCommand c args s).1.power = s.power ∧ (runCommand c args s).1.out = s.out ∧ (runCommand c args s).1.remote = s.remote ∧
    (runCommand c args s).1.retained = s.retained ∧ (runCommand c args s).1.pending = s.pending := by
  rcases args with _ | ⟨a, _ | ⟨b, _ | ⟨d, _ | ⟨e, t⟩⟩⟩⟩ <;> cases c <;> dsimp only [runCommand] <;>
    first
    | exact ⟨rfl, rfl, rfl, rfl, rfl⟩
    | ((repeat' split) <;> simp)

/-- `judgeCommand` leaves all but attn, cool, dec, deck, disp, lamp, loop, openValues, stn, tray as it was. -/
@[simp] theorem judgeCommand_frame (pl : List Byte) (s : State) :
    (judgeCommand pl s).1.power = s.power ∧ (judgeCommand pl s).1.out = s.out ∧ (judgeCommand pl s).1.remote = s.remote ∧
    (judgeCommand pl s).1.retained = s.retained ∧ (judgeCommand pl s).1.pending = s.pending := by
  unfold judgeCommand
  dsimp only
  (repeat' split) <;> simp_all

/-- `endWrite` leaves all but retained, stn as it was. -/
@[simp] theorem endWrite_frame (s : State) :
    (endWrite s).power = s.power ∧ (endWrite s).loop = s.loop ∧ (endWrite s).out = s.out ∧
    (endWrite s).disp = s.disp ∧ (endWrite s).tray = s.tray ∧ (endWrite s).lamp = s.lamp ∧
    (endWrite s).cool = s.cool ∧ (endWrite s).deck = s.deck ∧ (endWrite s).dec = s.dec ∧
    (endWrite s).remote = s.remote ∧ (endWrite s).attn = s.attn ∧ (endWrite s).openValues = s.openValues ∧
    (endWrite s).pending = s.pending := by
  unfold endWrite
  try dsimp only
  (repeat' split) <;> simp_all

/-- `enterMainsLoss` leaves all but attn, cool, dec, deck, disp, lamp, loop, openValues, remote, retained, stn, tray as it was. -/
@[simp] theorem enterMainsLoss_frame (s : State) :
    (enterMainsLoss s).power = s.power ∧ (enterMainsLoss s).out = s.out ∧ (enterMainsLoss s).pending = s.pending := by
  unfold enterMainsLoss
  dsimp only
  (repeat' split) <;> simp_all

/-- `mainsWarnOn` leaves all but attn, cool, dec, deck, disp, lamp, loop, openValues, remote, retained, stn, tray as it was. -/
@[simp] theorem mainsWarnOn_frame (s : State) :
    (mainsWarnOn s).power = s.power ∧ (mainsWarnOn s).out = s.out ∧ (mainsWarnOn s).pending = s.pending := by
  unfold mainsWarnOn
  dsimp only
  (repeat' split) <;> simp_all

/-- `expireSilence` leaves all but attn, cool, dec, deck, disp, lamp, loop, stn, tray as it was. -/
@[simp] theorem expireSilence_frame (s : State) :
    (expireSilence s).power = s.power ∧ (expireSilence s).out = s.out ∧ (expireSilence s).remote = s.remote ∧
    (expireSilence s).retained = s.retained ∧ (expireSilence s).openValues = s.openValues ∧ (expireSilence s).pending = s.pending := by
  unfold expireSilence
  dsimp only
  (repeat' split) <;> simp_all

end Sys2Proof.Machine
end

