-- ==== Sys2Proof/Laws/FramesTape.lean ====
section
/-! SUPPORT. What the Cue-Track Decoder's and the Remote Scanner's operations leave as it was. -/

namespace Sys2Proof.Machine

open Sys2Proof (Byte Key Frame TrayCode Straps Readings KeySamples)

/-- `takePeriod` leaves all but dec as it was. -/
@[simp] theorem takePeriod_frame (us : Nat) (s : State) :
    (takePeriod us s).power = s.power ∧ (takePeriod us s).loop = s.loop ∧ (takePeriod us s).out = s.out ∧
    (takePeriod us s).disp = s.disp ∧ (takePeriod us s).tray = s.tray ∧ (takePeriod us s).lamp = s.lamp ∧
    (takePeriod us s).cool = s.cool ∧ (takePeriod us s).deck = s.deck ∧ (takePeriod us s).remote = s.remote ∧
    (takePeriod us s).stn = s.stn ∧ (takePeriod us s).retained = s.retained ∧ (takePeriod us s).attn = s.attn ∧
    (takePeriod us s).openValues = s.openValues ∧ (takePeriod us s).pending = s.pending := by
  unfold takePeriod
  try dsimp only
  (repeat' split) <;> simp_all

/-- `handOn` leaves all but attn, cool, dec, deck, disp, lamp, loop, stn, tray as it was. -/
@[simp] theorem handOn_frame (cue : Nat) (s : State) :
    (handOn cue s).power = s.power ∧ (handOn cue s).out = s.out ∧ (handOn cue s).remote = s.remote ∧
    (handOn cue s).retained = s.retained ∧ (handOn cue s).openValues = s.openValues ∧ (handOn cue s).pending = s.pending := by
  unfold handOn
  dsimp only
  (repeat' split) <;> simp_all

/-- `wordFail` leaves all but attn, dec as it was. -/
@[simp] theorem wordFail_frame (kind : Nat) (s : State) :
    (wordFail kind s).power = s.power ∧ (wordFail kind s).loop = s.loop ∧ (wordFail kind s).out = s.out ∧
    (wordFail kind s).disp = s.disp ∧ (wordFail kind s).tray = s.tray ∧ (wordFail kind s).lamp = s.lamp ∧
    (wordFail kind s).cool = s.cool ∧ (wordFail kind s).deck = s.deck ∧ (wordFail kind s).remote = s.remote ∧
    (wordFail kind s).stn = s.stn ∧ (wordFail kind s).retained = s.retained ∧ (wordFail kind s).openValues = s.openValues ∧
    (wordFail kind s).pending = s.pending := by
  unfold wordFail
  try dsimp only
  simp_all

/-- `meetCandidate` leaves all but attn, cool, dec, deck, disp, lamp, loop, stn, tray as it was. -/
@[simp] theorem meetCandidate_frame (w : Byte) (s : State) :
    (meetCandidate w s).power = s.power ∧ (meetCandidate w s).out = s.out ∧ (meetCandidate w s).remote = s.remote ∧
    (meetCandidate w s).retained = s.retained ∧ (meetCandidate w s).openValues = s.openValues ∧ (meetCandidate w s).pending = s.pending := by
  unfold meetCandidate
  try dsimp only
  (repeat' split) <;> simp_all

/-- `goodWord` leaves all but attn, cool, dec, deck, disp, lamp, loop, stn, tray as it was. -/
@[simp] theorem goodWord_frame (w : Byte) (s : State) :
    (goodWord w s).power = s.power ∧ (goodWord w s).out = s.out ∧ (goodWord w s).remote = s.remote ∧
    (goodWord w s).retained = s.retained ∧ (goodWord w s).openValues = s.openValues ∧ (goodWord w s).pending = s.pending := by
  unfold goodWord
  dsimp only
  (repeat' split) <;> simp_all

/-- `readSample` leaves all but attn, cool, dec, deck, disp, lamp, loop, stn, tray as it was. -/
@[simp] theorem readSample_frame (q : Nat) (v : Bool) (s : State) :
    (readSample q v s).power = s.power ∧ (readSample q v s).out = s.out ∧ (readSample q v s).remote = s.remote ∧
    (readSample q v s).retained = s.retained ∧ (readSample q v s).openValues = s.openValues ∧ (readSample q v s).pending = s.pending := by
  unfold readSample
  dsimp only
  (repeat' split) <;> simp_all

/-- `wordSample` leaves all but attn, cool, dec, deck, disp, lamp, loop, stn, tray as it was. -/
@[simp] theorem wordSample_frame (v : Bool) (s : State) :
    (wordSample v s).power = s.power ∧ (wordSample v s).out = s.out ∧ (wordSample v s).remote = s.remote ∧
    (wordSample v s).retained = s.retained ∧ (wordSample v s).openValues = s.openValues ∧ (wordSample v s).pending = s.pending := by
  unfold wordSample
  try dsimp only
  (repeat' split) <;> simp_all

/-- `endBurst` leaves all but attn, cool, dec, deck, disp, lamp, loop, stn, tray as it was. -/
@[simp] theorem endBurst_frame (s : State) :
    (endBurst s).power = s.power ∧ (endBurst s).out = s.out ∧ (endBurst s).remote = s.remote ∧
    (endBurst s).retained = s.retained ∧ (endBurst s).openValues = s.openValues ∧ (endBurst s).pending = s.pending := by
  unfold endBurst
  dsimp only
  (repeat' split) <;> simp_all

/-- `lengthenBurst` leaves all but attn, cool, dec, deck, disp, lamp, loop, stn, tray as it was. -/
@[simp] theorem lengthenBurst_frame (s : State) :
    (lengthenBurst s).power = s.power ∧ (lengthenBurst s).out = s.out ∧ (lengthenBurst s).remote = s.remote ∧
    (lengthenBurst s).retained = s.retained ∧ (lengthenBurst s).openValues = s.openValues ∧ (lengthenBurst s).pending = s.pending := by
  unfold lengthenBurst
  dsimp only
  (repeat' split) <;> simp_all

/-- `pulseSample` leaves all but attn, cool, dec, deck, disp, lamp, loop, stn, tray as it was. -/
@[simp] theorem pulseSample_frame (m : Bool) (s : State) :
    (pulseSample m s).power = s.power ∧ (pulseSample m s).out = s.out ∧ (pulseSample m s).remote = s.remote ∧
    (pulseSample m s).retained = s.retained ∧ (pulseSample m s).openValues = s.openValues ∧ (pulseSample m s).pending = s.pending := by
  unfold pulseSample
  try dsimp only
  (repeat' split) <;> simp_all

/-- `takeSample` leaves all but attn, cool, dec, deck, disp, lamp, loop, stn, tray as it was. -/
@[simp] theorem takeSample_frame (age : Nat) (s : State) :
    (takeSample age s).power = s.power ∧ (takeSample age s).out = s.out ∧ (takeSample age s).remote = s.remote ∧
    (takeSample age s).retained = s.retained ∧ (takeSample age s).openValues = s.openValues ∧ (takeSample age s).pending = s.pending := by
  unfold takeSample
  try dsimp only
  (repeat' split) <;> simp_all

/-- `readWordUpTo` leaves all but attn, cool, dec, deck, disp, lamp, loop, stn, tray as it was. -/
@[simp] theorem readWordUpTo_frame (data : Byte) (parity stop : Bool) (n : Nat) (s : State) :
    (readWordUpTo data parity stop n s).power = s.power ∧ (readWordUpTo data parity stop n s).out = s.out ∧ (readWordUpTo data parity stop n s).remote = s.remote ∧
    (readWordUpTo data parity stop n s).retained = s.retained ∧ (readWordUpTo data parity stop n s).openValues = s.openValues ∧ (readWordUpTo data parity stop n s).pending = s.pending := by
  induction n generalizing s with
  | zero => simp [readWordUpTo]
  | succ n ih =>
    unfold readWordUpTo
    (repeat' split) <;> simp_all

/-- `readWord` leaves all but attn, cool, dec, deck, disp, lamp, loop, stn, tray as it was. -/
@[simp] theorem readWord_frame (data : Byte) (parity stop : Bool) (s : State) :
    (readWord data parity stop s).power = s.power ∧ (readWord data parity stop s).out = s.out ∧ (readWord data parity stop s).remote = s.remote ∧
    (readWord data parity stop s).retained = s.retained ∧ (readWord data parity stop s).openValues = s.openValues ∧ (readWord data parity stop s).pending = s.pending := by
  unfold readWord
  try dsimp only
  simp_all

/-- `expireCandidate` leaves all but attn, dec as it was. -/
@[simp] theorem expireCandidate_frame (s : State) :
    (expireCandidate s).power = s.power ∧ (expireCandidate s).loop = s.loop ∧ (expireCandidate s).out = s.out ∧
    (expireCandidate s).disp = s.disp ∧ (expireCandidate s).tray = s.tray ∧ (expireCandidate s).lamp = s.lamp ∧
    (expireCandidate s).cool = s.cool ∧ (expireCandidate s).deck = s.deck ∧ (expireCandidate s).remote = s.remote ∧
    (expireCandidate s).stn = s.stn ∧ (expireCandidate s).retained = s.retained ∧ (expireCandidate s).openValues = s.openValues ∧
    (expireCandidate s).pending = s.pending := by
  unfold expireCandidate
  try dsimp only
  (repeat' split) <;> simp_all

/-- `thirdNonMarkInBurst` leaves all but attn, cool, dec, deck, disp, lamp, loop, stn, tray as it was. -/
@[simp] theorem thirdNonMarkInBurst_frame (s : State) :
    (thirdNonMarkInBurst s).power = s.power ∧ (thirdNonMarkInBurst s).out = s.out ∧ (thirdNonMarkInBurst s).remote = s.remote ∧
    (thirdNonMarkInBurst s).retained = s.retained ∧ (thirdNonMarkInBurst s).openValues = s.openValues ∧ (thirdNonMarkInBurst s).pending = s.pending := by
  unfold thirdNonMarkInBurst
  try dsimp only
  (repeat' split) <;> simp_all

/-- `limitMark` leaves all but attn, cool, dec, deck, disp, lamp, loop, stn, tray as it was. -/
@[simp] theorem limitMark_frame (s : State) :
    (limitMark s).power = s.power ∧ (limitMark s).out = s.out ∧ (limitMark s).remote = s.remote ∧
    (limitMark s).retained = s.retained ∧ (limitMark s).openValues = s.openValues ∧ (limitMark s).pending = s.pending := by
  unfold limitMark
  try dsimp only
  (repeat' split) <;> simp_all

/-- `thirdNonMarkInSpent` leaves all but attn, cool, dec, deck, disp, lamp, loop, stn, tray as it was. -/
@[simp] theorem thirdNonMarkInSpent_frame (s : State) :
    (thirdNonMarkInSpent s).power = s.power ∧ (thirdNonMarkInSpent s).out = s.out ∧ (thirdNonMarkInSpent s).remote = s.remote ∧
    (thirdNonMarkInSpent s).retained = s.retained ∧ (thirdNonMarkInSpent s).openValues = s.openValues ∧ (thirdNonMarkInSpent s).pending = s.pending := by
  unfold thirdNonMarkInSpent
  try dsimp only
  (repeat' split) <;> simp_all

/-- `relayKey` leaves all but attn, loop as it was. -/
@[simp] theorem relayKey_frame (k : Key) (s : State) :
    (relayKey k s).power = s.power ∧ (relayKey k s).out = s.out ∧ (relayKey k s).disp = s.disp ∧
    (relayKey k s).tray = s.tray ∧ (relayKey k s).lamp = s.lamp ∧ (relayKey k s).cool = s.cool ∧
    (relayKey k s).deck = s.deck ∧ (relayKey k s).dec = s.dec ∧ (relayKey k s).remote = s.remote ∧
    (relayKey k s).stn = s.stn ∧ (relayKey k s).retained = s.retained ∧ (relayKey k s).openValues = s.openValues ∧
    (relayKey k s).pending = s.pending := by
  unfold relayKey
  try dsimp only
  (repeat' split) <;> simp_all

/-- `keyAction` leaves all but attn, cool, dec, deck, disp, lamp, loop, stn, tray as it was. -/
@[simp] theorem keyAction_frame (k : Key) (s : State) :
    (keyAction k s).power = s.power ∧ (keyAction k s).out = s.out ∧ (keyAction k s).remote = s.remote ∧
    (keyAction k s).retained = s.retained ∧ (keyAction k s).openValues = s.openValues ∧ (keyAction k s).pending = s.pending := by
  unfold keyAction
  try dsimp only
  (repeat' split) <;> simp_all

/-- `actOnPress` leaves all but attn, cool, dec, deck, disp, lamp, loop, remote, stn, tray as it was. -/
@[simp] theorem actOnPress_frame (k : Key) (s : State) :
    (actOnPress k s).power = s.power ∧ (actOnPress k s).out = s.out ∧ (actOnPress k s).retained = s.retained ∧
    (actOnPress k s).openValues = s.openValues ∧ (actOnPress k s).pending = s.pending := by
  unfold actOnPress
  try dsimp only
  (repeat' split) <;> simp_all

/-- `recognizePress` leaves all but attn, cool, dec, deck, disp, lamp, loop, remote, stn, tray as it was. -/
@[simp] theorem recognizePress_frame (k : Key) (s : State) :
    (recognizePress k s).power = s.power ∧ (recognizePress k s).out = s.out ∧ (recognizePress k s).retained = s.retained ∧
    (recognizePress k s).openValues = s.openValues ∧ (recognizePress k s).pending = s.pending := by
  unfold recognizePress
  dsimp only
  (repeat' split) <;> simp_all

/-- `recognizeRelease` leaves all but remote as it was. -/
@[simp] theorem recognizeRelease_frame (k : Key) (s : State) :
    (recognizeRelease k s).power = s.power ∧ (recognizeRelease k s).loop = s.loop ∧ (recognizeRelease k s).out = s.out ∧
    (recognizeRelease k s).disp = s.disp ∧ (recognizeRelease k s).tray = s.tray ∧ (recognizeRelease k s).lamp = s.lamp ∧
    (recognizeRelease k s).cool = s.cool ∧ (recognizeRelease k s).deck = s.deck ∧ (recognizeRelease k s).dec = s.dec ∧
    (recognizeRelease k s).stn = s.stn ∧ (recognizeRelease k s).retained = s.retained ∧ (recognizeRelease k s).attn = s.attn ∧
    (recognizeRelease k s).openValues = s.openValues ∧ (recognizeRelease k s).pending = s.pending := by
  unfold recognizeRelease
  try dsimp only
  simp_all

/-- `recognizeKey` leaves all but attn, cool, dec, deck, disp, lamp, loop, remote, stn, tray as it was. -/
@[simp] theorem recognizeKey_frame (s : State) (k : Key) :
    (recognizeKey s k).power = s.power ∧ (recognizeKey s k).out = s.out ∧ (recognizeKey s k).retained = s.retained ∧
    (recognizeKey s k).openValues = s.openValues ∧ (recognizeKey s k).pending = s.pending := by
  unfold recognizeKey
  (repeat' split) <;> simp_all

/-- A run of recognitions leaves all but the show's blocks, the loop's queue and the Scanner as it was. -/
@[simp] theorem recognizeAll_frame (ks : List Key) (s : State) :
    (ks.foldl recognizeKey s).power = s.power ∧
    (ks.foldl recognizeKey s).out = s.out ∧
    (ks.foldl recognizeKey s).retained = s.retained ∧
    (ks.foldl recognizeKey s).openValues = s.openValues ∧
    (ks.foldl recognizeKey s).pending = s.pending := by
  induction ks generalizing s with
  | nil => simp
  | cons k ks ih => simp only [List.foldl_cons, ih]; simp


/-- `takeScan` leaves all but attn, cool, dec, deck, disp, lamp, loop, remote, stn, tray as it was. -/
@[simp] theorem takeScan_frame (x : KeySamples) (order : List Key) (s : State) :
    (takeScan x order s).power = s.power ∧ (takeScan x order s).out = s.out ∧ (takeScan x order s).retained = s.retained ∧
    (takeScan x order s).openValues = s.openValues ∧ (takeScan x order s).pending = s.pending := by
  unfold takeScan
  simp only [recognizeAll_frame]
  simp

/-- `pressEvent` leaves all but attn, cool, dec, deck, disp, lamp, loop, remote, stn, tray as it was. -/
@[simp] theorem pressEvent_frame (k : Key) (s : State) :
    (pressEvent k s).power = s.power ∧ (pressEvent k s).out = s.out ∧ (pressEvent k s).retained = s.retained ∧
    (pressEvent k s).openValues = s.openValues ∧ (pressEvent k s).pending = s.pending := by
  unfold pressEvent
  try dsimp only
  (repeat' split) <;> simp_all

/-- `releaseEvent` leaves all but remote as it was. -/
@[simp] theorem releaseEvent_frame (k : Key) (s : State) :
    (releaseEvent k s).power = s.power ∧ (releaseEvent k s).loop = s.loop ∧ (releaseEvent k s).out = s.out ∧
    (releaseEvent k s).disp = s.disp ∧ (releaseEvent k s).tray = s.tray ∧ (releaseEvent k s).lamp = s.lamp ∧
    (releaseEvent k s).cool = s.cool ∧ (releaseEvent k s).deck = s.deck ∧ (releaseEvent k s).dec = s.dec ∧
    (releaseEvent k s).stn = s.stn ∧ (releaseEvent k s).retained = s.retained ∧ (releaseEvent k s).attn = s.attn ∧
    (releaseEvent k s).openValues = s.openValues ∧ (releaseEvent k s).pending = s.pending := by
  unfold releaseEvent
  try dsimp only
  (repeat' split) <;> simp_all

end Sys2Proof.Machine
end

