-- ==== Sys2Proof/Laws/FramesLoop.lean ====
section
/-! SUPPORT. What the Loop Port's operations and the resets leave as it was. -/

namespace Sys2Proof.Machine

open Sys2Proof (Byte Key Frame TrayCode Straps Readings KeySamples)

/-- `emit` leaves all but attn, out as it was. -/
@[simp] theorem emit_frame (b : Byte) (first : Bool) (s : State) :
    (emit b first s).power = s.power ∧ (emit b first s).loop = s.loop ∧ (emit b first s).disp = s.disp ∧
    (emit b first s).tray = s.tray ∧ (emit b first s).lamp = s.lamp ∧ (emit b first s).cool = s.cool ∧
    (emit b first s).deck = s.deck ∧ (emit b first s).dec = s.dec ∧ (emit b first s).remote = s.remote ∧
    (emit b first s).stn = s.stn ∧ (emit b first s).retained = s.retained ∧ (emit b first s).openValues = s.openValues ∧
    (emit b first s).pending = s.pending := by
  unfold emit
  try dsimp only
  (repeat' split) <;> simp_all

/-- `passOn` leaves all but attn, loop, out as it was. -/
@[simp] theorem passOn_frame (p : Passage) (r x : Byte) (s : State) :
    (passOn p r x s).power = s.power ∧ (passOn p r x s).disp = s.disp ∧ (passOn p r x s).tray = s.tray ∧
    (passOn p r x s).lamp = s.lamp ∧ (passOn p r x s).cool = s.cool ∧ (passOn p r x s).deck = s.deck ∧
    (passOn p r x s).dec = s.dec ∧ (passOn p r x s).remote = s.remote ∧ (passOn p r x s).stn = s.stn ∧
    (passOn p r x s).retained = s.retained ∧ (passOn p r x s).openValues = s.openValues ∧ (passOn p r x s).pending = s.pending := by
  unfold passOn
  dsimp only
  (repeat' split) <;> simp_all

/-- `scheduleReset` leaves all but out as it was. -/
@[simp] theorem scheduleReset_frame (p : Passage) (s : State) :
    (scheduleReset p s).power = s.power ∧ (scheduleReset p s).loop = s.loop ∧ (scheduleReset p s).disp = s.disp ∧
    (scheduleReset p s).tray = s.tray ∧ (scheduleReset p s).lamp = s.lamp ∧ (scheduleReset p s).cool = s.cool ∧
    (scheduleReset p s).deck = s.deck ∧ (scheduleReset p s).dec = s.dec ∧ (scheduleReset p s).remote = s.remote ∧
    (scheduleReset p s).stn = s.stn ∧ (scheduleReset p s).retained = s.retained ∧ (scheduleReset p s).attn = s.attn ∧
    (scheduleReset p s).openValues = s.openValues ∧ (scheduleReset p s).pending = s.pending := by
  unfold scheduleReset
  try dsimp only
  (repeat' split) <;> simp_all

/-- `endFrame` leaves all but loop, out as it was. -/
@[simp] theorem endFrame_frame (p : Passage) (s : State) :
    (endFrame p s).power = s.power ∧ (endFrame p s).disp = s.disp ∧ (endFrame p s).tray = s.tray ∧
    (endFrame p s).lamp = s.lamp ∧ (endFrame p s).cool = s.cool ∧ (endFrame p s).deck = s.deck ∧
    (endFrame p s).dec = s.dec ∧ (endFrame p s).remote = s.remote ∧ (endFrame p s).stn = s.stn ∧
    (endFrame p s).retained = s.retained ∧ (endFrame p s).attn = s.attn ∧ (endFrame p s).openValues = s.openValues ∧
    (endFrame p s).pending = s.pending := by
  unfold endFrame
  try dsimp only
  simp_all

/-- `failFrame` leaves all but attn, loop, out as it was. -/
@[simp] theorem failFrame_frame (p : Passage) (r : Rx) (s : State) :
    (failFrame p r s).power = s.power ∧ (failFrame p r s).disp = s.disp ∧ (failFrame p r s).tray = s.tray ∧
    (failFrame p r s).lamp = s.lamp ∧ (failFrame p r s).cool = s.cool ∧ (failFrame p r s).deck = s.deck ∧
    (failFrame p r s).dec = s.dec ∧ (failFrame p r s).remote = s.remote ∧ (failFrame p r s).stn = s.stn ∧
    (failFrame p r s).retained = s.retained ∧ (failFrame p r s).openValues = s.openValues ∧ (failFrame p r s).pending = s.pending := by
  unfold failFrame
  try dsimp only
  simp_all

/-- `pollByte` leaves all but attn, loop, out as it was. -/
@[simp] theorem pollByte_frame (p : Passage) (b : Byte) (s : State) :
    (pollByte p b s).power = s.power ∧ (pollByte p b s).disp = s.disp ∧ (pollByte p b s).tray = s.tray ∧
    (pollByte p b s).lamp = s.lamp ∧ (pollByte p b s).cool = s.cool ∧ (pollByte p b s).deck = s.deck ∧
    (pollByte p b s).dec = s.dec ∧ (pollByte p b s).remote = s.remote ∧ (pollByte p b s).stn = s.stn ∧
    (pollByte p b s).retained = s.retained ∧ (pollByte p b s).openValues = s.openValues ∧ (pollByte p b s).pending = s.pending := by
  unfold pollByte
  dsimp only
  (repeat' split) <;> simp_all

/-- `assignByte` leaves all but attn, loop, out as it was. -/
@[simp] theorem assignByte_frame (p : Passage) (b : Byte) (s : State) :
    (assignByte p b s).power = s.power ∧ (assignByte p b s).disp = s.disp ∧ (assignByte p b s).tray = s.tray ∧
    (assignByte p b s).lamp = s.lamp ∧ (assignByte p b s).cool = s.cool ∧ (assignByte p b s).deck = s.deck ∧
    (assignByte p b s).dec = s.dec ∧ (assignByte p b s).remote = s.remote ∧ (assignByte p b s).stn = s.stn ∧
    (assignByte p b s).retained = s.retained ∧ (assignByte p b s).openValues = s.openValues ∧ (assignByte p b s).pending = s.pending := by
  unfold assignByte
  try dsimp only
  (repeat' split) <;> simp_all

/-- `lookAtMirror` leaves all but disp, openValues as it was. -/
@[simp] theorem lookAtMirror_frame (s : State) :
    (lookAtMirror s).power = s.power ∧ (lookAtMirror s).loop = s.loop ∧ (lookAtMirror s).out = s.out ∧
    (lookAtMirror s).tray = s.tray ∧ (lookAtMirror s).lamp = s.lamp ∧ (lookAtMirror s).cool = s.cool ∧
    (lookAtMirror s).deck = s.deck ∧ (lookAtMirror s).dec = s.dec ∧ (lookAtMirror s).remote = s.remote ∧
    (lookAtMirror s).stn = s.stn ∧ (lookAtMirror s).retained = s.retained ∧ (lookAtMirror s).attn = s.attn ∧
    (lookAtMirror s).pending = s.pending := by
  unfold lookAtMirror
  try dsimp only
  (repeat' split) <;> simp_all

/-- `answerQuery` leaves all but disp, openValues as it was. -/
@[simp] theorem answerQuery_frame (fields : List Byte) (area : Nat) (s : State) :
    (answerQuery fields area s).2.power = s.power ∧ (answerQuery fields area s).2.loop = s.loop ∧ (answerQuery fields area s).2.out = s.out ∧
    (answerQuery fields area s).2.tray = s.tray ∧ (answerQuery fields area s).2.lamp = s.lamp ∧ (answerQuery fields area s).2.cool = s.cool ∧
    (answerQuery fields area s).2.deck = s.deck ∧ (answerQuery fields area s).2.dec = s.dec ∧ (answerQuery fields area s).2.remote = s.remote ∧
    (answerQuery fields area s).2.stn = s.stn ∧ (answerQuery fields area s).2.retained = s.retained ∧ (answerQuery fields area s).2.attn = s.attn ∧
    (answerQuery fields area s).2.pending = s.pending := by
  unfold answerQuery
  dsimp only
  (repeat' split) <;> simp_all

/-- `queryByte` leaves all but attn, disp, loop, openValues, out as it was. -/
@[simp] theorem queryByte_frame (p : Passage) (b : Byte) (s : State) :
    (queryByte p b s).power = s.power ∧ (queryByte p b s).tray = s.tray ∧ (queryByte p b s).lamp = s.lamp ∧
    (queryByte p b s).cool = s.cool ∧ (queryByte p b s).deck = s.deck ∧ (queryByte p b s).dec = s.dec ∧
    (queryByte p b s).remote = s.remote ∧ (queryByte p b s).stn = s.stn ∧ (queryByte p b s).retained = s.retained ∧
    (queryByte p b s).pending = s.pending := by
  unfold queryByte
  dsimp only
  (repeat' split) <;> simp_all

/-- `payloadByte` leaves all but attn, disp, loop, openValues, out as it was. -/
@[simp] theorem payloadByte_frame (p : Passage) (b : Byte) (s : State) :
    (payloadByte p b s).power = s.power ∧ (payloadByte p b s).tray = s.tray ∧ (payloadByte p b s).lamp = s.lamp ∧
    (payloadByte p b s).cool = s.cool ∧ (payloadByte p b s).deck = s.deck ∧ (payloadByte p b s).dec = s.dec ∧
    (payloadByte p b s).remote = s.remote ∧ (payloadByte p b s).stn = s.stn ∧ (payloadByte p b s).retained = s.retained ∧
    (payloadByte p b s).pending = s.pending := by
  unfold payloadByte
  try dsimp only
  (repeat' split) <;> simp_all

/-- `takeCue` leaves all but attn, cool, dec, deck, disp, lamp, stn, tray as it was. -/
@[simp] theorem takeCue_frame (pl : List Byte) (s : State) :
    (takeCue pl s).power = s.power ∧ (takeCue pl s).loop = s.loop ∧ (takeCue pl s).out = s.out ∧
    (takeCue pl s).remote = s.remote ∧ (takeCue pl s).retained = s.retained ∧ (takeCue pl s).openValues = s.openValues ∧
    (takeCue pl s).pending = s.pending := by
  unfold takeCue
  try dsimp only
  (repeat' split) <;> simp_all

/-- `takeAssign` leaves all but loop, stn as it was. -/
@[simp] theorem takeAssign_frame (s : State) :
    (takeAssign s).power = s.power ∧ (takeAssign s).out = s.out ∧ (takeAssign s).disp = s.disp ∧
    (takeAssign s).tray = s.tray ∧ (takeAssign s).lamp = s.lamp ∧ (takeAssign s).cool = s.cool ∧
    (takeAssign s).deck = s.deck ∧ (takeAssign s).dec = s.dec ∧ (takeAssign s).remote = s.remote ∧
    (takeAssign s).retained = s.retained ∧ (takeAssign s).attn = s.attn ∧ (takeAssign s).openValues = s.openValues ∧
    (takeAssign s).pending = s.pending := by
  unfold takeAssign
  dsimp only
  (repeat' split) <;> simp_all

/-- `actOn` leaves all but attn, cool, dec, deck, disp, lamp, loop, openValues, stn, tray as it was. -/
@[simp] theorem actOn_frame (k : FrameKind) (p : Passage) (s : State) :
    (actOn k p s).1.power = s.power ∧ (actOn k p s).1.out = s.out ∧ (actOn k p s).1.remote = s.remote ∧
    (actOn k p s).1.retained = s.retained ∧ (actOn k p s).1.pending = s.pending := by
  unfold actOn
  dsimp only
  (repeat' split) <;> simp_all

/-- `takePosition` leaves all but loop as it was. -/
@[simp] theorem takePosition_frame (p : Passage) (s : State) :
    (takePosition p s).power = s.power ∧ (takePosition p s).out = s.out ∧ (takePosition p s).disp = s.disp ∧
    (takePosition p s).tray = s.tray ∧ (takePosition p s).lamp = s.lamp ∧ (takePosition p s).cool = s.cool ∧
    (takePosition p s).deck = s.deck ∧ (takePosition p s).dec = s.dec ∧ (takePosition p s).remote = s.remote ∧
    (takePosition p s).stn = s.stn ∧ (takePosition p s).retained = s.retained ∧ (takePosition p s).attn = s.attn ∧
    (takePosition p s).openValues = s.openValues ∧ (takePosition p s).pending = s.pending := by
  unfold takePosition
  try dsimp only
  (repeat' split) <;> simp_all

/-- `goodFrame` leaves all but attn, cool, dec, deck, disp, lamp, loop, openValues, stn, tray as it was. -/
@[simp] theorem goodFrame_frame (k : FrameKind) (p : Passage) (s : State) :
    (goodFrame k p s).1.power = s.power ∧ (goodFrame k p s).1.out = s.out ∧ (goodFrame k p s).1.remote = s.remote ∧
    (goodFrame k p s).1.retained = s.retained ∧ (goodFrame k p s).1.pending = s.pending := by
  unfold goodFrame
  dsimp only
  (repeat' split) <;> simp_all

/-- `afterCheck` leaves all but loop, out as it was. -/
@[simp] theorem afterCheck_frame (k : FrameKind) (p : Passage) (c : Byte) (s : State) :
    (afterCheck k p c s).power = s.power ∧ (afterCheck k p c s).disp = s.disp ∧ (afterCheck k p c s).tray = s.tray ∧
    (afterCheck k p c s).lamp = s.lamp ∧ (afterCheck k p c s).cool = s.cool ∧ (afterCheck k p c s).deck = s.deck ∧
    (afterCheck k p c s).dec = s.dec ∧ (afterCheck k p c s).remote = s.remote ∧ (afterCheck k p c s).stn = s.stn ∧
    (afterCheck k p c s).retained = s.retained ∧ (afterCheck k p c s).attn = s.attn ∧ (afterCheck k p c s).openValues = s.openValues ∧
    (afterCheck k p c s).pending = s.pending := by
  unfold afterCheck
  dsimp only
  (repeat' split) <;> simp_all

/-- `knownCheck` leaves all but attn, cool, dec, deck, disp, lamp, loop, openValues, out, stn, tray as it was. -/
@[simp] theorem knownCheck_frame (k : FrameKind) (p : Passage) (b : Byte) (s : State) :
    (knownCheck k p b s).power = s.power ∧ (knownCheck k p b s).remote = s.remote ∧ (knownCheck k p b s).retained = s.retained ∧
    (knownCheck k p b s).pending = s.pending := by
  unfold knownCheck
  dsimp only
  (repeat' split) <;> simp_all

/-- `strippedCheck` leaves all but loop, out as it was. -/
@[simp] theorem strippedCheck_frame (p : Passage) (b : Byte) (s : State) :
    (strippedCheck p b s).power = s.power ∧ (strippedCheck p b s).disp = s.disp ∧ (strippedCheck p b s).tray = s.tray ∧
    (strippedCheck p b s).lamp = s.lamp ∧ (strippedCheck p b s).cool = s.cool ∧ (strippedCheck p b s).deck = s.deck ∧
    (strippedCheck p b s).dec = s.dec ∧ (strippedCheck p b s).remote = s.remote ∧ (strippedCheck p b s).stn = s.stn ∧
    (strippedCheck p b s).retained = s.retained ∧ (strippedCheck p b s).attn = s.attn ∧ (strippedCheck p b s).openValues = s.openValues ∧
    (strippedCheck p b s).pending = s.pending := by
  unfold strippedCheck
  try dsimp only
  (repeat' split) <;> simp_all

/-- `unknownCheck` leaves all but attn, loop, out as it was. -/
@[simp] theorem unknownCheck_frame (p : Passage) (b : Byte) (s : State) :
    (unknownCheck p b s).power = s.power ∧ (unknownCheck p b s).disp = s.disp ∧ (unknownCheck p b s).tray = s.tray ∧
    (unknownCheck p b s).lamp = s.lamp ∧ (unknownCheck p b s).cool = s.cool ∧ (unknownCheck p b s).deck = s.deck ∧
    (unknownCheck p b s).dec = s.dec ∧ (unknownCheck p b s).remote = s.remote ∧ (unknownCheck p b s).stn = s.stn ∧
    (unknownCheck p b s).retained = s.retained ∧ (unknownCheck p b s).openValues = s.openValues ∧ (unknownCheck p b s).pending = s.pending := by
  unfold unknownCheck
  try dsimp only
  (repeat' split) <;> simp_all

/-- `checkByte` leaves all but attn, cool, dec, deck, disp, lamp, loop, openValues, out, stn, tray as it was. -/
@[simp] theorem checkByte_frame (p : Passage) (b : Byte) (s : State) :
    (checkByte p b s).power = s.power ∧ (checkByte p b s).remote = s.remote ∧ (checkByte p b s).retained = s.retained ∧
    (checkByte p b s).pending = s.pending := by
  unfold checkByte
  try dsimp only
  (repeat' split) <;> simp_all

/-- `trailerByte` leaves all but attn, loop, out as it was. -/
@[simp] theorem trailerByte_frame (p : Passage) (second : Bool) (b : Byte) (s : State) :
    (trailerByte p second b s).power = s.power ∧ (trailerByte p second b s).disp = s.disp ∧ (trailerByte p second b s).tray = s.tray ∧
    (trailerByte p second b s).lamp = s.lamp ∧ (trailerByte p second b s).cool = s.cool ∧ (trailerByte p second b s).deck = s.deck ∧
    (trailerByte p second b s).dec = s.dec ∧ (trailerByte p second b s).remote = s.remote ∧ (trailerByte p second b s).stn = s.stn ∧
    (trailerByte p second b s).retained = s.retained ∧ (trailerByte p second b s).openValues = s.openValues ∧ (trailerByte p second b s).pending = s.pending := by
  unfold trailerByte
  dsimp only
  (repeat' split) <;> simp_all

/-- `originByte` leaves all but attn, loop, out as it was. -/
@[simp] theorem originByte_frame (p : Passage) (b : Byte) (s : State) :
    (originByte p b s).power = s.power ∧ (originByte p b s).disp = s.disp ∧ (originByte p b s).tray = s.tray ∧
    (originByte p b s).lamp = s.lamp ∧ (originByte p b s).cool = s.cool ∧ (originByte p b s).deck = s.deck ∧
    (originByte p b s).dec = s.dec ∧ (originByte p b s).remote = s.remote ∧ (originByte p b s).stn = s.stn ∧
    (originByte p b s).retained = s.retained ∧ (originByte p b s).openValues = s.openValues ∧ (originByte p b s).pending = s.pending := by
  unfold originByte
  try dsimp only
  simp_all

/-- `hopByte` leaves all but attn, loop, out as it was. -/
@[simp] theorem hopByte_frame (p : Passage) (b : Byte) (s : State) :
    (hopByte p b s).power = s.power ∧ (hopByte p b s).disp = s.disp ∧ (hopByte p b s).tray = s.tray ∧
    (hopByte p b s).lamp = s.lamp ∧ (hopByte p b s).cool = s.cool ∧ (hopByte p b s).deck = s.deck ∧
    (hopByte p b s).dec = s.dec ∧ (hopByte p b s).remote = s.remote ∧ (hopByte p b s).stn = s.stn ∧
    (hopByte p b s).retained = s.retained ∧ (hopByte p b s).openValues = s.openValues ∧ (hopByte p b s).pending = s.pending := by
  unfold hopByte
  try dsimp only
  (repeat' split) <;> simp_all

/-- `lengthByte` leaves all but attn, loop, out as it was. -/
@[simp] theorem lengthByte_frame (p : Passage) (b : Byte) (s : State) :
    (lengthByte p b s).power = s.power ∧ (lengthByte p b s).disp = s.disp ∧ (lengthByte p b s).tray = s.tray ∧
    (lengthByte p b s).lamp = s.lamp ∧ (lengthByte p b s).cool = s.cool ∧ (lengthByte p b s).deck = s.deck ∧
    (lengthByte p b s).dec = s.dec ∧ (lengthByte p b s).remote = s.remote ∧ (lengthByte p b s).stn = s.stn ∧
    (lengthByte p b s).retained = s.retained ∧ (lengthByte p b s).openValues = s.openValues ∧ (lengthByte p b s).pending = s.pending := by
  unfold lengthByte
  try dsimp only
  (repeat' split) <;> simp_all

/-- `frameByte` leaves all but attn, cool, dec, deck, disp, lamp, loop, openValues, out, stn, tray as it was. -/
@[simp] theorem frameByte_frame (p : Passage) (b : Byte) (s : State) :
    (frameByte p b s).power = s.power ∧ (frameByte p b s).remote = s.remote ∧ (frameByte p b s).retained = s.retained ∧
    (frameByte p b s).pending = s.pending := by
  unfold frameByte
  try dsimp only
  (repeat' split) <;> simp_all

/-- `beginFrame` leaves all but attn, loop, out as it was. -/
@[simp] theorem beginFrame_frame (s : State) :
    (beginFrame s).power = s.power ∧ (beginFrame s).disp = s.disp ∧ (beginFrame s).tray = s.tray ∧
    (beginFrame s).lamp = s.lamp ∧ (beginFrame s).cool = s.cool ∧ (beginFrame s).deck = s.deck ∧
    (beginFrame s).dec = s.dec ∧ (beginFrame s).remote = s.remote ∧ (beginFrame s).stn = s.stn ∧
    (beginFrame s).retained = s.retained ∧ (beginFrame s).openValues = s.openValues ∧ (beginFrame s).pending = s.pending := by
  unfold beginFrame
  try dsimp only
  simp_all

/-- `quietByte` leaves all but attn, loop, out as it was. -/
@[simp] theorem quietByte_frame (b : Byte) (s : State) :
    (quietByte b s).power = s.power ∧ (quietByte b s).disp = s.disp ∧ (quietByte b s).tray = s.tray ∧
    (quietByte b s).lamp = s.lamp ∧ (quietByte b s).cool = s.cool ∧ (quietByte b s).deck = s.deck ∧
    (quietByte b s).dec = s.dec ∧ (quietByte b s).remote = s.remote ∧ (quietByte b s).stn = s.stn ∧
    (quietByte b s).retained = s.retained ∧ (quietByte b s).openValues = s.openValues ∧ (quietByte b s).pending = s.pending := by
  unfold quietByte
  try dsimp only
  (repeat' split) <;> simp_all

/-- `passByte` leaves all but out as it was. -/
@[simp] theorem passByte_frame (s : State) :
    (passByte s).power = s.power ∧ (passByte s).loop = s.loop ∧ (passByte s).disp = s.disp ∧ (passByte s).tray = s.tray ∧
    (passByte s).lamp = s.lamp ∧ (passByte s).cool = s.cool ∧ (passByte s).deck = s.deck ∧
    (passByte s).dec = s.dec ∧ (passByte s).remote = s.remote ∧ (passByte s).stn = s.stn ∧
    (passByte s).retained = s.retained ∧ (passByte s).attn = s.attn ∧ (passByte s).openValues = s.openValues ∧
    (passByte s).pending = s.pending := by
  unfold passByte
  simp

/-- `rxByte` leaves all but attn, cool, dec, deck, disp, lamp, loop, openValues, out, stn, tray as it was. -/
@[simp] theorem rxByte_frame (b : Byte) (s : State) :
    (rxByte b s).power = s.power ∧ (rxByte b s).remote = s.remote ∧ (rxByte b s).retained = s.retained ∧
    (rxByte b s).pending = s.pending := by
  unfold rxByte
  dsimp only
  (repeat' split) <;> simp_all

/-- `rxBytes` leaves all but attn, cool, dec, deck, disp, lamp, loop, openValues, out, stn, tray as it was. -/
@[simp] theorem rxBytes_frame (bs : List Byte) (s : State) :
    (rxBytes bs s).power = s.power ∧ (rxBytes bs s).remote = s.remote ∧ (rxBytes bs s).retained = s.retained ∧
    (rxBytes bs s).pending = s.pending := by
  unfold rxBytes
  induction bs generalizing s with
  | nil => simp
  | cons b bs ih => simp only [List.foldl_cons, ih]; simp

/-- `endByIdle` leaves all but attn, loop, out as it was. -/
@[simp] theorem endByIdle_frame (s : State) :
    (endByIdle s).power = s.power ∧ (endByIdle s).disp = s.disp ∧ (endByIdle s).tray = s.tray ∧
    (endByIdle s).lamp = s.lamp ∧ (endByIdle s).cool = s.cool ∧ (endByIdle s).deck = s.deck ∧
    (endByIdle s).dec = s.dec ∧ (endByIdle s).remote = s.remote ∧ (endByIdle s).stn = s.stn ∧
    (endByIdle s).retained = s.retained ∧ (endByIdle s).openValues = s.openValues ∧ (endByIdle s).pending = s.pending := by
  unfold endByIdle
  try dsimp only
  (repeat' split) <;> simp_all

/-- `byteTick` leaves all but loop, out as it was. -/
@[simp] theorem byteTick_frame (s : State) :
    (byteTick s).power = s.power ∧ (byteTick s).disp = s.disp ∧ (byteTick s).tray = s.tray ∧
    (byteTick s).lamp = s.lamp ∧ (byteTick s).cool = s.cool ∧ (byteTick s).deck = s.deck ∧
    (byteTick s).dec = s.dec ∧ (byteTick s).remote = s.remote ∧ (byteTick s).stn = s.stn ∧
    (byteTick s).retained = s.retained ∧ (byteTick s).attn = s.attn ∧ (byteTick s).openValues = s.openValues ∧
    (byteTick s).pending = s.pending := by
  unfold byteTick
  split <;> simp

/-- `byteFor` leaves all but loop, out as it was. -/
@[simp] theorem byteFor_frame (n : Nat) (s : State) :
    (byteFor n s).power = s.power ∧ (byteFor n s).disp = s.disp ∧ (byteFor n s).tray = s.tray ∧
    (byteFor n s).lamp = s.lamp ∧ (byteFor n s).cool = s.cool ∧ (byteFor n s).deck = s.deck ∧
    (byteFor n s).dec = s.dec ∧ (byteFor n s).remote = s.remote ∧ (byteFor n s).stn = s.stn ∧
    (byteFor n s).retained = s.retained ∧ (byteFor n s).attn = s.attn ∧ (byteFor n s).openValues = s.openValues ∧
    (byteFor n s).pending = s.pending := by
  induction n generalizing s with
  | zero => simp [byteFor]
  | succ n ih => simp only [byteFor, ih]; simp

/-- `spaceTick` leaves all but loop, out as it was. -/
@[simp] theorem spaceTick_frame (s : State) :
    (spaceTick s).power = s.power ∧ (spaceTick s).disp = s.disp ∧ (spaceTick s).tray = s.tray ∧
    (spaceTick s).lamp = s.lamp ∧ (spaceTick s).cool = s.cool ∧ (spaceTick s).deck = s.deck ∧
    (spaceTick s).dec = s.dec ∧ (spaceTick s).remote = s.remote ∧ (spaceTick s).stn = s.stn ∧
    (spaceTick s).retained = s.retained ∧ (spaceTick s).attn = s.attn ∧ (spaceTick s).openValues = s.openValues ∧
    (spaceTick s).pending = s.pending := by
  simp [spaceTick]

/-- `markAgain` leaves all but loop, out as it was. -/
@[simp] theorem markAgain_frame (s : State) :
    (markAgain s).power = s.power ∧ (markAgain s).disp = s.disp ∧ (markAgain s).tray = s.tray ∧
    (markAgain s).lamp = s.lamp ∧ (markAgain s).cool = s.cool ∧ (markAgain s).deck = s.deck ∧
    (markAgain s).dec = s.dec ∧ (markAgain s).remote = s.remote ∧ (markAgain s).stn = s.stn ∧
    (markAgain s).retained = s.retained ∧ (markAgain s).attn = s.attn ∧ (markAgain s).openValues = s.openValues ∧
    (markAgain s).pending = s.pending := by
  simp [markAgain]

/-- `lineReady` leaves all but loop, out as it was. -/
@[simp] theorem lineReady_frame (s : State) :
    (lineReady s).power = s.power ∧ (lineReady s).disp = s.disp ∧ (lineReady s).tray = s.tray ∧
    (lineReady s).lamp = s.lamp ∧ (lineReady s).cool = s.cool ∧ (lineReady s).deck = s.deck ∧
    (lineReady s).dec = s.dec ∧ (lineReady s).remote = s.remote ∧ (lineReady s).stn = s.stn ∧
    (lineReady s).retained = s.retained ∧ (lineReady s).attn = s.attn ∧ (lineReady s).openValues = s.openValues ∧
    (lineReady s).pending = s.pending := by
  simp [lineReady]

/-- At the mark level again, LOOP IN is as it was but for the hold (R1). -/
@[simp] theorem lineReady_loop (s : State) : (lineReady s).loop = { s.loop with space := 0 } := rfl

/-- A bit time of the hold at the space level is one bit time less of it (R1). -/
@[simp] theorem spaceTick_loop (s : State) : (spaceTick s).loop = { s.loop with space := s.loop.space - 1 } := rfl

/-- LOOP OUT goes on while the line returns to the mark level (R1). -/
@[simp] theorem markAgain_out (s : State) : (markAgain s).out = s.out.ticks s.loop.space := rfl

@[simp] theorem spaceTick_out (s : State) : (spaceTick s).out = s.out.ticks 1 := rfl

/-- `idleTick` leaves all but attn, loop, out as it was. -/
@[simp] theorem idleTick_frame (s : State) :
    (idleTick s).power = s.power ∧ (idleTick s).disp = s.disp ∧ (idleTick s).tray = s.tray ∧
    (idleTick s).lamp = s.lamp ∧ (idleTick s).cool = s.cool ∧ (idleTick s).deck = s.deck ∧
    (idleTick s).dec = s.dec ∧ (idleTick s).remote = s.remote ∧ (idleTick s).stn = s.stn ∧
    (idleTick s).retained = s.retained ∧ (idleTick s).openValues = s.openValues ∧ (idleTick s).pending = s.pending := by
  unfold idleTick
  (repeat' split) <;> simp

/-- `idleFor` leaves all but attn, loop, out as it was. -/
@[simp] theorem idleFor_frame (n : Nat) (s : State) :
    (idleFor n s).power = s.power ∧ (idleFor n s).disp = s.disp ∧ (idleFor n s).tray = s.tray ∧
    (idleFor n s).lamp = s.lamp ∧ (idleFor n s).cool = s.cool ∧ (idleFor n s).deck = s.deck ∧
    (idleFor n s).dec = s.dec ∧ (idleFor n s).remote = s.remote ∧ (idleFor n s).stn = s.stn ∧
    (idleFor n s).retained = s.retained ∧ (idleFor n s).openValues = s.openValues ∧ (idleFor n s).pending = s.pending := by
  induction n generalizing s with
  | zero => simp [idleFor]
  | succ n ih => simp only [idleFor, ih]; simp

/-- `takeBrokenByte` leaves all but attn, loop, out as it was. -/
@[simp] theorem takeBrokenByte_frame (n : Nat) (s : State) :
    (takeBrokenByte n s).power = s.power ∧ (takeBrokenByte n s).disp = s.disp ∧ (takeBrokenByte n s).tray = s.tray ∧
    (takeBrokenByte n s).lamp = s.lamp ∧ (takeBrokenByte n s).cool = s.cool ∧ (takeBrokenByte n s).deck = s.deck ∧
    (takeBrokenByte n s).dec = s.dec ∧ (takeBrokenByte n s).remote = s.remote ∧ (takeBrokenByte n s).stn = s.stn ∧
    (takeBrokenByte n s).retained = s.retained ∧ (takeBrokenByte n s).openValues = s.openValues ∧ (takeBrokenByte n s).pending = s.pending := by
  unfold takeBrokenByte
  dsimp only
  (repeat' split) <;> simp_all

/-- `startOriginated` leaves all but loop, out as it was. -/
@[simp] theorem startOriginated_frame (s : State) :
    (startOriginated s).power = s.power ∧ (startOriginated s).disp = s.disp ∧ (startOriginated s).tray = s.tray ∧
    (startOriginated s).lamp = s.lamp ∧ (startOriginated s).cool = s.cool ∧ (startOriginated s).deck = s.deck ∧
    (startOriginated s).dec = s.dec ∧ (startOriginated s).remote = s.remote ∧ (startOriginated s).stn = s.stn ∧
    (startOriginated s).retained = s.retained ∧ (startOriginated s).attn = s.attn ∧ (startOriginated s).openValues = s.openValues ∧
    (startOriginated s).pending = s.pending := by
  unfold startOriginated
  try dsimp only
  (repeat' split) <;> simp_all

/-- `frameArrives` leaves all but attn, cool, dec, deck, disp, lamp, loop, openValues, out, stn, tray as it was. -/
@[simp] theorem frameArrives_frame (f : Frame) (bs : List Byte) (s : State) :
    (frameArrives f bs s).power = s.power ∧ (frameArrives f bs s).remote = s.remote ∧ (frameArrives f bs s).retained = s.retained ∧
    (frameArrives f bs s).pending = s.pending := by
  unfold frameArrives
  try dsimp only
  simp_all

/-- `knownFrame` leaves all but attn, cool, dec, deck, disp, lamp, loop, openValues, out, stn, tray as it was. -/
@[simp] theorem knownFrame_frame (k : FrameKind) (f : Frame) (pl : List Byte) (s : State) :
    (knownFrame k f pl s).power = s.power ∧ (knownFrame k f pl s).remote = s.remote ∧ (knownFrame k f pl s).retained = s.retained ∧
    (knownFrame k f pl s).pending = s.pending := by
  unfold knownFrame
  try dsimp only
  simp_all

/-- `commandFrame` leaves all but attn, cool, dec, deck, disp, lamp, loop, openValues, out, stn, tray as it was. -/
@[simp] theorem commandFrame_frame (c : Cmd) (f : Frame) (args : List Byte) (s : State) :
    (commandFrame c f args s).power = s.power ∧ (commandFrame c f args s).remote = s.remote ∧ (commandFrame c f args s).retained = s.retained ∧
    (commandFrame c f args s).pending = s.pending := by
  unfold commandFrame
  try dsimp only
  simp_all

end Sys2Proof.Machine
end

