-- ==== Sys2Proof/WellFormed.lean ====
section
/-! DEFINITION. Which terms of Instr are commands of the table: lengths a frame can carry, kinds and codes that fit the row. -/

namespace Sys2Proof

open Sys2Proof.Machine

/-- A payload a LENGTH byte can announce (R3). -/
def payloadFits (payload : List Byte) : Bool := decide (payload.length ≤ Config.maxLength)

/-- Argument bytes that fit behind a command code (11 section 11.5). -/
def argsFit (args : List Byte) : Bool := decide (args.length < Config.maxLength)

/-- A payload that names none of the twelve commands (R172, R189). -/
def unknownCommand (payload : List Byte) : Bool :=
  match payload with
  | [] => true
  | code :: _ => (Cmd.ofByte code).isNone

/-- No key twice. -/
def keysOnce : List Key → Bool
  | [] => true
  | k :: rest => !rest.contains k && keysOnce rest

/-- A command of the table, with operands the row admits. -/
def Instr.wellFormed : Instr → Bool
  | .cueFrame _ pl => payloadFits pl
  | .poll _ pl => payloadFits pl
  | .query _ pl => payloadFits pl
  | .load _ pl => payloadFits pl
  | .remoteFrame _ pl => payloadFits pl
  | .assign _ pl => payloadFits pl
  | .unknownKind _ kind pl => payloadFits pl && (FrameKind.ofByte kind).isNone
  | .brokenByte => true
  | .frameEndedEarly => true
  | .lengthAbove32 _ _ length _ => decide (Config.maxLength < length.toNat)
  | .strayByteRun _ bytes => !bytes.isEmpty
  | .originatedFrameStart _ => true
  | .delayBufferSend _ => true
  | .loopSilenceExpiry => true
  | .step _ args => argsFit args
  | .hold _ args => argsFit args
  | .resume _ args => argsFit args
  | .commit _ args => argsFit args
  | .configSet _ args => argsFit args
  | .configClose _ args => argsFit args
  | .standby _ args => argsFit args
  | .wake _ args => argsFit args
  | .ack _ args => argsFit args
  | .attnSet _ args => argsFit args
  | .clearCounters _ args => argsFit args
  | .reset _ args => argsFit args
  | .loopReset _ => true
  | .powerOn _ _ => true
  | .pinResetAssert => true
  | .pinReset _ _ => true
  | .showTick => true
  | .scheduledRecordDue => true
  | .mirrorComplete => true
  | .trayCodeChange _ => true
  | .moveStart => true
  | .darkWaitTimeout => true
  | .closePhaseEnd _ => true
  | .camMid => true
  | .liftTimeout => true
  | .indexPulse => true
  | .indexTimeout => true
  | .homingPassLimit => true
  | .homeMark => true
  | .camHome => true
  | .dropTimeout => true
  | .settleEnd => true
  | .lampTick _ => true
  | .lampRampEnd _ => true
  | .lampFailed => true
  | .coolingTick _ => true
  | .fanTachPulse => true
  | .tachGateEnd => true
  | .spinUpElapsed => true
  | .cutoutChange _ => true
  | .cassetteChange _ => true
  | .brakeTimerExpiry => true
  | .reelPulse => true
  | .reelSilenceExpiry => true
  | .decoderGateOpen => true
  | .soundTick => true
  | .soundRampEnd => true
  | .tapeWord _ _ _ => true
  | .candidateExpiry => true
  | .guardExpiry => true
  | .burstEnd => true
  | .burstLimit => true
  | .spentEnd => true
  | .keyPress _ => true
  | .keyRelease _ => true
  | .focusRunLimit => true
  | .configWindowExpiry => true
  | .standbyCondition => true
  | .mainsWarnAssert => true
  | .retainedWriteEnd => true
  | .mainsWarnDeassert => true
  | .brownoutRestart _ _ => true
  | .cueTrackSample _ => true
  | .cueTrackPeriod _ => true
  | .keyScan _ order => keysOnce order
  | .supplyFall => true
  | .unknownCommandCode _ pl => payloadFits pl && unknownCommand pl

end Sys2Proof
end

