-- ==== Sys2Proof/Safety.lean ====
section
/-! DEFINITION. What a safe state is: the device's laws as the chapters state them, and the bounds of the stored quantities. -/

namespace Sys2Proof.Machine

/-- What of a state no frame changes by its passing alone: everything but the line's own state, which is what LOOP IN is
receiving, LOOP OUT, the loop position (R5) and the silence timer (R20). -/
def State.offLine (s : State) : State :=
  { s with
    loop := { s.loop with rx := .quiet, inIdle := 0, bits := 0, space := 0, position := 0#8, silence := .stopped }
    out := .atPowerOn }

/-! ### Frames on a free line -/

/-- A frame comes whole in one command, on a running part whose lines are free: LOOP IN carries nothing, LOOP OUT holds no
originated frame and no delayed byte, at most the last byte of an earlier frame is still on it, and at least two byte times of
idle go before the frame (R2). -/
def ArrivesWhole (f : Frame) (payload : List Byte) (s : State) : Prop :=
  s.power = .running ∧ s.loop.rx = .quiet ∧ s.loop.bits = 0 ∧ s.out.originating = [] ∧ s.out.buffer = [] ∧ s.out.left ≤ 10 ∧
  f.skip = 0 ∧ f.take = none ∧ f.bits = 0 ∧ 20 ≤ f.gap ∧ payload.length ≤ Config.maxLength

/-- The frame's check is good (R6). -/
abbrev CheckGood (f : Frame) (k : FrameKind) (payload : List Byte) : Prop := f.check = goodCheck f k.code payload

/-- The bytes of a frame as a station sends them, up to its CHECK: HOP one more, the payload as given, the outgoing check of
what is sent (R4, R5, R6). -/
def sentBytes (f : Frame) (k : FrameKind) (payload : List Byte) : List Byte :=
  let covered := [k.code, f.target, f.origin, nextHop f.hop, byteOf payload.length] ++ payload
  [Config.sync] ++ covered ++ [crc covered]

/-- The frame's TARGET is the station's own nonzero number (R10). -/
def ownTarget (f : Frame) (s : State) : Bool := stationNumber s != 0 && f.target.toNat == stationNumber s

/-- The frame's ORIGIN is the station's own nonzero number (R14). -/
def ownOrigin (f : Frame) (s : State) : Bool := stationNumber s != 0 && f.origin.toNat == stationNumber s

/-- The trailer as sent: the RESULT and its complement, or as received (R10). -/
def sentTrailer (f : Frame) (r : Option Result) : List Byte :=
  match r with
  | some x => [x.code, ~~~x.code]
  | none => [f.result, f.resultComplement]

/-- The row of a command. -/
def commandInstr (c : Cmd) (f : Frame) (args : List Byte) : Instr :=
  match c with
  | .step => .step f args
  | .hold => .hold f args
  | .resume => .resume f args
  | .commit => .commit f args
  | .configSet => .configSet f args
  | .configClose => .configClose f args
  | .standby => .standby f args
  | .wake => .wake f args
  | .ack => .ack f args
  | .attnSet => .attnSet f args
  | .clearCounters => .clearCounters f args
  | .reset => .reset f args

/-- The row of a frame kind that is no COMMAND; a COMMAND frame with the payload as it is. -/
def frameInstr (k : FrameKind) (f : Frame) (payload : List Byte) : Instr :=
  match k with
  | .cue => .cueFrame f payload
  | .poll => .poll f payload
  | .query => .query f payload
  | .command => .unknownCommandCode f payload
  | .load => .load f payload
  | .remote => .remoteFrame f payload
  | .assign => .assign f payload

/-- A command arrives whole with a good check and is addressed to the station (R7, R12). -/
def Addressed (c : Cmd) (f : Frame) (args : List Byte) (s : State) : Prop :=
  ArrivesWhole f (c.code :: args) s ∧ CheckGood f .command (c.code :: args) ∧
  matchesTarget s f.target.toNat = true

/-- The trailer a command's RESULT gives (R10). -/
def resultTrailer (f : Frame) (r : Result) (s : State) : List Byte :=
  sentTrailer f (if ownTarget f s then some r else none)

/-- A direct STEP of these bytes is answered ACCEPTED, and what it leaves is, off the line, what `t` holds (R43). -/
def StepLeads (f : Frame) (verb a b : Byte) (s t : State) : Prop :=
  ∃ u, exec (.step f [verb, a, b]) s = .next u ∧
    u.out.sent = sentBytes f .command [1#8, verb, a, b] ++ resultTrailer f .accepted s ∧ u.offLine = t.offLine

/-- An event leaves `t`; in COOLING_DOWN it leaves what a test of the standby condition makes of `t` (R168). -/
def EventLeaves (c : Instr) (s t : State) : Prop :=
  ∃ u, exec c s = .next u ∧ exec .standbyCondition t = .next u ∧ (s.stn.state ≠ .coolingDown → u = t)

/-! ### Queries -/

/-- A byte and a two-byte field of a record, by their offset (11 section 11.6). -/
def byteAt (r : List Byte) (i : Nat) : Nat := (r.getD i 0#8).toNat
def wordAt (r : List Byte) (i : Nat) : Nat := word16 (r.getD i 0#8) (r.getD (i + 1) 0#8)

/-- A mark with its weight in a flags byte. -/
def weight (w : Nat) (m : Bool) : Nat := if m then w else 0

/-- A QUERY of this payload goes unanswered (R185, R186): its RECORD code is unknown, its SELECT fields are missing or out of range, or
its reply area is empty. -/
def queryUnanswered (p : List Byte) : Bool :=
  let record := byteAt p 0
  let start := wordAt p 3
  if record = 5 then
    decide (p.length ≤ 5 ∨ 1 < byteAt p 1 ∨
      ¬((byteAt p 2 = 1 ∧ 1 ≤ start ∧ start ≤ 239) ∨ (byteAt p 2 = 2 ∧ start ≤ 479) ∨ (byteAt p 2 = 3 ∧ start ≤ 16)))
  else
    decide (record = 0 ∨ 5 < record ∨ p.length ≤ 2 ∨
      (if record = 1 then 37 else if record = 2 then 17 else if record = 3 then 18 else 40) ≤ byteAt p 1)

/-! ### Resets -/

/-- The state a reset leaves, whatever its kind, with no mains warning and the given reading of CASSETTE: R22, R50, R77, R83, R102,
R121, R139, R152, R154, R160, R174, R184; the idle counts, the bytes sent and the sound ramp's fields are the model's (logs 4, 5,
7), and so is LOOP IN at the mark level with no byte partly received (log 37). -/
def LeftByReset (kind : ResetKind) (cassette : Bool) (s t : State) : Prop :=
  t.power = .running ∧
  t.loop = { LoopPort.atPowerOn with assigned := if kind = .loop then s.loop.assigned else none } ∧
  t.out = .atPowerOn ∧ t.disp.mirrorBusy = false ∧ t.disp.deferred = false ∧ t.disp.schedule = [] ∧
  t.disp.lastCue = 0 ∧ t.disp.lastSource = .none ∧
  t.tray.queue = [] ∧ t.tray.darkTimer = false ∧ t.tray.demand = .opened ∧
  t.lamp.state = .off ∧ t.lamp.p = 0 ∧ t.lamp.drive = 0 ∧ t.lamp.slewMem = 0 ∧ t.lamp.failCount = 0 ∧
  t.lamp.energy = 0 ∧ t.lamp.ticks = 0 ∧ t.lamp.lastTarget = none ∧ t.lamp.ramp = ⟨0, 0, 0, 0, .direct, false⟩ ∧
  t.cool.gateCount = 0 ∧ t.cool.lastTach = 0 ∧ t.cool.fanStall = false ∧ t.cool.ceiling = 1023 ∧
  t.cool.derateArmed = true ∧
  t.deck.gateOpen = false ∧ t.deck.gateTimer = false ∧ t.deck.ramp = ⟨0, 0, 0, 0, .direct, false⟩ ∧
  t.deck.state = (if t.stn.strapDeck = true ∧ cassette = true then .stopped else .noCassette) ∧
  t.dec = ⟨.closed, false, none, 0#8, false, 0, 0, none, none⟩ ∧
  t.remote = ⟨Vector.replicate 6 ⟨true, 0, true, false⟩, .stopped⟩ ∧
  t.stn.state = .configuring ∧ t.stn.showState = .none ∧ t.stn.lock = false ∧ t.stn.window = .running ∧
  t.attn.held = none ∧ t.attn.prov = none ∧ (∀ k, t.attn.counter k = 0) ∧
  (t.attn.get .restarted).flag = true ∧ (t.attn.get .restarted).again = false ∧
  (t.attn.get .restarted).detail = kind.code * 256 + (if t.stn.valid then 1 else 0) ∧
  (∀ c, c ≠ .restarted → c ≠ .thermalTrip → c ≠ .cutoutOpen → (t.attn.get c).flag = false) ∧
  (t.attn.get .thermalTrip).flag = t.cool.thermal ∧ (t.attn.get .cutoutOpen).flag = t.cool.cutout

/-! ### Dispatcher -/

/-- A record holds a step that is not null, its arguments clamped and one byte each (R25, R26, R39). -/
def Record.sound (r : Record) : Prop :=
  nullStep r.verb r.a = false ∧ clampArg r.verb r.a = r.a ∧ r.a ≤ 255 ∧ r.b ≤ 255 ∧ r.remaining ≤ 255

/-- The device's law for the list (R44): at most 32 records, ordered by remaining time. -/
def ScheduleLaw (s : State) : Prop :=
  s.disp.schedule.length ≤ Config.scheduleCapacity ∧
  s.disp.schedule.Pairwise (fun x y => x.remaining ≤ y.remaining) ∧
  ∀ r ∈ s.disp.schedule, r.sound

/-- The record with which a cue's step enters the list: its delay as the remaining time, 1 for a FOLLOW without one, its arguments
clamped (R25, R39, R40, R44). -/
def entryRecord (cue : Nat) (v : Verb) (p : PoolStep) : Record :=
  ⟨if v = .follow ∧ p.delay = 0#8 then 1 else p.delay.toNat, v, clampArg v p.a.toNat, p.b.toNat, cue⟩

/-- One step of a cue that arrives while RUNNING: passed over if null, routed at once if its delay is 0 and it is no FOLLOW, else
entered in the list (R39, R26). -/
def takenRunning (cue : Nat) (s : State) (p : PoolStep) : State :=
  match Verb.ofCode p.verb.toNat with
  | none => s
  | some v =>
    if nullStep v p.a.toNat = true then s
    else if p.delay = 0#8 ∧ v ≠ .follow then routeStep ⟨v, clampArg v p.a.toNat, p.b.toNat⟩ .ofShow s
    else schedule (entryRecord cue v p) s

/-- One step of a cue that arrives while HELD: passed over if null, else entered in the list (R40, R26). -/
def takenHeld (cue : Nat) (s : State) (p : PoolStep) : State :=
  match Verb.ofCode p.verb.toNat with
  | none => s
  | some v => if nullStep v p.a.toNat = true then s else schedule (entryRecord cue v p) s

/-- Records routed one by one from the head, as steps of the show (R46, R48, R42). -/
def routedAll (ds : List Record) (s : State) : State :=
  ds.foldl (fun s r => routeStep ⟨r.verb, r.a, r.b⟩ .ofShow s) s

/-- The state with these records left in the list, each a tenth nearer (R46). -/
def tickedTo (rest : List Record) (s : State) : State :=
  { s with disp := { s.disp with schedule := rest.map fun r => { r with remaining := r.remaining - 1 } } }

/-! ### LOAD -/

/-- Entry `i` of a LOAD of two-byte entries (R27). -/
def loadField (payload : List Byte) (i : Nat) : Nat :=
  word16 (payload.getD (4 + 2 * i) 0#8) (payload.getD (5 + 2 * i) 0#8)

/-- START and COUNT of a LOAD (R27). -/
def loadStart (payload : List Byte) : Nat := word16 (payload.getD 1 0#8) (payload.getD 2 0#8)
def loadCount (payload : List Byte) : Nat := (payload.getD 3 0#8).toNat

/-- No part of R28's second condition holds of a LOAD's payload: table, LENGTH, COUNT, addresses and entries are in order. -/
def loadInRange (payload : List Byte) : Bool :=
  let table := payload.getD 0 0#8
  let start := loadStart payload
  let n := loadCount payload
  decide (4 ≤ payload.length) && n != 0 &&
    (if table = 1#8 then
      payload.length == 4 + 2 * n && decide (1 ≤ start ∧ start + n ≤ 240) &&
        (List.range n).all fun i =>
          decide (loadField payload i % 512 ≤ 479 ∧ loadField payload i % 512 + loadField payload i / 8192 ≤ 480)
    else if table = 2#8 then payload.length == 4 + 4 * n && decide (start + n ≤ 480)
    else if table = 3#8 then
      payload.length == 4 + 2 * n && decide (start + n ≤ 17) &&
        (List.range n).all fun i => decide (loadField payload i ≤ 1023)
    else false)

/-! ### Transport -/

/-- The device's law for the tray record (R52): INVALID exactly when no tray is fitted; otherwise the slot lies on the tray;
NO_TRAY exactly when no tray is fitted (R54). A valid retained record makes sense (R176), so that R76 keeps this law. -/
def TrayLaw (s : State) : Prop :=
  (s.tray.certainty = .invalid ↔ s.tray.size = .none) ∧
  (s.tray.state = .noTray ↔ s.tray.size = .none) ∧
  (if s.tray.size = .none then s.tray.slot = 0 else s.tray.slot < s.tray.size.slots) ∧
  (s.stn.valid = true → fieldsMakeSense s.stn.readRecord = true)

/-- A move is a STEP. -/
def Move.isStep (m : Move) : Bool :=
  match m.kind with
  | .step _ => true
  | .goto _ => false
  | .home => false

/-- The device's law for the move queue (R57): never more than 2 records, never two adjacent STEP records, at most one GOTO or
HOME, which is then the oldest. -/
def QueueLaw (s : State) : Prop :=
  match s.tray.queue with
  | [] => True
  | [_] => True
  | [m, n] => m.isStep = false ∧ n.isStep = true
  | _ => False

/-- An offered move is taken into the queue as `t` holds it, and its head then starts if it may (R56 to R58); in a cycle none starts. -/
def OfferTaken (k : MoveKind) (dark : Bool) (o : Origin) (s t : State) : Prop :=
  exec .moveStart t = .next (offerMove k dark o s) ∧ (s.tray.inCycle = true → offerMove k dark o s = t)

/-- The dark-wait timer runs for a queue's new head (R59; log 30). -/
def headWaits (queue : List Move) : Bool :=
  match queue with
  | m :: _ => m.afterDark && !m.waitOver
  | [] => false

/-- A cycle record stands exactly while a cycle runs (chapter 3.5); a drop kept by a loop reset is a DROP (R78); after a
power-on the Transport is in NO_TRAY until the code has settled (R51). -/
def CycleLaw (s : State) : Prop :=
  (s.tray.cycle.isSome = true ↔ s.tray.inCycle = true) ∧ (s.tray.keptDrop = true → s.tray.state = .cycle .drop) ∧
  (s.tray.settling = .afterPowerOn → s.tray.state = .noTray)

/-! ### Lamp and cooling -/

/-- The ramp's values lie in the range of what it moves, and it does not outrun its length (R83, R86, R135). -/
def Ramp.within (r : Ramp) (top : Nat) : Prop :=
  r.start ≤ top ∧ r.target ≤ top ∧ r.count ≤ r.length ∧
  (r.running = true → r.isStep = true ∨ r.count < r.length)

/-- The device's law for the brightness position (R86), with what it rests on. -/
def PositionLaw (s : State) : Prop :=
  s.lamp.p ≤ Config.fullPosition ∧ s.lamp.ramp.within Config.fullPosition ∧ s.lamp.recall ≤ Config.fullPosition

/-- The device's law for the drive output (R90): it never exceeds K, and it is 0 in OFF, TRIPPED and FAILED; the slew memory is
the last drive output; out of use the position is 0 and no ramp runs (R79, R83). -/
def DriveLaw (s : State) : Prop :=
  s.lamp.drive ≤ s.cool.ceiling ∧ s.lamp.slewMem = s.lamp.drive ∧
  (s.lamp.burning = false →
    s.lamp.drive = 0 ∧ s.lamp.p = 0 ∧ s.lamp.failCount = 0 ∧ s.lamp.ramp.running = false)

/-- The device's law for trips (R95), and TRIPPED only while some cause is active. -/
def TripsLaw (s : State) : Prop :=
  (s.cool.tripped = true → s.lamp.burning = false ∧ s.cool.fanStage = 3) ∧
  (s.lamp.state = .tripped → s.cool.tripped = true)

/-- The fan half of the device's law for cooling down (R117), and R118 for COOLING_DOWN. -/
def FanLaw (s : State) : Prop :=
  (s.lamp.burning = true → 1 ≤ s.cool.fanStage) ∧ (s.stn.state = .coolingDown → 1 ≤ s.cool.fanStage)

/-- The device's law for the heat estimate and ceiling (R115), the ranges of the stages and counts (R106, R107, R109) and of W
(R170). -/
def HeatLaw (s : State) : Prop :=
  s.stn.items.preheat ≤ 255 ∧
  s.cool.heat ≤ Config.top16 ∧ s.cool.ceiling ≤ Config.fullDrive ∧ s.cool.heatStage ≤ 3 ∧ s.cool.fanStage ≤ 3 ∧
  s.cool.gateCount ≤ 255 ∧ s.cool.lastTach ≤ 255

/-! ### Deck and decoder -/

/-- The deck's quantities in their ranges (R129, R134, R135); no deck, no cassette (R123); the decoder gate is open, and its timer
runs, only in PLAYING (R133), and the decoder is out of CLOSED exactly while it is open, in the mode configured (R140). -/
def DeckLaw (s : State) : Prop :=
  s.deck.counter ≤ Config.top16 ∧ s.deck.volume ≤ 31 ∧ s.deck.ramp.within 31 ∧
  (s.stn.strapDeck = false → s.deck.state = .noCassette) ∧
  (s.deck.gateOpen = true → s.deck.state = .playing) ∧ (s.deck.gateTimer = true → s.deck.state = .playing) ∧
  (s.dec.state ≠ .closed ↔ s.deck.gateOpen = true)

/-- The deck state that "brake to" a mode leads to (R125, R126). -/
def brakedTo (m : Pending) : DeckState → DeckState
  | .noCassette => .noCassette
  | .stopped => .braking m .still
  | .braking _ coast => .braking m coast
  | .playing => .braking m .forward
  | .paused _ => .braking m .still
  | .windingFwd => .braking m .forward
  | .windingRev _ => .braking m .backward

/-- The table of R126 over the states that hold a cassette: the deck state after a mode command; none for "nothing". -/
def modeTable : TapeMode → DeckState → Option DeckState
  | .stop, .stopped => none
  | .stop, d => some (brakedTo .stopped d)
  | .play, .playing => none
  | .play, .paused _ => some .playing
  | .play, d => some (brakedTo .playing d)
  | .rewind, .windingRev _ => some (.windingRev false)
  | .rewind, d => some (brakedTo (.windingRev false) d)
  | .windFwd, .windingFwd => none
  | .windFwd, d => some (brakedTo .windingFwd d)
  | .pause, .playing => some (.paused false)
  | _, _ => none

/-- The table of R127 for REW_TO_ZERO with the counter above 0. -/
def rewToZeroTable : DeckState → DeckState
  | .windingRev _ => .windingRev true
  | d => brakedTo (.windingRev true) d

/-- The deck in a new state, its decoder gate and the gate's timer as R133 has them. -/
def inDeckState (d : DeckState) (s : State) : State :=
  { s with
    deck := { s.deck with state := d, gateOpen := false, gateTimer := decide (d = .playing) }
    dec := if s.deck.gateOpen then s.dec.closeGate else s.dec }

/-- A HOLD taken in RUNNING: the show is HELD, a deck that plays pauses with the hold mark, and one that brakes toward PLAYING
brakes toward that pause instead (R166, R132). -/
def afterHold (s : State) : State :=
  let h := { s with stn := { s.stn with showState := .held } }
  match s.deck.state with
  | .playing => inDeckState (.paused true) h
  | .braking .playing coast => { h with deck := { s.deck with state := .braking .pausedHold coast } }
  | _ => h

/-- A RESUME taken in HELD, but for the records it routes: the show runs, and a deck held or braking toward the hold's pause goes
back to PLAYING (R166, R132). -/
def afterResume (s : State) : State :=
  let h := { s with stn := { s.stn with showState := .running } }
  match s.deck.state with
  | .paused true => inDeckState .playing h
  | .braking .pausedHold coast => { h with deck := { s.deck with state := .braking .playing coast } }
  | _ => h

/-- The deck brakes (R125). -/
def DeckState.isBraking : DeckState → Bool
  | .braking _ _ => true
  | .noCassette => false | .stopped => false | .playing => false | .paused _ => false
  | .windingFwd => false | .windingRev _ => false

/-! ### Station -/

/-- The show state exists exactly in ACTIVE (R163); only CONFIGURING and ACTIVE burn the lamp (09 section 9.2); the list is
empty outside ACTIVE (R49); the window timer runs in CONFIGURING alone (R164); the loop-silence timer stands still outside
ACTIVE (R20). -/
def StationLaw (s : State) : Prop :=
  (s.stn.showState ≠ .none ↔ s.stn.state = .active) ∧
  (s.lamp.burning = true → s.stn.state = .configuring ∨ s.stn.state = .active) ∧
  (s.disp.schedule ≠ [] → s.stn.state = .active) ∧
  (s.stn.window ≠ .off → s.stn.state = .configuring) ∧
  (s.loop.silence ≠ .stopped → s.stn.state = .active)

/-- The configuration items meet every cross condition of R170. -/
def ItemsLaw (s : State) : Prop := s.stn.items.consistent = true

/-! ### Attention and loop -/

/-- The device's law for attention (R181): a held source's flag stays set; it is enabled too (R179). -/
def AttentionLaw (s : State) : Prop :=
  ∀ c, s.attn.held = some c → (s.attn.get c).flag = true ∧ (s.attn.get c).enable = true

/-- Every counter stays within its 16 bits (R187). -/
def CountersLaw (s : State) : Prop := ∀ k, s.attn.counter k ≤ Config.top16

/-- The capacities of the Loop Port (R15, R18), the range of its numbers (R19, R161), and one user of LOOP OUT at a time: an
originated frame goes out without a gap (R17), and a byte is delayed on an idle line only where the two byte times of idle before
its frame are not over (R18). -/
def LoopLaw (s : State) : Prop :=
  s.loop.origQueue.length ≤ Config.originationCapacity ∧ s.out.buffer.length ≤ Config.delayCapacity ∧
  s.out.originating.length ≤ 8 ∧ s.loop.inIdle ≤ 20 ∧ s.loop.bits ≤ 10 ∧ s.out.idle ≤ 20 ∧ s.out.left ≤ 10 ∧
  s.stn.strapStation ≤ 30 ∧
  s.loop.assigned ≠ some 0 ∧ s.loop.assigned.getD 0 ≤ 30 ∧ s.loop.provNumber ≠ some 0 ∧ s.loop.provNumber.getD 0 ≤ 30 ∧
  (s.out.left ≠ 0 → s.out.idle = 0) ∧ (s.out.originating ≠ [] → s.out.left ≠ 0) ∧
  (∀ d rest, s.out.buffer = d :: rest → s.out.left = 0 → d.first = true ∧ s.out.idle < 20)

/-- What a rewrite holds provisionally stands only while its frame is in passage: a hold in a POLL of the right length, a number
in an ASSIGN of the right length that is addressed to the station (R8, R19, R181). -/
def ProvisionalLaw (s : State) : Prop :=
  (s.attn.prov ≠ none → ∃ p, s.loop.rx = .frame p ∧ p.kind = some .poll ∧ p.length = 7 ∧ p.stripped = false) ∧
  (s.loop.provNumber ≠ none → ∃ p, s.loop.rx = .frame p ∧ p.kind = some .assign ∧ p.length = 1 ∧ p.stripped = false ∧
    matchesTarget s p.target.toNat = true)

end Sys2Proof.Machine
end

