-- ==== Sys2Proof/Certificates/Slice0/Obligations.lean ====
section
/-! DEFINITION. The statements for the provers. -/

open Sys2Proof Sys2Proof.Machine

/-! ### The queue and the supply -/

/-- Step takes the command at the front of the queue and runs exec on the rest; on an empty queue it idles (log 1). -/
def Obligations.StepTakesFrontCommand : Prop :=
  (∀ (c : Instr) (rest : List Instr) (s : State), s.pending = c :: rest →
    step s = exec c { s with pending := rest }) ∧
  (∀ s : State, s.pending = [] → step s = .next s)

/-- Every command answers a next state, whatever the state, and leaves the queue as it is (log 1). Held by its RESET pin or
without supply, the part takes nothing but a reset and the fall of the supply (R173; what comes without supply is the model's
choice, log 3). -/
def Obligations.EveryCommandAnswersNext : Prop :=
  ∀ (c : Instr) (s : State),
    (∃ t, exec c s = .next t ∧ t.pending = s.pending) ∧
    (s.power ≠ .running →
      match c with
      | .powerOn st r => exec c s = .next (powerOn st r s)
      | .pinReset st r => exec c s = .next (if s.power = .off then s else pinReset st r s)
      | .supplyFall => exec c s = .next { s with power := .off, stn := { s.stn with writing := none } }
      | _ => exec c s = .next s)

/-! ### Frames that pass -/

/-- R35, R12, R4, R5: a good CUE frame of the right length that is not stripped is repeated with HOP one more, and reaches the
Dispatcher if its group field is 255 or names a group of the set; a good REMOTE frame of the right length that is not stripped
is repeated and changes nothing here. -/
def Obligations.CueAndRemoteFramesPass : Prop :=
  (∀ (f : Frame) (group cue : Byte) (s : State),
    ArrivesWhole f [group, cue] s → CheckGood f .cue [group, cue] → ownOrigin f s = false →
    ∃ t, exec (.cueFrame f [group, cue]) s = .next t ∧ t.out.sent = sentBytes f .cue [group, cue] ∧
      t.offLine =
        (if group = 255#8 ∨ (group.toNat < 16 ∧ s.stn.items.groupSet.getLsbD group.toNat = true) then
          (cueArrival cue.toNat .loop s).offLine
        else s.offLine)) ∧
  (∀ (f : Frame) (key station : Byte) (s : State),
    ArrivesWhole f [key, station] s → CheckGood f .remote [key, station] → ownOrigin f s = false →
    ∃ t, exec (.remoteFrame f [key, station]) s = .next t ∧
      t.out.sent = sentBytes f .remote [key, station] ∧ t.offLine = s.offLine)

/-- R5, R20, R3: after a whole good frame of a known kind that is not stripped both lines are free again; the loop position is the
HOP of a frame of the show computer, taken at its CHECK (the model's reading, log 14); and the silence timer runs afresh where it
runs at all. (A COMMAND may start or stop the timer by what it does, so it is left out there.) A frame of an unknown kind restarts
the timer at a good CHECK, and sets no loop position (the model's reading, log 13). -/
def Obligations.GoodFrameLeavesLine : Prop :=
  (∀ (k : FrameKind) (f : Frame) (payload : List Byte) (s : State),
    ArrivesWhole f payload s → CheckGood f k payload → (k = .cue ∨ k = .remote → ownOrigin f s = false) →
    ∃ t, exec (frameInstr k f payload) s = .next t ∧
      t.loop.rx = .quiet ∧ t.out.originating = [] ∧ t.out.buffer = [] ∧
      t.loop.position = (if f.origin = 0#8 then f.hop else s.loop.position) ∧
      (k ≠ .command → t.loop.silence =
        if s.stn.state = .active ∧ s.stn.items.silenceTimeout ≠ 0 then .running else s.loop.silence)) ∧
  (∀ (f : Frame) (kind : Byte) (payload : List Byte) (s : State),
    ArrivesWhole f payload s → FrameKind.ofByte kind = none →
    ∃ t, exec (.unknownKind f kind payload) s = .next t ∧ t.loop.position = s.loop.position ∧
      t.loop.silence =
        if f.check = goodCheck f kind payload ∧ s.stn.state = .active ∧ s.stn.items.silenceTimeout ≠ 0 then .running
        else s.loop.silence)

/-- R13: a frame of a fixed kind with another LENGTH is repeated with nothing in its payload rewritten, is not acted on, and
counts one FRAMING_FAIL at its good check. -/
def Obligations.WrongFixedLengthCountsFramingFail : Prop :=
  ∀ (k : FrameKind) (n : Nat) (f : Frame) (payload : List Byte) (s : State),
    k.fixedLength = some n → payload.length ≠ n →
    ArrivesWhole f payload s → CheckGood f k payload → (k = .cue ∨ k = .remote → ownOrigin f s = false) →
    ∃ t, exec (frameInstr k f payload) s = .next t ∧
      t.out.sent = sentBytes f k payload ∧ t.offLine = (count .framingFail s).offLine

/-- R14: a CUE or REMOTE frame with the station's own number as ORIGIN is cut off after TARGET, is not acted on, and changes
nothing off the line, whatever its check; a good one restarts the silence timer. -/
def Obligations.OwnFrameStripped : Prop :=
  ∀ (k : FrameKind) (f : Frame) (payload : List Byte) (s : State),
    k = .cue ∨ k = .remote → ArrivesWhole f payload s → ownOrigin f s = true →
    ∃ t, exec (frameInstr k f payload) s = .next t ∧
      t.out.sent = [Config.sync, k.code, f.target] ∧ t.offLine = s.offLine ∧ t.loop.position = s.loop.position ∧
      t.loop.rx = .quiet ∧ t.out.buffer = [] ∧
      t.loop.silence =
        if CheckGood f k payload ∧ s.stn.state = .active ∧ s.stn.items.silenceTimeout ≠ 0 then .running else s.loop.silence

/-- R6, R8, the device's law for loop checks: a frame with a bad check is not acted on, whatever its kind; only CHECK_FAIL is
counted; and the bytes go out with HOP one more and the complement of the outgoing check, so that every later station finds the
check bad. A POLL, QUERY or ASSIGN goes out with the payload it has where the check is good, rewritten or not, and the complement is
that of the check over the bytes so sent; of a kind that is never rewritten the payload is as given. (For a QUERY the mirror is
still, so that no look at it is taken.) -/
def Obligations.BadCheckNotActedOn : Prop :=
  ∀ (k : FrameKind) (f : Frame) (payload : List Byte) (s : State),
    ArrivesWhole f payload s → ¬ CheckGood f k payload → (k = .cue ∨ k = .remote → ownOrigin f s = false) →
    ProvisionalLaw s → (k = .query → s.disp.mirrorBusy = false) →
    ∃ t, exec (frameInstr k f payload) s = .next t ∧ t.offLine = (count .checkFail s).offLine ∧
      t.loop.position = s.loop.position ∧ t.loop.silence = s.loop.silence ∧
      (k = .cue ∨ k = .remote ∨ k = .command ∨ k = .load → t.out.sent =
        (sentBytes f k payload).dropLast ++ [~~~((sentBytes f k payload).getLastD 0#8)] ++
          (if k.hasTrailer then sentTrailer f none else [])) ∧
      (let passed := (t.out.sent.drop 6).take payload.length
      passed.length = payload.length ∧
        t.out.sent = (sentBytes f k passed).dropLast ++ [~~~((sentBytes f k passed).getLastD 0#8)] ++
          (if k.hasTrailer then sentTrailer f none else []) ∧
        ∃ u, exec (frameInstr k { f with check := goodCheck f k.code payload } payload) s = .next u ∧
          u.out.sent.take (7 + payload.length) = sentBytes f k passed)

/-- R11: a frame of an unknown KIND crosses the station exactly as it was sent, HOP and CHECK as received, is not acted on, and
counts one UNKNOWN_KIND whatever its check; a LENGTH above 32 in it is a framing failure like any other. -/
def Obligations.UnknownKindRepeatedUnchanged : Prop :=
  (∀ (f : Frame) (kind : Byte) (payload : List Byte) (s : State),
    ArrivesWhole f payload s → FrameKind.ofByte kind = none →
    ∃ t, exec (.unknownKind f kind payload) s = .next t ∧
      t.out.sent = frameBytes f kind payload false ∧ t.offLine = (count .unknownKind s).offLine ∧ t.loop.rx = .quiet) ∧
  (∀ (f : Frame) (kind length : Byte) (following : List Byte) (s : State),
    ArrivesWhole f [] s → FrameKind.ofByte kind = none → 32 < length.toNat → ProvisionalLaw s →
    ∃ t, exec (.lengthAbove32 f kind length following) s = .next t ∧
      t.out.sent = [Config.sync, kind, f.target, f.origin, f.hop, length] ∧
      t.offLine = (count .framingFail s).offLine)

/-- R180, R181, R189, 11 section 11.3: a numbered station with a source to offer fills the empty slot of a good POLL and holds
the source it offered; a POLL whose slot is taken, whose MINLEVEL is no level, or for which the station has no number or nothing
to offer, passes unchanged, and the hold stays. -/
def Obligations.PollSlotFilledOrForwarded : Prop :=
  (∀ (f : Frame) (minLevel x1 x2 x3 x4 x5 : Byte) (c : Source) (s : State),
    ArrivesWhole f [minLevel, 0#8, x1, x2, x3, x4, x5] s →
    CheckGood f .poll [minLevel, 0#8, x1, x2, x3, x4, x5] →
    minLevel = 1#8 ∨ minLevel = 2#8 → stationNumber s ≠ 0 → ProvisionalLaw s →
    s.attn.offer (minLevel == 2#8) = some c →
    ∃ t, exec (.poll f [minLevel, 0#8, x1, x2, x3, x4, x5]) s = .next t ∧
      t.out.sent = sentBytes f .poll
        ([minLevel, byteOf (stationNumber s), byteOf c.code, bitAt 0 (s.attn.get c).high] ++
          bytes16 (s.attn.get c).detail ++ [bitAt 0 (s.attn.get c).again]) ∧
      t.offLine = { s with attn := { s.attn with held := some c } }.offLine) ∧
  (∀ (f : Frame) (minLevel station x1 x2 x3 x4 x5 : Byte) (s : State),
    ArrivesWhole f [minLevel, station, x1, x2, x3, x4, x5] s →
    CheckGood f .poll [minLevel, station, x1, x2, x3, x4, x5] → ProvisionalLaw s →
    (station ≠ 0#8 ∨ (minLevel ≠ 1#8 ∧ minLevel ≠ 2#8) ∨ stationNumber s = 0 ∨
      s.attn.offer (minLevel == 2#8) = none) →
    ∃ t, exec (.poll f [minLevel, station, x1, x2, x3, x4, x5]) s = .next t ∧
      t.out.sent = sentBytes f .poll [minLevel, station, x1, x2, x3, x4, x5] ∧ t.offLine = s.offLine)

/-- The POLL round of 10 section 10.2 in one station: a pending HIGH source goes before a held LOW one, a held source before
every other, and among pending ones the HIGH ones first (R180; the first row as its example has it, log 11). R181, R183: at a good
check the provisional hold becomes firm if its source is still flagged and enabled; a side-effect clear leaves a held source as it
is, acts as an ACK on any other, and ends its provisional hold, also where it is raised again before the check.
A hold that is dropped leaves the one that stood. -/
def Obligations.PollOfferOrder : Prop :=
  (∀ (a : Attn) (any : Bool),
    (∀ h, a.held = some h → (a.get h).high = true → a.offer any = some h) ∧
    (∀ h c, a.held = some h → (a.get h).high = false → a.firstHigh = some c → a.offer any = some c) ∧
    (∀ h, a.held = some h → (a.get h).high = false → a.firstHigh = none →
      a.offer any = if any then some h else none) ∧
    (∀ c, a.held = none → a.firstHigh = some c → a.offer any = some c) ∧
    (a.held = none → a.firstHigh = none → a.offer any = if any then a.firstPending else none) ∧
    (∀ c, a.firstHigh = some c → a.pending c = true ∧ (a.get c).high = true ∧
      ∀ d, a.pending d = true → (a.get d).high = true → c.code ≤ d.code) ∧
    (∀ c, a.firstPending = some c → a.pending c = true ∧ ∀ d, a.pending d = true → c.code ≤ d.code)) ∧
  (∀ (a : Attn) (c : Source) (detail : Nat),
    (a.prov = some c → a.firm.held =
      if (a.get c).flag = true ∧ (a.get c).enable = true then some c else a.held) ∧
    (a.prov = none → a.firm = a) ∧ a.firm.sources = a.sources ∧ a.drop.held = a.held ∧
    (a.held = some c → a.sideClear c = a) ∧
    (a.held ≠ some c →
      (a.sideClear c).get c = { a.get c with flag := false, again := false, detail := 0 } ∧
      (a.prov = some c → ((a.sideClear c).raise c detail).firm.held = a.held)) ∧
    (a.sideClear c).held = a.held ∧ (a.sideClear c).counters = a.counters ∧ ∀ d, d ≠ c → (a.sideClear c).get d = a.get d)

/-- R185: a good QUERY to the station's own number is answered in passing: the reply stands in the area behind the SELECT bytes,
what is left of the area goes on as received, and nothing of the station changes but for a look at a mirror in progress (log 6).
R12: a QUERY with another TARGET, 31 and the groups among them, is repeated unchanged but for its HOP and changes nothing. R186: so is
one with an unknown RECORD code, with SELECT fields missing or out of range, or with an empty reply area. -/
def Obligations.QueryAnsweredInPassing : Prop :=
  (∀ (f : Frame) (fields area : List Byte) (s : State),
    ArrivesWhole f (fields ++ area) s → CheckGood f .query (fields ++ area) → ownTarget f s = true →
    (selectBytes (fields.headD 0#8)).map (· + 1) = some fields.length →
    ∃ t, exec (.query f (fields ++ area)) s = .next t ∧
      t.out.sent = sentBytes f .query
        (fields ++ (answerQuery fields area.length s).1 ++ area.drop (answerQuery fields area.length s).1.length) ∧
      t.offLine = (answerQuery fields area.length s).2.offLine ∧
      (s.disp.mirrorBusy = false → t.offLine = s.offLine)) ∧
  (∀ (f : Frame) (payload : List Byte) (s : State),
    ArrivesWhole f payload s → CheckGood f .query payload → ownTarget f s = false →
    ∃ t, exec (.query f payload) s = .next t ∧ t.out.sent = sentBytes f .query payload ∧ t.offLine = s.offLine) ∧
  (∀ (f : Frame) (payload : List Byte) (s : State),
    ArrivesWhole f payload s → CheckGood f .query payload → queryUnanswered payload = true →
    ∃ t, exec (.query f payload) s = .next t ∧ t.out.sent = sentBytes f .query payload ∧ t.offLine = s.offLine)

/-- R185, R186: a record reply begins with OK and holds the record from the offset to its end where the area is long enough,
begins with TRUNCATED and fills the area where it is not, and is empty for an empty area or an offset past the record; the answer to a
QUERY of STATUS, ATTENTION, COUNTERS or CONFIG is such a reply of that record.
STATUS, ATTENTION, COUNTERS and CONFIG hold, at the offsets of 11 section 11.6, the fields listed there, in its codes (a number in
the byte or two bytes of its field), and have their lengths. R187: COUNTERS holds the nine counters in the order of its table.
A TABLE reply names bank, table and start and holds as many whole entries as fit, never past the table's last address: those of the live
or of the pending bank, as named, and of CURVE whichever bank is named; where no entry fits it is TRUNCATED, with a count of 0, as far
as the area reaches. A read of the PENDING bank during a mirror has each entry as one of the two banks holds it (how far the mirror has
come is a free value, log 6). -/
def Obligations.RecordReplyFillsArea : Prop :=
  (∀ (bytes : List Byte) (offset area : Nat), bytes.length ≤ offset ∨ area = 0 → recordReply bytes offset area = []) ∧
  (∀ (bytes : List Byte) (offset area : Nat), offset < bytes.length → bytes.length - offset < area →
    recordReply bytes offset area = 0x01#8 :: bytes.drop offset) ∧
  (∀ (bytes : List Byte) (offset area : Nat), offset < bytes.length → 0 < area → area ≤ bytes.length - offset →
    (recordReply bytes offset area).length = area ∧
    recordReply bytes offset area = 0x02#8 :: (bytes.drop offset).take (area - 1)) ∧
  (∀ (offset : Byte) (area : Nat) (s : State),
    (statusRecord s).length = 37 ∧ (attentionRecord s.attn).length = 17 ∧
    (countersRecord s.attn).length = 18 ∧ (configRecord s).length = 40 ∧
    answerQuery [1#8, offset] area s = (recordReply (statusRecord s) offset.toNat area, s) ∧
    answerQuery [2#8, offset] area s = (recordReply (attentionRecord s.attn) offset.toNat area, s) ∧
    answerQuery [3#8, offset] area s = (recordReply (countersRecord s.attn) offset.toNat area, s) ∧
    answerQuery [4#8, offset] area s = (recordReply (configRecord s) offset.toNat area, s)) ∧
  (∀ s : State,
    let r := statusRecord s
    byteAt r 0 = (match s.stn.state with
      | .configuring => 1 | .active => 2 | .coolingDown => 3 | .standby => 4 | .mainsLoss => 5) ∧
    byteAt r 1 = (match s.stn.showState with | .none => 0 | .running => 1 | .held => 2) ∧
    byteAt r 2 = stationNumber s % 256 ∧ byteAt r 3 = s.loop.position.toNat ∧
    (byteAt r 4, byteAt r 5) = (match s.tray.state with
      | .noTray => (1, 0) | .idle => (2, 0) | .jammed => (4, 0)
      | .cycle .close => (3, 1) | .cycle .lift => (3, 2) | .cycle .index => (3, 3) | .cycle .drop => (3, 4) | .cycle .settle => (3, 5)) ∧
    byteAt r 6 = (match s.tray.size with | .none => 0 | .slots84 => 84 | .slots120 => 120) ∧
    byteAt r 7 = s.tray.slot % 256 ∧
    byteAt r 8 = (match s.tray.certainty with | .invalid => 0 | .uncertain => 1 | .certain => 2) ∧
    byteAt r 9 = s.tray.queue.length % 256 ∧ byteAt r 10 = weight 1 (shutterClosed s) ∧
    byteAt r 11 = (match s.lamp.state with | .off => 0 | .warming => 1 | .lit => 2 | .tripped => 3 | .failed => 4) ∧
    wordAt r 12 = s.lamp.p % 65536 ∧ wordAt r 14 = s.lamp.ramp.target % 65536 ∧ wordAt r 16 = s.lamp.drive % 65536 ∧
    wordAt r 18 = s.cool.ceiling % 65536 ∧ wordAt r 20 = s.cool.heat % 65536 ∧
    byteAt r 22 = s.cool.fanStage % 256 ∧ byteAt r 23 = s.cool.lastTach % 256 ∧
    byteAt r 24 = weight 1 s.cool.thermal + weight 2 s.cool.fanStall + weight 4 s.cool.cutout ∧
    (byteAt r 25, byteAt r 26, byteAt r 27) = (match s.deck.state with
      | .noCassette => (0, 0, 0) | .stopped => (1, 0, 0) | .playing => (3, 0, 0) | .windingFwd => (5, 0, 0)
      | .paused hold => (4, 0, weight 1 hold) | .windingRev toZero => (6, 0, weight 2 toZero)
      | .braking .stopped _ => (2, 1, 0) | .braking .playing _ => (2, 3, 0) | .braking .windingFwd _ => (2, 5, 0)
      | .braking .pausedHold _ => (2, 4, 1) | .braking (.windingRev toZero) _ => (2, 6, weight 2 toZero)) ∧
    wordAt r 28 = s.deck.counter % 65536 ∧ byteAt r 30 = s.deck.volume % 256 ∧
    byteAt r 31 = s.disp.schedule.length % 256 ∧ byteAt r 32 = s.disp.lastCue % 256 ∧
    byteAt r 33 = (match s.disp.lastSource with | .none => 0 | .loop => 1 | .tape => 2 | .follow => 3) ∧
    byteAt r 34 = (match s.disp.live with | .a => 0 | .b => 1) ∧ byteAt r 35 = weight 1 s.disp.mirrorBusy ∧
    byteAt r 36 = (match s.attn.held with | some c => c.code | none => 0)) ∧
  (∀ (c : Source) (k : Counter) (s : State),
    byteAt (attentionRecord s.attn) (c.code - 1) = weight 1 (s.attn.get c).flag + weight 2 (s.attn.get c).again +
      weight 4 (s.attn.get c).enable + weight 8 (s.attn.get c).high ∧
    byteAt (attentionRecord s.attn) 16 = (match s.attn.held with | some c => c.code | none => 0) ∧
    wordAt (countersRecord s.attn) (match k with
      | .checkFail => 0 | .framingFail => 2 | .unknownKind => 4 | .cuesIgnored => 6 | .cuesNotMine => 8 | .tapeWordError => 10
      | .tapeUnconfirmed => 12 | .originationDrops => 14 | .notApplicable => 16) = s.attn.counter k % 65536) ∧
  (∀ s : State,
    let r := configRecord s
    let x := s.stn.items
    byteAt r 0 = s.stn.strapStation % 256 ∧ byteAt r 1 = weight 1 s.stn.strapDeck + weight 2 s.stn.strapMaster ∧
    wordAt r 2 = x.groupSet.toNat ∧ byteAt r 4 = (match x.remotePolicy with | .localKeys => 0 | .relay => 1 | .off => 2) ∧
    byteAt r 5 = x.silenceTimeout % 256 ∧
    byteAt r 6 = (match x.silencePolicy with | .none => 0 | .hold => 1 | .dark => 2 | .holdDark => 3) ∧
    byteAt r 7 = (match x.tapeCueMode with | .word => 0 | .pulse => 1) ∧ byteAt r 8 = x.preheat % 256 ∧
    wordAt r 9 = x.slew % 65536 ∧ byteAt r 11 = x.heatGain % 256 ∧
    [12, 14, 16, 18, 20, 22, 24, 26].map (wordAt r) =
      [x.heatWarn, x.heatMax, x.heatResume, x.heatCool, x.up1, x.up2, x.up3, x.hysteresis].map (· % 65536) ∧
    [28, 29, 30, 31, 32, 33, 34, 35, 36, 37, 38].map (byteAt r) =
      [x.duty0, x.duty1, x.duty2, x.duty3, x.loss0, x.loss1, x.loss2, x.loss3, x.tach1, x.tach2, x.tach3].map (· % 256) ∧
    byteAt r 39 = weight 1 s.stn.lock) ∧
  (∀ (bank table hi lo : Byte) (area : Nat) (s : State), bank.toNat ≤ 1 →
    let start := word16 hi lo
    let entry := fun (b : Bank) (a : Nat) =>
      if table = 1#8 then bytes16 ((b.entry a).count * 8192 + (b.entry a).first)
      else if table = 2#8 then [(b.step a).verb, (b.step a).a, (b.step a).b, (b.step a).delay]
      else bytes16 (curvePoint s.lamp.curve a)
    let width := if table = 2#8 then 4 else 2
    let past := if table = 1#8 then 240 else if table = 2#8 then 480 else 17
    let n := min ((area - 6) / width) (past - start)
    let reply := (answerQuery [5#8, bank, table, hi, lo] area s).1
    (table = 1#8 ∧ 1 ≤ start) ∨ table = 2#8 ∨ table = 3#8 → start < past →
      (6 + width ≤ area →
        reply.take 6 = [1#8, bank, table, hi, lo, byteOf n] ∧ reply.length = 6 + width * n ∧
        (bank = 0#8 ∨ table = 3#8 ∨ s.disp.mirrorBusy = false →
          reply.drop 6 = (List.range n).flatMap fun i =>
            entry (if bank = 0#8 then s.disp.liveBank else s.disp.pendingBank) (start + i)) ∧
        (∀ i, i < n → (reply.drop (6 + width * i)).take width = entry s.disp.liveBank (start + i) ∨
          (reply.drop (6 + width * i)).take width = entry s.disp.pendingBank (start + i))) ∧
      (area < 6 + width → reply = [2#8, bank, table, hi, lo, 0#8].take area))

/-- R19: an eligible station puts NEXT + 1 in its place and takes NEXT as its number at the good check; a station that is not
eligible, or a NEXT outside 1..30, passes the frame and takes no number. -/
def Obligations.AssignNumbersStation : Prop :=
  (∀ (f : Frame) (next : Byte) (s : State),
    ArrivesWhole f [next] s → CheckGood f .assign [next] → s.stn.state = .configuring → s.stn.strapStation = 0 →
    stationNumber s = 0 → matchesTarget s f.target.toNat = true → 1 ≤ next.toNat → next.toNat ≤ 30 →
    ∃ t, exec (.assign f [next]) s = .next t ∧
      t.out.sent = sentBytes f .assign [next + 1#8] ∧ stationNumber t = next.toNat ∧
      t.offLine = { noticeConfig s with
        loop := { s.loop with assigned := some next.toNat, provNumber := none } }.offLine) ∧
  (∀ (f : Frame) (next : Byte) (s : State),
    ArrivesWhole f [next] s → CheckGood f .assign [next] → ProvisionalLaw s →
    (s.stn.state ≠ .configuring ∨ s.stn.strapStation ≠ 0 ∨ stationNumber s ≠ 0 ∨
      matchesTarget s f.target.toNat = false ∨ next.toNat = 0 ∨ 30 < next.toNat) →
    ∃ t, exec (.assign f [next]) s = .next t ∧ t.out.sent = sentBytes f .assign [next] ∧
      t.offLine = (if matchesTarget s f.target.toNat then noticeConfig s else s).offLine)

/-- R27, R28, R29, R10, R24: a good LOAD addressed to the station is judged, its entries are written if it is ACCEPTED, and its RESULT
goes into the trailer of the single target. Judging it writes the pending bank or the curve, and the live bank in no case; it
writes nothing unless it is ACCEPTED. Its RESULT is that of the first condition of R28 that holds, and ACCEPTED where none does; an
accepted one writes every entry at its address and nothing else (R27). -/
def Obligations.LoadFrameJudged : Prop :=
  (∀ (f : Frame) (payload : List Byte) (s : State),
    ArrivesWhole f payload s → CheckGood f .load payload → matchesTarget s f.target.toNat = true →
    ∃ t, exec (.load f payload) s = .next t ∧
      t.offLine = (judgeLoad payload (noticeConfig s)).1.offLine ∧
      t.out.sent = sentBytes f .load payload ++ resultTrailer f (judgeLoad payload (noticeConfig s)).2 s) ∧
  (∀ (payload : List Byte) (s : State),
    (judgeLoad payload s).1.disp.liveBank = s.disp.liveBank ∧ (judgeLoad payload s).1.disp.live = s.disp.live ∧
    ((judgeLoad payload s).2 ≠ .accepted → (judgeLoad payload s).1 = s) ∧
    ((judgeLoad payload s).2 = .accepted →
      (s.stn.state = .configuring ∨ s.stn.state = .active) ∧ s.disp.mirrorBusy = false ∧
      ∃ e, parseLoad payload = some e ∧ (judgeLoad payload s).1 = writeLoad e s)) ∧
  (∀ (payload : List Byte) (s : State),
    (judgeLoad payload s).2 =
      (if s.stn.state ≠ .configuring ∧ s.stn.state ≠ .active then .refusedState
      else if loadInRange payload = false then .refusedRange
      else if payload.getD 0 0#8 = 3#8 ∧ s.stn.state ≠ .configuring then .refusedLocked
      else if s.disp.mirrorBusy = true then .refusedBusy
      else .accepted)) ∧
  (∀ (payload : List Byte) (s t : State), judgeLoad payload s = (t, .accepted) →
    (payload.getD 0 0#8 = 1#8 →
      t = { s with disp := s.disp.setPending t.disp.pendingBank } ∧ t.disp.pendingBank.pool = s.disp.pendingBank.pool ∧
      ∀ cue, cue < 240 → t.disp.pendingBank.entry cue =
        if loadStart payload ≤ cue ∧ cue < loadStart payload + loadCount payload then
          ⟨loadField payload (cue - loadStart payload) % 512, loadField payload (cue - loadStart payload) / 8192⟩
        else s.disp.pendingBank.entry cue) ∧
    (payload.getD 0 0#8 = 2#8 →
      t = { s with disp := s.disp.setPending t.disp.pendingBank } ∧ t.disp.pendingBank.index = s.disp.pendingBank.index ∧
      ∀ pos, pos < 480 → t.disp.pendingBank.step pos =
        if loadStart payload ≤ pos ∧ pos < loadStart payload + loadCount payload then
          let at4 := fun i => payload.getD (4 + 4 * (pos - loadStart payload) + i) 0#8
          ⟨at4 0, at4 1, at4 2, at4 3⟩
        else s.disp.pendingBank.step pos) ∧
    (payload.getD 0 0#8 = 3#8 →
      t = { s with lamp := { s.lamp with curve := t.lamp.curve } } ∧
      ∀ p, p < 17 → curvePoint t.lamp.curve p =
        if loadStart payload ≤ p ∧ p < loadStart payload + loadCount payload then loadField payload (p - loadStart payload)
        else curvePoint s.lamp.curve p))

/-! ### Frames that fail, and LOOP OUT -/

/-- R1, R2, R9: a LENGTH above 32 is sent on and fails the frame, and what follows are stray bytes that count nothing; a broken
byte, or idle time of more than one byte time, ends a frame in passage, and less does not; a run of bytes that begins with no SYNC,
or with a SYNC after less than two byte times of idle, is not repeated. Each counts one FRAMING_FAIL, and what was provisional is
undone. (That a stripped frame ended so counts too is the model's reading, log 15. Time is in whole bit times, log 4; how long
the line stays at the space level after a broken byte is a free value, whose time passes in later commands, log 34. In a byte's own time LOOP IN is not idle: log 27.) -/
def Obligations.FramingFailuresCount : Prop :=
  (∀ (f : Frame) (kind length : Byte) (following : List Byte) (s : State),
    ArrivesWhole f [] s → 32 < length.toNat → ProvisionalLaw s →
    ((FrameKind.ofByte kind = some .cue ∨ FrameKind.ofByte kind = some .remote) → ownOrigin f s = false) →
    ∃ t, exec (.lengthAbove32 f kind length following) s = .next t ∧
      t.out.sent = [Config.sync, kind, f.target, f.origin,
        if FrameKind.ofByte kind = none then f.hop else nextHop f.hop, length] ∧
      t.loop.rx = .stray false ∧ t.offLine = (count .framingFail s).offLine) ∧
  (∀ (n : Nat) (p : Passage) (s : State), s.power = .running → s.loop.rx = .frame p → s.out.originating = [] →
    s.out.buffer = [] → s.loop.inIdle ≤ 10 → s.loop.bits = 0 →
    (∃ t, exec .brokenByte s = .next t ∧ t.loop.rx = .quiet ∧ t.loop.inIdle = 0 ∧ t.out.sent = [] ∧
      t.offLine = { undoProvisional (count .framingFail s) with openValues := s.openValues + 1 }.offLine) ∧
    (∃ t, exec .frameEndedEarly s = .next t ∧ t.loop.rx = .quiet ∧ t.out.sent = [] ∧
      t.offLine = (undoProvisional (count .framingFail s)).offLine) ∧
    (s.loop.inIdle + n ≤ 10 →
      ∃ t, exec (.delayBufferSend n) s = .next t ∧ t.loop.rx = .frame p ∧ t.offLine = s.offLine)) ∧
  (∀ (gap : Nat) (b : Byte) (bytes : List Byte) (s : State),
    s.power = .running → s.loop.rx = .quiet → s.out.originating = [] → s.out.buffer = [] →
    b ≠ Config.sync ∨ s.loop.inIdle + gap < 20 →
    ∃ t, exec (.strayByteRun gap (b :: bytes)) s = .next t ∧ t.out.sent = [] ∧ t.loop.rx = .quiet ∧
      t.offLine = (count .framingFail s).offLine)

/-- R16, R17, R18, R4: with no frame in passage and LOOP OUT free for two byte times the frame at the head of the queue begins,
built from the state as it is, and leaves the queue; so it does while the SYNC of a passing frame is partly received, and that SYNC
then enters the delay buffer, behind the originated frame; and so it does while a line is still held at the space level after a broken
byte that ended the frame in passage. On a line that is taken, or idle for less, or while a frame is in passage,
none begins; while LOOP IN is idle the originated frame and then the delay buffer go out in their order, with no byte lost or added.
(Time is in whole bit times, the model's choice, log 4; so are the bit times of a byte partly received, log 27, and the hold at the space
level, whose length is a free value and whose time passes in this command, log 34.) -/
def Obligations.LoopOutSendsInOrder : Prop :=
  (∀ (idle : Nat) (x : OrigFrame) (rest : List OrigFrame) (f : Frame) (payload : List Byte) (s : State),
    s.power = .running → s.out.originating = [] → s.out.buffer = [] → s.loop.origQueue = x :: rest →
    (s.loop.rx = .quiet ∧ s.loop.bits = 0 ∧ s.out.left ≤ 10 ∧ 30 ≤ idle) ∨
      (s.loop.rx.noFrame = true ∧ s.out.left = 0 ∧ 20 ≤ s.out.idle ∧ idle = 0) →
    ∃ t, exec (.originatedFrameStart idle) s = .next t ∧
      t.out.left = 10 ∧ t.out.buffer = [] ∧ t.out.sent = [0xD4#8] ∧ t.loop.rx = s.loop.rx ∧ t.loop.bits = s.loop.bits ∧
      t.loop.space = s.loop.space - idle ∧
      t.out.originating =
        (let body := match x with
          | .cue n => [0x11#8, 0#8, byteOf (stationNumber s), nextHop s.loop.position, 2#8, 255#8, byteOf n]
          | .remote k => [0x66#8, 0#8, byteOf (stationNumber s), nextHop s.loop.position, 2#8,
              byteOf (keyCode k), byteOf (stationNumber s)]
        body ++ [crc body]) ∧
      t.offLine = { s with loop := { s.loop with origQueue := rest } }.offLine ∧
      (s.loop.rx = .quiet → 20 ≤ t.loop.inIdle → t.loop.space = 0 → s.loop.bits ≤ 10 → f.gap = 0 →
        f.skip = 0 → f.take = some 1 → f.bits = 0 →
        ∃ u, exec (.cueFrame f payload) t = .next u ∧ u.loop.rx = .frame Passage.start ∧
          u.out.buffer = [⟨0xD4#8, true⟩] ∧ u.out.sent ++ u.out.originating = t.out.originating)) ∧
  (∀ s : State, s.power = .running →
    s.out.left ≠ 0 ∨ s.out.idle < 20 ∨ s.out.buffer ≠ [] ∨ s.out.originating ≠ [] ∨ s.loop.rx.noFrame = false ∨
      s.loop.origQueue = [] →
    exec (.originatedFrameStart 0) s = .next { s with out := { s.out with sent := [] } }) ∧
  (∀ (idle : Nat) (s : State), s.power = .running → s.loop.rx = .quiet →
    ∃ t, exec (.delayBufferSend idle) s = .next t ∧
      t.out.sent ++ t.out.originating ++ t.out.buffer.map Delayed.byte =
        s.out.originating ++ s.out.buffer.map Delayed.byte ∧
      (s.loop.bits = 0 → s.out.left ≤ 10 → 10 + 10 * s.out.originating.length + 30 * s.out.buffer.length ≤ idle →
        t.out.originating = [] ∧ t.out.buffer = [] ∧ t.out.left = 0) ∧
      t.loop.rx = .quiet ∧ t.offLine = s.offLine)

/-- R21: what the expiry of the loop-silence timer does under each policy; a timer that does not run expires never. -/
def Obligations.LoopSilenceAppliesPolicy : Prop :=
  ∀ s : State, s.power = .running →
    (s.loop.silence ≠ .running → exec .loopSilenceExpiry s = .next s) ∧
    (s.loop.silence = .running →
      ∃ t, exec .loopSilenceExpiry s = .next t ∧ t.loop = { s.loop with silence := .expired } ∧
        t = (let s1 := raise .loopSilent s.stn.items.silencePolicy.code
              { s with loop := { s.loop with silence := .expired } }
            match s.stn.items.silencePolicy with
            | .none => s1
            | .hold => holdEvent s1
            | .dark => requestLamp 0 10 .direct s1
            | .holdDark => requestLamp 0 10 .direct (holdEvent s1)))

/-! ### Commands -/

/-- R172, R10, R7: each of the twelve commands, arriving good and addressed to the station, is judged; its RESULT goes into the
trailer of the single target; off the line the state is what the judging makes it. R12: a COMMAND or a LOAD with a good check that
is not addressed to the station passes unchanged but for its HOP, trailer included, and changes nothing. -/
def Obligations.CommandFrameJudged : Prop :=
  (∀ (c : Cmd) (f : Frame) (args : List Byte) (s : State), Addressed c f args s →
    ∃ t, exec (commandInstr c f args) s = .next t ∧
      t.offLine = (judgeCommand (c.code :: args) s).1.offLine ∧
      t.out.sent = sentBytes f .command (c.code :: args) ++
        resultTrailer f (judgeCommand (c.code :: args) s).2 s) ∧
  (∀ (c : Cmd) (f : Frame) (args : List Byte) (s : State),
    ArrivesWhole f (c.code :: args) s → CheckGood f .command (c.code :: args) → matchesTarget s f.target.toNat = false →
    ∃ t, exec (commandInstr c f args) s = .next t ∧ t.offLine = s.offLine ∧
      t.out.sent = sentBytes f .command (c.code :: args) ++ [f.result, f.resultComplement]) ∧
  (∀ (k : FrameKind) (f : Frame) (payload : List Byte) (s : State), k = .command ∨ k = .load →
    ArrivesWhole f payload s → CheckGood f k payload → matchesTarget s f.target.toNat = false →
    ∃ t, exec (frameInstr k f payload) s = .next t ∧ t.offLine = s.offLine ∧
      t.out.sent = sentBytes f k payload ++ [f.result, f.resultComplement])

/-- R172, R189, R164: a COMMAND with no code or with an unknown one changes nothing and is answered REFUSED_RANGE, in MAINS_LOSS
REFUSED_STATE; a command in a state outside its column is answered REFUSED_STATE and has no effect but the configuration notice;
in MAINS_LOSS every command is. A command in a state of its column with a wrong count of argument bytes is answered REFUSED_RANGE with no
effect but that notice; so, R179, is an ATTN_SET with a source code outside 1..16, or an enable or a level above 1. (The values that STEP,
CONFIG_SET and ACK refuse are stated where those commands are.) -/
def Obligations.CommandRefused : Prop :=
  (∀ (f : Frame) (payload : List Byte) (s : State),
    ArrivesWhole f payload s → CheckGood f .command payload → matchesTarget s f.target.toNat = true →
    unknownCommand payload = true →
    ∃ t, exec (.unknownCommandCode f payload) s = .next t ∧ t.offLine = s.offLine ∧
      t.out.sent = sentBytes f .command payload ++
        resultTrailer f (if s.stn.state = .mainsLoss then .refusedState else .refusedRange) s) ∧
  (∀ (c : Cmd) (f : Frame) (args : List Byte) (s : State), Addressed c f args s →
    c.acceptedIn s.stn.state = false ∨ s.stn.state = .mainsLoss →
    ∃ t, exec (commandInstr c f args) s = .next t ∧
      t.offLine = (if c.configClass then noticeConfig s else s).offLine ∧
      t.out.sent = sentBytes f .command (c.code :: args) ++ resultTrailer f .refusedState s) ∧
  (∀ (c : Cmd) (f : Frame) (args : List Byte) (s : State), Addressed c f args s → c.acceptedIn s.stn.state = true →
    args.length ≠ (match c with
      | .step => 3 | .configSet => 3 | .attnSet => 3 | .ack => 1
      | .hold => 0 | .resume => 0 | .commit => 0 | .configClose => 0 | .standby => 0 | .wake => 0 | .clearCounters => 0 | .reset => 0) →
    ∃ t, exec (commandInstr c f args) s = .next t ∧
      t.offLine = (if c.configClass then noticeConfig s else s).offLine ∧
      t.out.sent = sentBytes f .command (c.code :: args) ++ resultTrailer f .refusedRange s) ∧
  (∀ (f : Frame) (code enable level : Byte) (s : State), Addressed .attnSet f [code, enable, level] s → s.stn.state ≠ .mainsLoss →
    code.toNat = 0 ∨ 16 < code.toNat ∨ 1 < enable.toNat ∨ 1 < level.toNat →
    ∃ t, exec (.attnSet f [code, enable, level]) s = .next t ∧ t.offLine = s.offLine ∧
      t.out.sent = sentBytes f .command [10#8, code, enable, level] ++ resultTrailer f .refusedRange s)

/-- R43, R41: a direct step in CONFIGURING or ACTIVE is answered ACCEPTED and acts at its owner. ADVANCE, REVERSE, GOTO and HOME are
offers to the Transport; SHUTTER sets the demand (R67); SOUND starts the sound ramp (R135); FOLLOW is a cue arrival at once, NONE has no effect, and a verb
code above 10 is answered REFUSED_RANGE. With no record waiting in the Transport:
LAMP starts a ramp of a burning lamp, lights an OFF lamp that no cause holds, and is ignored otherwise (R80, R84, R85); LAMP_OFF puts
a burning or FAILED lamp out, and is ignored otherwise (R81).
TAPE commands, with a cassette, act by the tables of R126 and R127 and clear TAPE_END where they lead toward a motion mode;
ZERO_COUNTER sets the counter to 0; without deck or cassette each counts one NOT_APPLICABLE (R128). -/
def Obligations.StepCommandActs : Prop :=
  (∀ (f : Frame) (v a b : Byte) (s : State), s.stn.state = .configuring ∨ s.stn.state = .active →
    (Addressed .step f [v, a, b] s → 10 < v.toNat →
      ∃ t, exec (.step f [v, a, b]) s = .next t ∧ t.offLine = s.offLine ∧
        t.out.sent = sentBytes f .command [1#8, v, a, b] ++ resultTrailer f .refusedRange s) ∧
    (Addressed .step f [0#8, a, b] s → StepLeads f 0#8 a b s s) ∧
    (Addressed .step f [10#8, a, b] s → StepLeads f 10#8 a b s (cueArrival a.toNat .follow s)) ∧
    (Addressed .step f [5#8, a, b] s →
      StepLeads f 5#8 a b s { s with tray := { s.tray with demand :=
        if a = 0#8 then .closed else if a = 1#8 then .opened else s.tray.demand } }) ∧
    (Addressed .step f [8#8, a, b] s →
      StepLeads f 8#8 a b s { s with deck := { s.deck with
        ramp := ⟨s.deck.volume, min a.toNat 31, b.toNat * 10, 0, .direct, true⟩ } }) ∧
    (Addressed .step f [1#8, a, b] s →
      StepLeads f 1#8 a b s (if a = 0#8 then s
        else offerMove (.step (min a.toNat 15 : Nat)) (b.getLsbD 0) .direct s)) ∧
    (Addressed .step f [2#8, a, b] s →
      StepLeads f 2#8 a b s (if a = 0#8 then s
        else offerMove (.step (-(min a.toNat 15 : Nat))) (b.getLsbD 0) .direct s)) ∧
    (Addressed .step f [3#8, a, b] s → StepLeads f 3#8 a b s (offerMove (.goto a.toNat) (b.getLsbD 0) .direct s)) ∧
    (Addressed .step f [4#8, a, b] s → StepLeads f 4#8 a b s (offerMove .home false .direct s))) ∧
  (∀ (f : Frame) (a b : Byte) (s : State), s.stn.state = .configuring ∨ s.stn.state = .active → s.tray.queue = [] →
    (Addressed .step f [6#8, a, b] s →
      let lamp := { s.lamp with
        ramp := ⟨s.lamp.p, a.toNat * 4096 / 255, b.toNat * 10, 0, .direct, true⟩
        lastTarget := if 0 < a.toNat * 4096 / 255 then some (a.toNat * 4096 / 255) else s.lamp.lastTarget }
      (s.lamp.burning = true → StepLeads f 6#8 a b s { s with lamp := lamp }) ∧
      (s.lamp.state = .off → s.cool.tripped = false →
        StepLeads f 6#8 a b s { s with
          lamp := { lamp with state := .warming }, cool := s.cool.setStage (max s.cool.heatStage 1) }) ∧
      ((s.lamp.state = .off ∧ s.cool.tripped = true) ∨ s.lamp.state = .tripped ∨ s.lamp.state = .failed →
        StepLeads f 6#8 a b s s)) ∧
    (Addressed .step f [7#8, a, b] s →
      (s.lamp.burning = true ∨ s.lamp.state = .failed →
        StepLeads f 7#8 a b s { s with
          lamp := { s.lamp with
            state := .off, p := 0, drive := 0, slewMem := 0, failCount := 0
            ramp := { s.lamp.ramp with running := false, target := 0 } }
          cool := s.cool.setStage (max s.cool.heatStage (if s.cool.tripped then 3 else 0)) }) ∧
      (s.lamp.state = .off ∨ s.lamp.state = .tripped → StepLeads f 7#8 a b s s))) ∧
  (∀ (f : Frame) (a b : Byte) (m : TapeMode) (s : State), s.stn.state = .configuring ∨ s.stn.state = .active →
    Addressed .step f [9#8, a, b] s → TapeMode.ofCode a.toNat = some m → DeckLaw s →
    (s.deck.state = .noCassette → StepLeads f 9#8 a b s (count .notApplicable s)) ∧
    (s.deck.state ≠ .noCassette →
      match m with
      | .zeroCounter =>
        StepLeads f 9#8 a b s (
          if s.deck.state = .windingRev true then
            inDeckState (.braking .stopped .backward) { s with deck := { s.deck with counter := 0 } }
          else { s with deck := { s.deck with counter := 0 } })
      | .rewToZero =>
        StepLeads f 9#8 a b s (
          if 0 < s.deck.counter then { inDeckState (rewToZeroTable s.deck.state) s with attn := s.attn.sideClear .tapeEnd }
          else if s.deck.state = .stopped then s
          else inDeckState (brakedTo .stopped s.deck.state) s)
      | _ =>
        match modeTable m s.deck.state with
        | none => StepLeads f 9#8 a b s s
        | some d =>
          StepLeads f 9#8 a b s { inDeckState d s with
            attn := if m = .stop ∨ m = .pause then s.attn else s.attn.sideClear .tapeEnd }))

/-- R166, R132, R48: HOLD in ACTIVE, from RUNNING: a deck that plays pauses with the hold mark, one that brakes toward PLAYING brakes
toward that pause, and in every other state nothing of it changes; RESUME in ACTIVE while HELD takes the deck back, and routes the
records standing at 0 one by one from the head, a FOLLOW among them as a cue arrival; HOLD in HELD and RESUME in RUNNING change
nothing. -/
def Obligations.HoldAndResumeAct : Prop :=
  (∀ (f : Frame) (s : State), Addressed .hold f [] s → s.stn.state = .active →
    ∃ t, exec (.hold f []) s = .next t ∧
      t.out.sent = sentBytes f .command [2#8] ++ resultTrailer f .accepted s ∧
      (s.stn.showState = .held → t.offLine = s.offLine) ∧
      (s.stn.showState = .running → s.deck.state = .playing →
        t.offLine = { s with
          stn := { s.stn with showState := .held }
          deck := { s.deck with state := .paused true, gateOpen := false, gateTimer := false }
          dec := if s.deck.gateOpen then s.dec.closeGate else s.dec }.offLine) ∧
      (s.stn.showState = .running → s.deck.state ≠ .playing → s.deck.state.isBraking = false →
        t.offLine = { s with stn := { s.stn with showState := .held } }.offLine) ∧
      (s.stn.showState = .running → ∀ coast, s.deck.state = .braking .playing coast →
        t.offLine = { s with
          stn := { s.stn with showState := .held }
          deck := { s.deck with state := .braking .pausedHold coast } }.offLine) ∧
      (s.stn.showState = .running → ∀ m coast, s.deck.state = .braking m coast → m ≠ .playing →
        t.offLine = { s with stn := { s.stn with showState := .held } }.offLine)) ∧
  (∀ (f : Frame) (s : State), Addressed .resume f [] s → s.stn.state = .active →
    ∃ t, exec (.resume f []) s = .next t ∧
      t.out.sent = sentBytes f .command [3#8] ++ resultTrailer f .accepted s ∧
      (s.stn.showState = .running → t.offLine = s.offLine) ∧
      (s.stn.showState = .held → (∀ r ∈ s.disp.schedule, r.remaining ≠ 0) → s.deck.state = .paused true →
        t.offLine = { s with
          stn := { s.stn with showState := .running }
          deck := { s.deck with state := .playing, gateOpen := false, gateTimer := true }
          dec := if s.deck.gateOpen then s.dec.closeGate else s.dec }.offLine) ∧
      (s.stn.showState = .held → (∀ r ∈ s.disp.schedule, r.remaining ≠ 0) → s.deck.state ≠ .paused true →
        s.deck.state.isBraking = false →
        t.offLine = { s with stn := { s.stn with showState := .running } }.offLine) ∧
      (s.stn.showState = .held → (∀ r ∈ s.disp.schedule, r.remaining ≠ 0) →
        ∀ m coast, s.deck.state = .braking m coast →
          t.offLine = { s with
            stn := { s.stn with showState := .running }
            deck := { s.deck with state := .braking (if m = Pending.pausedHold then .playing else m) coast } }.offLine) ∧
      (∀ due rest, s.disp.schedule = due ++ rest → s.stn.showState = .held →
        (∀ r ∈ due, r.remaining = 0 ∧ r.verb ≠ .follow) → (∀ r ∈ rest, r.remaining ≠ 0) →
        t.offLine = (routedAll due { afterResume s with disp := { s.disp with schedule := rest } }).offLine) ∧
      (∀ r rest, s.disp.schedule = r :: rest → s.stn.showState = .held → r.remaining = 0 → r.verb = .follow →
        (∀ x ∈ rest, x.remaining ≠ 0) →
        t.offLine = (cueArrival r.a .follow { afterResume s with disp := { s.disp with schedule := rest } }).offLine))

/-- R31, R33, R165: COMMIT with a still mirror makes the other bank live and starts the mirror; with a busy mirror it is refused
REFUSED_BUSY and swaps nothing. CONFIG_CLOSE commits, or defers the commit, locks, and enters ACTIVE RUNNING. -/
def Obligations.CommitAndCloseSwapBanks : Prop :=
  ∀ (f : Frame) (s : State),
    (Addressed .commit f [] s → s.stn.state = .configuring ∨ s.stn.state = .active → s.disp.mirrorBusy = false →
      ∃ t, exec (.commit f []) s = .next t ∧
        t.out.sent = sentBytes f .command [4#8] ++ resultTrailer f .accepted s ∧
        t.offLine = { noticeConfig s with
          disp := { s.disp with live := s.disp.live.other, mirrorBusy := true, mirrorCopied := 0 } }.offLine) ∧
    (Addressed .commit f [] s → s.stn.state = .configuring ∨ s.stn.state = .active → s.disp.mirrorBusy = true →
      ∃ t, exec (.commit f []) s = .next t ∧
        t.out.sent = sentBytes f .command [4#8] ++ resultTrailer f .refusedBusy s ∧
        t.offLine = (noticeConfig s).offLine) ∧
    (Addressed .configClose f [] s → s.stn.state = .configuring →
      ∃ t, exec (.configClose f []) s = .next t ∧
        t.out.sent = sentBytes f .command [6#8] ++ resultTrailer f .accepted s ∧
        t.offLine = { s with
          disp := if s.disp.mirrorBusy then { s.disp with deferred := true }
            else { s.disp with live := s.disp.live.other, mirrorBusy := true, mirrorCopied := 0 }
          stn := { s.stn with state := .active, showState := .running, lock := true, window := .off } }.offLine)

/-- R171, R151: a CONFIG_SET that no test refuses writes the item, and a changed tape cue mode reaches the decoder; a value out
of range or breaking a cross condition, and a locked item, are refused and change no item. -/
def Obligations.ConfigSetWritesItem : Prop :=
  ∀ (f : Frame) (item hi lo : Byte) (s : State), Addressed .configSet f [item, hi, lo] s →
    s.stn.state ≠ .mainsLoss →
    ∃ t, exec (.configSet f [item, hi, lo]) s = .next t ∧
      match s.stn.items.put item.toNat (word16 hi lo) with
      | none =>
        t.out.sent = sentBytes f .command [5#8, item, hi, lo] ++ resultTrailer f .refusedRange s ∧
        t.offLine = (noticeConfig s).offLine
      | some x =>
        (x.consistent = false →
          t.out.sent = sentBytes f .command [5#8, item, hi, lo] ++ resultTrailer f .refusedRange s ∧
          t.offLine = (noticeConfig s).offLine) ∧
        (x.consistent = true → item ≠ 1#8 → s.stn.lock = true →
          t.out.sent = sentBytes f .command [5#8, item, hi, lo] ++ resultTrailer f .refusedLocked s ∧
          t.offLine = (noticeConfig s).offLine) ∧
        (x.consistent = true → item = 1#8 ∨ s.stn.lock = false →
          t.out.sent = sentBytes f .command [5#8, item, hi, lo] ++ resultTrailer f .accepted s ∧
          t.offLine = { noticeConfig s with
            stn := { (noticeConfig s).stn with items := x }
            dec := if x.tapeCueMode = s.stn.items.tapeCueMode then s.dec
              else changeCueMode x.tapeCueMode s.dec }.offLine)

/-- R167, R165, R49, R74, R100, R118, R138, R168: STANDBY taken in ACTIVE or CONFIGURING puts out a burning lamp, empties list and move
queue, stops sound and deck, as a STOP does in each deck state, and stands in COOLING_DOWN with the fan at 1 or above, or in STANDBY if
the standby condition holds; in CONFIGURING it closes configuration first: the commit, at once or deferred, and the lock mark. R169, R107, R20: WAKE in COOLING_DOWN
or STANDBY enters ACTIVE RUNNING, chooses the fan afresh, keeps the lock mark and takes no commit. (That the
standby condition is tested at the entry once every block has taken the new state is the model's choice, log 44.) -/
def Obligations.StandbyRestsAndWakeReturns : Prop :=
  (∀ (f : Frame) (s : State), Addressed .standby f [] s → s.stn.state = .active ∨ s.stn.state = .configuring →
    ∃ t, exec (.standby f []) s = .next t ∧
      t.out.sent = sentBytes f .command [7#8] ++ resultTrailer f .accepted s ∧
      t.stn.showState = .none ∧ t.stn.window = .off ∧ t.loop.silence = .stopped ∧
      t.disp = (if s.stn.state = .active then { s.disp with schedule := [] }
        else if s.disp.mirrorBusy then { s.disp with schedule := [], deferred := true }
        else { s.disp with schedule := [], live := s.disp.live.other, mirrorBusy := true, mirrorCopied := 0 }) ∧
      t.stn.lock = (if s.stn.state = .active then s.stn.lock else true) ∧
      t.tray.darkTimer = false ∧ t.tray.queue = [] ∧ t.tray.slot = s.tray.slot ∧ t.tray.size = s.tray.size ∧
      t.tray.certainty = s.tray.certainty ∧ t.tray.demand = s.tray.demand ∧
      t.lamp = (if s.lamp.burning then s.lamp.extinguish .off else s.lamp) ∧
      t.deck.ramp.running = false ∧ t.deck.volume = s.deck.volume ∧ t.deck.counter = s.deck.counter ∧
      (s.deck.state = .stopped ∨ s.deck.state = .noCassette → t.deck.state = s.deck.state ∧ t.dec = s.dec) ∧
      t.deck.state = (modeTable .stop s.deck.state).getD s.deck.state ∧
      (DeckLaw s → t.deck.gateOpen = false ∧ t.deck.gateTimer = false ∧
        t.dec = if s.deck.gateOpen then s.dec.closeGate else s.dec) ∧
      t.stn.items = s.stn.items ∧ t.remote = s.remote ∧ t.retained = s.retained ∧
      t.power = s.power ∧ t.cool.heat = s.cool.heat ∧
      t.cool.fanStage = max (if t.stn.state = .standby then 0 else max s.cool.heatStage 1) (if s.cool.tripped then 3 else 0) ∧
      t.stn.state = (if s.cool.cool = true ∧ t.tray.inCycle = false ∧ t.deck.settled = true then .standby
        else .coolingDown)) ∧
  (∀ (f : Frame) (s : State), Addressed .wake f [] s → s.stn.state = .coolingDown ∨ s.stn.state = .standby →
    ∃ t, exec (.wake f []) s = .next t ∧
      t.out.sent = sentBytes f .command [8#8] ++ resultTrailer f .accepted s ∧
      t.loop.silence = (if s.stn.items.silenceTimeout ≠ 0 then .running else s.loop.silence) ∧
      t.offLine = { s with
        stn := { s.stn with state := .active, showState := .running, window := .off }
        cool := s.cool.setStage (max (max s.cool.heatStage (if s.lamp.burning then 1 else 0))
          (if s.cool.tripped then 3 else 0)) }.offLine)

/-- R182: an ACK of a code outside 1..16 is answered REFUSED_RANGE and changes nothing; any other clears flag, again mark and
detail of its source, whatever its enable, releases the hold if that source was held and no other hold, and is answered
ACCEPTED in every state but MAINS_LOSS; an ACK of a source that is clear and not held changes nothing; a source raised again
afterwards starts afresh; sent to TARGET 31 or a group it clears the source too, and the trailer goes on as received. -/
def Obligations.AckClearsSource : Prop :=
  ∀ (f : Frame) (code : Byte) (again : Nat) (s : State), Addressed .ack f [code] s → s.stn.state ≠ .mainsLoss →
    ∃ t, exec (.ack f [code]) s = .next t ∧
      match Source.ofCode code.toNat with
      | none =>
        (code.toNat = 0 ∨ 16 < code.toNat) ∧ t.offLine = s.offLine ∧
        t.out.sent = sentBytes f .command [9#8, code] ++ resultTrailer f .refusedRange s
      | some c =>
        c.code = code.toNat ∧
        t.out.sent = sentBytes f .command [9#8, code] ++ resultTrailer f .accepted s ∧
        t.attn.get c = { s.attn.get c with flag := false, again := false, detail := 0 } ∧
        (∀ d, d ≠ c → t.attn.get d = s.attn.get d) ∧
        t.attn.held = (if s.attn.held = some c then none else s.attn.held) ∧
        t.offLine = { s with attn := t.attn }.offLine ∧ t.attn.counters = s.attn.counters ∧ t.attn.prov = s.attn.prov ∧
        ((s.attn.get c).flag = false → (s.attn.get c).again = false → (s.attn.get c).detail = 0 →
          s.attn.held ≠ some c → t.offLine = s.offLine) ∧
        (t.attn.raise c again).get c = { t.attn.get c with flag := true, detail := again } ∧
        (stationNumber s ≤ 30 → 31 ≤ f.target.toNat → resultTrailer f .accepted s = [f.result, f.resultComplement])

/-- R179, R187: ATTN_SET sets enable and level, and clearing the enable of the held source releases it; CLEAR_COUNTERS sets all nine
counters to 0. -/
def Obligations.AttentionSettingsAct : Prop :=
  ∀ (f : Frame) (code enable level : Byte) (c : Source) (s : State), s.stn.state ≠ .mainsLoss →
    Source.ofCode code.toNat = some c →
    (Addressed .attnSet f [code, enable, level] s → enable.toNat ≤ 1 → level.toNat ≤ 1 →
      ∃ t, exec (.attnSet f [code, enable, level]) s = .next t ∧
        t.out.sent = sentBytes f .command [10#8, code, enable, level] ++ resultTrailer f .accepted s ∧
        t.attn.get c = { s.attn.get c with enable := enable == 1#8, high := level == 1#8 } ∧
        (∀ d, d ≠ c → t.attn.get d = s.attn.get d) ∧
        t.attn.held = (if enable = 0#8 ∧ s.attn.held = some c then none else s.attn.held) ∧
        t.offLine = { s with attn := t.attn }.offLine ∧ t.attn.counters = s.attn.counters ∧ t.attn.prov = s.attn.prov) ∧
    (Addressed .clearCounters f [] s →
      ∃ t, exec (.clearCounters f []) s = .next t ∧
        t.out.sent = sentBytes f .command [11#8] ++ resultTrailer f .accepted s ∧
        (∀ k, t.attn.counter k = 0) ∧ (∀ d, t.attn.get d = s.attn.get d) ∧ t.attn.held = s.attn.held ∧
        t.offLine = { s with attn := t.attn }.offLine)

/-! ### Resets, supply, mains -/

/-- R172, R173, R7, R22: RESET is accepted outside MAINS_LOSS and changes nothing until the frame has been sent to its end, its last
trailer byte included; LOOP_RESET is taken then, and not before. (That it comes as a command at that moment is the model's reading,
log 24; time is in whole bit times, log 4.) -/
def Obligations.ResetWaitsForFrameEnd : Prop :=
  (∀ (n : Nat) (f : Frame) (r : Readings) (s : State),
    Addressed .reset f [] s → s.stn.state ≠ .mainsLoss → s.out.resetAhead = none →
    ∃ t u, exec (.reset f []) s = .next t ∧ exec (.delayBufferSend n) t = .next u ∧
      t.out.sent = sentBytes f .command [12#8] ++ resultTrailer f .accepted s ∧
      t.offLine = s.offLine ∧ t.out.resetAhead = some 1 ∧ t.out.left = 10 ∧ exec (.loopReset r) t = .next t ∧
      (n < 10 → exec (.loopReset r) u = .next u) ∧
      (10 ≤ n → u.out.resetAhead = some 0 ∧ exec (.loopReset r) u = .next (loopReset r u))) ∧
  (∀ (r : Readings) (s : State), s.power = .running →
    (s.out.resetAhead = some 0 → exec (.loopReset r) s = .next (loopReset r s)) ∧
    (s.out.resetAhead ≠ some 0 → exec (.loopReset r) s = .next s))

/-- R22, R50, R77, R102, R121, R139, R152, R154, R160, R174, R184, and R83 for the ramp record: each of the four resets, read with no
mains warning, leaves the values the blocks' reset tables give for every kind; the deck is STOPPED with a cassette in a fitted deck,
else NO_CASSETTE. (Idle counts of 0 at both lines are the model's choice, log 4; LOOP IN at the mark level with
no byte partly received, log 37; the empty list of bytes sent, log 5; the sound
ramp's fields, log 7.) -/
def Obligations.EveryResetLeavesItsValues : Prop :=
  ∀ (st : Straps) (r : Readings) (s : State), r.mainsWarn = false →
    (∃ t, exec (.powerOn st r) s = .next t ∧ LeftByReset .powerOn r.cassette s t ∧ t.cool.cutout = r.cutoutOpen) ∧
    (s.power ≠ .off → ∃ t, exec (.pinReset st r) s = .next t ∧ LeftByReset .pin r.cassette s t ∧ t.stn.valid = false) ∧
    (s.power = .running → s.out.resetAhead = some 0 →
      ∃ t, exec (.loopReset r) s = .next t ∧ LeftByReset .loop r.cassette s t ∧ t.stn.valid = false) ∧
    (s.power = .running → brownoutDue s = true →
      ∃ t, exec (.brownoutRestart st r) s = .next t ∧ LeftByReset .brownout r.cassette s t ∧ t.stn.valid = false)

/-- R34, R50, R77, R78, R102, R121, R139, R161, R170, R174, R176, R184: what the resets other than a power-on keep, the straps that the
pin reset and the brownout restart latch and the loop reset keeps, and the tray's state: a cycle and JAMMED become IDLE and
UNCERTAIN, but for a drop that a loop reset lets finish. (The fan at a newly open cutout is the model's reading, log 20; so is a write
in progress, which a loop reset keeps and the others end, log 25.) -/
def Obligations.OtherResetsKeep : Prop :=
  ∀ (kind : ResetKind) (st : Straps) (r : Readings) (s t : State), r.mainsWarn = false →
    ((kind = .pin ∧ s.power ≠ .off ∧ exec (.pinReset st r) s = .next t) ∨
      (kind = .loop ∧ s.power = .running ∧ s.out.resetAhead = some 0 ∧ exec (.loopReset r) s = .next t) ∨
      (kind = .brownout ∧ s.power = .running ∧ brownoutDue s = true ∧ exec (.brownoutRestart st r) s = .next t)) →
    t.disp.live = s.disp.live ∧ t.disp.liveBank = s.disp.liveBank ∧
    (s.disp.mirrorBusy = false → t.disp.pendingBank = s.disp.pendingBank) ∧
    (s.disp.mirrorBusy = true → t.disp.pendingBank = s.disp.liveBank) ∧
    t.tray.size = s.tray.size ∧ t.tray.slot = s.tray.slot ∧
    (kind = .loop ∧ s.tray.state = .cycle .drop →
      t.tray.state = .cycle .drop ∧ t.tray.keptDrop = true ∧ t.tray.cycle = s.tray.cycle ∧
      t.tray.certainty = s.tray.certainty) ∧
    (¬(kind = .loop ∧ s.tray.state = .cycle .drop) → s.tray.inCycle = true ∨ s.tray.state = .jammed →
      t.tray.state = .idle ∧ t.tray.cycle = none ∧ t.tray.certainty = .uncertain) ∧
    (s.tray.state = .idle ∨ s.tray.state = .noTray →
      t.tray.state = s.tray.state ∧ t.tray.certainty = s.tray.certainty) ∧
    t.lamp.curve = s.lamp.curve ∧
    t.cool.heat = s.cool.heat ∧ t.cool.heatStage = s.cool.heatStage ∧ t.cool.thermal = s.cool.thermal ∧
    t.cool.cool = s.cool.cool ∧ t.cool.cutout = r.cutoutOpen ∧
    (r.cutoutOpen = false ∨ s.cool.cutout = true →
      t.cool.fanStage = s.cool.fanStage ∧ t.cool.spinUp = if s.cool.fanStage = 0 then .cancelled else .running) ∧
    (r.cutoutOpen = true → s.cool.cutout = false → s.cool.heatStage ≤ 3 → t.cool.fanStage = 3) ∧
    t.deck.counter = s.deck.counter ∧ t.deck.volume = s.deck.volume ∧ t.stn.items = s.stn.items ∧
    t.retained = s.retained ∧ t.stn.writing = (if kind = .loop then s.stn.writing else none) ∧
    (kind = .loop → t.stn.strapStation = s.stn.strapStation ∧ t.stn.strapDeck = s.stn.strapDeck ∧
      t.stn.strapMaster = s.stn.strapMaster) ∧
    (kind ≠ .loop → t.stn.strapStation = (if st.station = 31#5 then 0 else st.station.toNat) ∧
      t.stn.strapDeck = st.deckFitted ∧ t.stn.strapMaster = (st.cueMaster && st.deckFitted)) ∧
    (∀ c, (t.attn.get c).enable = (s.attn.get c).enable ∧ (t.attn.get c).high = (s.attn.get c).high)

/-- R161, R174, R76, R122, R139, R92, R170: a power-on latches the straps, clears the banks, sets the items, the curve and the
attention settings to their defaults, and takes heat and volume from a valid retained record. -/
def Obligations.PowerOnReadsRecord : Prop :=
  ∀ (st : Straps) (r : Readings) (s : State), r.mainsWarn = false →
    ∃ t, exec (.powerOn st r) s = .next t ∧
      t.stn.strapStation = (if st.station = 31#5 then 0 else st.station.toNat) ∧
      t.stn.strapDeck = st.deckFitted ∧ t.stn.strapMaster = (st.cueMaster && st.deckFitted) ∧
      t.stn.items = Items.default ∧ t.lamp.curve = Lamp.defaultCurve ∧
      t.disp.bankA = Bank.cleared ∧ t.disp.bankB = Bank.cleared ∧ t.disp.live = .a ∧
      t.tray.state = .noTray ∧ t.tray.size = .none ∧ t.tray.certainty = .invalid ∧ t.deck.counter = 0 ∧
      t.cool.heatStage = 0 ∧ t.cool.fanStage = (if t.cool.tripped then 3 else 0) ∧
      t.stn.valid = s.retained.valid ∧ t.retained = s.retained ∧
      (s.retained.valid = true →
        t.cool.heat = word16 s.retained.fields[3] s.retained.fields[4] ∧
        t.deck.volume = s.retained.fields[5].toNat) ∧
      (s.retained.valid = false → t.cool.heat = 40000 ∧ t.deck.volume = 20) ∧
      t.cool.thermal = decide (52000 ≤ t.cool.heat) ∧ t.cool.cool = decide (t.cool.heat < 4000) ∧
      (∀ c, (t.attn.get c).enable = true ∧ (t.attn.get c).high = decide (c.code ≤ 7))

/-- R173: the RESET pin holds the part: the drives are off, MUTE is asserted, and the state stands, but for the write of the
retained record, which stays unfinished (R176).
R68, R54, R67, the device's law for the shutter: it is closed throughout a cycle and throughout JAMMED, and follows the demand in
IDLE and NO_TRAY. R137: MUTE is asserted exactly when the deck is not PLAYING, the volume is 0, the station is in COOLING_DOWN,
STANDBY or MAINS_LOSS, or the part is held. (Both are stated of a part with supply.) -/
def Obligations.PinAssertHoldsPart : Prop :=
  (∀ s : State, s.power ≠ .off →
    (s.tray.inCycle = true ∨ s.tray.state = .jammed → shutterClosed s = true) ∧
    (s.tray.state = .idle ∨ s.tray.state = .noTray → shutterClosed s = decide (s.tray.demand = .closed)) ∧
    (mute s = true ↔ s.power = .held ∨ s.deck.state ≠ .playing ∨ s.deck.volume = 0 ∨
      s.stn.state = .coolingDown ∨ s.stn.state = .standby ∨ s.stn.state = .mainsLoss)) ∧
  (∀ s : State, s.power = .running →
    ∃ t, exec .pinResetAssert s = .next t ∧
      t = { s with power := .held, out := { s.out with sent := [] }, stn := { s.stn with writing := none } } ∧
      lampDrive t = 0 ∧ trayFwd t = false ∧ trayRev t = false ∧ camRun t = false ∧ deckPlay t = false ∧
      deckFwd t = false ∧ deckRev t = false ∧ focusInDrive t = false ∧ focusOutDrive t = false ∧ mute t = true ∧
      deckBrake t = deckBrake s ∧ shutterClosed t = shutterClosed s ∧ fanPwm t = fanPwm s ∧
      volumeLines t = volumeLines s)

/-- R175, R49, R75, R101, R138, R160, R176: MAINS_WARN puts the station in MAINS_LOSS from every other state; in MAINS_LOSS only the
level is noted. MAINS_WARN going notes the level; the restart of R177 then comes as a command of its own once the write has ended
(the model's choice, log 26). R160: both focus keys are marked consumed.
R176: the end of the write stores the six fields with their check; the supply's fall keeps the memory and ends a write
unfinished; a record written whole by a part within its laws is found valid.
(The order in which lamp and tray take the entry is free, log 12; the void mark is the model's, log 8; that a second MAINS_WARN_ASSERT
only notes the level is its reading, log 29.) -/
def Obligations.MainsWarnSavesRecord : Prop :=
  (∀ s : State, s.power = .running →
    (s.stn.state = .mainsLoss →
      exec .mainsWarnAssert s = .next { s with stn := { s.stn with mainsWarn := true } }) ∧
    (s.stn.state ≠ .mainsLoss →
      ∃ t, exec .mainsWarnAssert s = .next t ∧ t.stn.state = .mainsLoss ∧ t.stn.showState = .none ∧
        t.stn.mainsWarn = true ∧ t.stn.window = .off ∧ t.stn.lock = s.stn.lock ∧ t.stn.items = s.stn.items ∧
        t.loop = { s.loop with silence := .stopped } ∧ t.out = s.out ∧
        t.disp = { s.disp with schedule := [] } ∧
        t.lamp.state = .off ∧ t.lamp.p = 0 ∧ t.lamp.drive = 0 ∧ t.lamp.failCount = 0 ∧ t.lamp.curve = s.lamp.curve ∧
        t.tray.queue = [] ∧ t.tray.inCycle = false ∧ t.tray.slot = s.tray.slot ∧ t.tray.size = s.tray.size ∧
        (s.tray.inCycle = true → t.tray.certainty = .uncertain) ∧
        (s.tray.inCycle = false → s.tray.queue = [] → t.tray.certainty = s.tray.certainty) ∧
        t.deck.state = (if s.deck.state = .noCassette then .noCassette else .stopped) ∧
        (s.deck.state ≠ .noCassette → t.deck.gateOpen = false) ∧
        t.deck.ramp.running = false ∧ t.deck.volume = s.deck.volume ∧ t.deck.counter = s.deck.counter ∧
        t.remote.focus = .stopped ∧ (∀ k, t.remote.get k =
          if k = .focusIn ∨ k = .focusOut then { s.remote.get k with consumed := true } else s.remote.get k) ∧
        t.cool.heat = s.cool.heat ∧
        t.stn.writing = some (recordFields t) ∧
        t.retained = { s.retained with check := ~~~s.retained.check, void := true } ∧
        t.power = s.power ∧ t.pending = s.pending) ∧
    exec .mainsWarnDeassert s = .next { s with stn := { s.stn with mainsWarn := false } } ∧
    (s.stn.state = .mainsLoss → s.stn.writing = none →
      ∃ t, exec .mainsWarnDeassert s = .next t ∧ brownoutDue t = true)) ∧
  (∀ (fields : Vector Byte 6) (s : State), s.power = .running → s.stn.writing = some fields →
    exec .retainedWriteEnd s = .next { s with
      retained := ⟨fields, crc fields.toList, false⟩, stn := { s.stn with writing := none } }) ∧
  (∀ s : State, exec .supplyFall s = .next { s with power := .off, stn := { s.stn with writing := none } }) ∧
  (∀ s : State, TrayLaw s → s.deck.volume ≤ 31 → fieldsMakeSense (recordFields s) = true ∧
    (endWrite (beginWrite s)).retained.valid = true)

/-- R164, R165, R168: the window's expiry closes configuration; the standby condition, tested in COOLING_DOWN, leads to STANDBY
with the fan at 0, or at 3 while a cause is active. -/
def Obligations.WindowExpiryAndStandbyCondition : Prop :=
  ∀ s : State, s.power = .running →
    (s.stn.state = .configuring → s.stn.window = .running →
      ∃ t, exec .configWindowExpiry s = .next t ∧
        t.loop.silence = (if s.stn.items.silenceTimeout ≠ 0 then .running else s.loop.silence) ∧
        t = { s with
          loop := t.loop
          disp := if s.disp.mirrorBusy then { s.disp with deferred := true }
            else { s.disp with live := s.disp.live.other, mirrorBusy := true, mirrorCopied := 0 }
          stn := { s.stn with state := .active, showState := .running, lock := true, window := .off } }) ∧
    (s.stn.state ≠ .configuring ∨ s.stn.window ≠ .running → exec .configWindowExpiry s = .next s) ∧
    (s.stn.state = .coolingDown → s.cool.cool = true → s.tray.inCycle = false →
      s.deck.state = .stopped ∨ s.deck.state = .noCassette → s.lamp.burning = false →
      exec .standbyCondition s = .next { s with
        stn := { s.stn with state := .standby }
        cool := s.cool.setStage (if s.cool.tripped then 3 else 0) }) ∧
    (s.stn.state ≠ .coolingDown ∨ s.cool.cool = false → exec .standbyCondition s = .next s)

/-! ### Cues, the list, the mirror -/

/-- R36, R37, R38, R33, R40, R132: a cue arrival in a station state other than ACTIVE counts one CUES_IGNORED and has no other effect,
system cues included; in ACTIVE it is taken by its number and the show state: cue 0, a cue with no steps and a number without meaning
count one CUES_NOT_MINE; a cue with steps, cue 240, and a system cue that steps the tray, homes it or ends the show become the last
cue; cue 240 holds a running show; cue 241 runs a held one, with no record standing at 0; cue 242 commits unless the mirror is
busy; cue 243 empties the list, stops the tape and takes the lamp down over 20 tenths; cue 244 homes the tray; cues 248 and 249 step
it by one, at once while RUNNING, and from the list, at remaining 0, while HELD. -/
def Obligations.CueArrivalsSorted : Prop :=
  ∀ (cue : Nat) (src : CueSource) (s : State),
    (s.stn.state ≠ .active → cueArrival cue src s = { s with attn := s.attn.count .cuesIgnored }) ∧
    (s.stn.state = .active →
      (cue = 0 ∨ (cue ≤ 239 ∧ (s.disp.liveBank.entry cue).count = 0) ∨ (245 ≤ cue ∧ cue ≤ 247) ∨ 250 ≤ cue →
        cueArrival cue src s = { s with attn := s.attn.count .cuesNotMine }) ∧
      ((1 ≤ cue ∧ cue ≤ 239 ∧ (s.disp.liveBank.entry cue).count ≠ 0) ∨ cue = 240 ∨ cue = 243 ∨ cue = 244 ∨ cue = 248 ∨ cue = 249 →
        (cueArrival cue src s).disp.lastCue = cue ∧ (cueArrival cue src s).disp.lastSource = src) ∧
      (cue = 240 → s.stn.showState = .running → (cueArrival cue src s).stn = { s.stn with showState := .held }) ∧
      (cue = 241 → s.stn.showState = .held → (∀ r ∈ s.disp.schedule, r.remaining ≠ 0) → (cueArrival cue src s).stn.showState = .running) ∧
      (cue = 242 → cueArrival cue src s =
        if s.disp.mirrorBusy then { s with attn := s.attn.count .cuesIgnored }
        else { s with disp := { s.disp with
          lastCue := 242, lastSource := src, live := s.disp.live.other, mirrorBusy := true, mirrorCopied := 0 } }) ∧
      (let t := { s with disp := { s.disp with lastCue := cue, lastSource := src } }
      (cue = 240 → cueArrival cue src s = if s.stn.showState = .running then afterHold t else t) ∧
      (cue = 241 → s.stn.showState ≠ .held → cueArrival cue src s = t) ∧
      (cue = 241 → s.stn.showState = .held → (∀ r ∈ s.disp.schedule, r.remaining ≠ 0) → cueArrival cue src s = afterResume t) ∧
      (cue = 243 → cueArrival cue src s =
        routeStep ⟨.lamp, 0, 20⟩ .ofShow (routeStep ⟨.tape, 1, 0⟩ .ofShow { t with disp := { t.disp with schedule := [] } })) ∧
      (cue = 244 → cueArrival cue src s = offerMove .home false .ofShow t) ∧
      (cue = 248 → s.stn.showState = .running → cueArrival cue src s = offerMove (.step 1) false .ofShow t) ∧
      (cue = 249 → s.stn.showState = .running → cueArrival cue src s = offerMove (.step (-1)) false .ofShow t) ∧
      (cue = 248 → s.stn.showState = .held → cueArrival cue src s = schedule ⟨0, .advance, 1, 0, 248⟩ t) ∧
      (cue = 249 → s.stn.showState = .held → cueArrival cue src s = schedule ⟨0, .reverse, 1, 0, 249⟩ t)))

/-- R39, R40, R41, R42, R44, R45, R46, R47, R48: a cue with steps is expanded from the live bank in pool order: while RUNNING a step of
delay 0 is routed at once and any other enters the list; while HELD every step enters it and nothing is routed. A record enters
behind those that are due no later; a full list refuses it and reports its cue. A show tick in RUNNING takes one tenth off every
record and routes those that come due, from the head; a FOLLOW that comes due is a cue arrival, and after one to cue 240 or 243 no
further record of that tick is routed. In HELD, or outside ACTIVE, a tick changes nothing; a single record standing at 0 leaves the
list and is routed. A step routed with origin SHOW acts at its owner: the moves, the shutter demand, the lamp ramp, the sound ramp, and
as the direct step does for LAMP_OFF and TAPE. -/
def Obligations.HeldShowWaitsRunningShowCounts : Prop :=
  (∀ (cue : Nat) (src : CueSource) (s : State), s.stn.state = .active → s.stn.showState = .held →
    1 ≤ cue → cue ≤ 239 →
    (cueArrival cue src s).tray = s.tray ∧ (cueArrival cue src s).lamp = s.lamp ∧
    (cueArrival cue src s).deck = s.deck ∧ (cueArrival cue src s).dec = s.dec ∧
    (cueArrival cue src s).cool = s.cool ∧ (cueArrival cue src s).stn = s.stn) ∧
  (∀ (cue : Nat) (src : CueSource) (s : State), s.stn.state = .active → 1 ≤ cue → cue ≤ 239 →
    let e := s.disp.liveBank.entry cue
    let steps := (List.range e.count).map fun i => s.disp.liveBank.step (e.first + i)
    let t := { s with disp := { s.disp with lastCue := cue, lastSource := src } }
    e.count ≠ 0 →
      (s.stn.showState = .running → cueArrival cue src s = steps.foldl (takenRunning cue) t) ∧
      (s.stn.showState = .held → cueArrival cue src s = steps.foldl (takenHeld cue) t)) ∧
  (∀ (o : Origin) (a b : Nat) (f : Frame) (x y : Byte) (s : State),
    routeStep ⟨.shutter, 0, b⟩ o s = { s with tray := { s.tray with demand := .closed } } ∧
    routeStep ⟨.shutter, 1, b⟩ o s = { s with tray := { s.tray with demand := .opened } } ∧
    routeStep ⟨.sound, a, b⟩ o s =
      { s with deck := { s.deck with ramp := ⟨s.deck.volume, a, b * 10, 0, o, true⟩ } } ∧
    (a ≠ 0 → routeStep ⟨.advance, a, b⟩ o s = offerMove (.step a) (decide (b % 2 = 1)) o s ∧
      routeStep ⟨.reverse, a, b⟩ o s = offerMove (.step (-a)) (decide (b % 2 = 1)) o s) ∧
    routeStep ⟨.goto, a, b⟩ o s = offerMove (.goto a) (decide (b % 2 = 1)) o s ∧
    routeStep ⟨.home, a, b⟩ o s = offerMove .home false o s ∧
    (s.tray.queue = [] → s.stn.state = .active →
      let lamp := { s.lamp with
        ramp := ⟨s.lamp.p, a * 4096 / 255, b * 10, 0, o, true⟩
        lastTarget := if 0 < a * 4096 / 255 then some (a * 4096 / 255) else s.lamp.lastTarget }
      (s.lamp.burning = true → routeStep ⟨.lamp, a, b⟩ o s = { s with lamp := lamp }) ∧
      (s.lamp.state = .off → s.cool.tripped = false →
        routeStep ⟨.lamp, a, b⟩ o s = { s with
          lamp := { lamp with state := .warming }, cool := s.cool.setStage (max s.cool.heatStage 1) }) ∧
      ((s.lamp.state = .off ∧ s.cool.tripped = true) ∨ s.lamp.state = .tripped ∨ s.lamp.state = .failed →
        routeStep ⟨.lamp, a, b⟩ o s = s)) ∧
    (s.stn.state = .active →
      (Addressed .step f [7#8, x, y] s → StepLeads f 7#8 x y s (routeStep ⟨.lampOff, a, b⟩ o s)) ∧
      (Addressed .step f [9#8, x, y] s → StepLeads f 9#8 x y s (routeStep ⟨.tape, x.toNat, b⟩ o s)))) ∧
  (∀ (r : Record) (s : State),
    (∀ before after, s.disp.schedule = before ++ after → s.disp.schedule.length < 32 →
      (∀ x ∈ before, x.remaining ≤ r.remaining) → (∀ x ∈ after, r.remaining < x.remaining) →
      schedule r s = { s with disp := { s.disp with schedule := before ++ r :: after } }) ∧
    (s.disp.schedule.length < 32 → (schedule r s).disp.schedule.length = s.disp.schedule.length + 1 ∧
      r ∈ (schedule r s).disp.schedule ∧ (schedule r s).attn = s.attn) ∧
    (32 ≤ s.disp.schedule.length → schedule r s = raise .scheduleFull r.cue s)) ∧
  (∀ s : State, s.power = .running →
    (s.stn.state = .active → s.stn.showState = .running → (∀ r ∈ s.disp.schedule, 2 ≤ r.remaining) →
      exec .showTick s = .next { s with disp := { s.disp with schedule :=
        (s.disp.schedule.map (fun r => { r with remaining := r.remaining - 1 })) } }) ∧
    (s.stn.state = .active → s.stn.showState = .running →
      (∀ due rest, s.disp.schedule = due ++ rest → (∀ r ∈ due, r.remaining = 1 ∧ r.verb ≠ .follow) →
        (∀ r ∈ rest, 2 ≤ r.remaining) → exec .showTick s = .next (routedAll due (tickedTo rest s))) ∧
      (∀ r rest, s.disp.schedule = r :: rest → r.remaining = 1 → r.verb = .follow →
        (∀ x ∈ rest, 2 ≤ x.remaining) ∨ r.a = 240 ∨ r.a = 243 →
        exec .showTick s = .next (cueArrival r.a .follow (tickedTo rest s)))) ∧
    (s.stn.state ≠ .active ∨ s.stn.showState ≠ .running →
      exec .showTick s = .next s ∧ exec .scheduledRecordDue s = .next s) ∧
    (s.stn.state = .active → s.stn.showState = .running → ∀ r rest, s.disp.schedule = r :: rest → r.remaining = 0 →
      r.verb ≠ .follow → (∀ x ∈ rest, x.remaining ≠ 0) →
      exec .scheduledRecordDue s =
        .next (routeStep ⟨r.verb, r.a, r.b⟩ .ofShow { s with disp := { s.disp with schedule := rest } })))

/-- R32, R33: at its completion the mirror has made the pending bank the live bank's equal and is not busy; a deferred commit is
taken at once and starts a new mirror; no bank but the pending one is written. -/
def Obligations.MirrorCompletes : Prop :=
  ∀ s : State, s.power = .running →
    (s.disp.mirrorBusy = false → exec .mirrorComplete s = .next s) ∧
    (s.disp.mirrorBusy = true →
      ∃ t, exec .mirrorComplete s = .next t ∧ t = { s with disp := t.disp } ∧
        t.disp.bankA = s.disp.liveBank ∧ t.disp.bankB = s.disp.liveBank ∧ t.disp.deferred = false ∧
        t.disp.schedule = s.disp.schedule ∧ t.disp.lastCue = s.disp.lastCue ∧
        t.disp.mirrorBusy = s.disp.deferred ∧
        t.disp.live = if s.disp.deferred then s.disp.live.other else s.disp.live)

/-! ### Transport -/

/-- R72, R73, R51: a tray taken off an idle or jammed Transport, or in a cycle, which jams first and is reported so; a tray fitted where
there was none; and a change straight between 84 and 120, taken as a removal and a fitting. R76: the first code that settles after a
power-on forms the tray record from the code and the retained record, and reports nothing. R77: the first code that settles after
another reset, and every later one, is compared with the size of the record: an equal one changes nothing, and any other is taken as the
removal, the fitting, or both. R168: in COOLING_DOWN the standby condition is tested on what each leaves. (That a code of INVALID with no
tray, and one equal to the size, change nothing but the settling is the model's reading, log 29.) -/
def Obligations.TrayRemovalAndFitting : Prop :=
  (∀ s : State, s.power = .running → s.tray.settling = .settled →
    (∀ (old new : TraySize) (code : TrayCode), s.tray.state ≠ .noTray → s.tray.size = old → old ≠ .none →
      let off : Transport := { s.tray with
        queue := [], darkTimer := false, state := .noTray, size := .none, slot := 0, certainty := .invalid }
      let off := if s.tray.inCycle then { off with cycle := none, keptDrop := false } else off
      let a := match s.tray.state with
        | .cycle ph => s.attn.raise .trayJam ph.code
        | _ => s.attn
      (code = .none ∨ code = .invalid →
        EventLeaves (.trayCodeChange code) s { s with tray := off, attn := a.raise .trayChanged 0 }) ∧
      ((code = .slots84 ∧ new = .slots84) ∨ (code = .slots120 ∧ new = .slots120) → new ≠ old →
        EventLeaves (.trayCodeChange code) s { s with
          tray := { off with state := .idle, size := new, slot := 0, certainty := .certain }
          attn := (a.raise .trayChanged 0).raise .trayChanged new.slots })) ∧
    (s.tray.state = .noTray → s.tray.size = .none →
      EventLeaves (.trayCodeChange .slots84) s { s with
        tray := { s.tray with state := .idle, size := .slots84, slot := 0, certainty := .certain }
        attn := s.attn.raise .trayChanged 84 } ∧
      EventLeaves (.trayCodeChange .slots120) s { s with
        tray := { s.tray with state := .idle, size := .slots120, slot := 0, certainty := .certain }
        attn := s.attn.raise .trayChanged 120 })) ∧
  (∀ s : State, s.power = .running → s.tray.settling ≠ .afterPowerOn →
    let settled : State := { s with tray := { s.tray with settling := .settled } }
    ((s.tray.size = .slots84 → EventLeaves (.trayCodeChange .slots84) s settled) ∧
      (s.tray.size = .slots120 → EventLeaves (.trayCodeChange .slots120) s settled) ∧
      (s.tray.size = .none →
        EventLeaves (.trayCodeChange .none) s settled ∧ EventLeaves (.trayCodeChange .invalid) s settled)) ∧
    ∀ code, ∃ t, exec (.trayCodeChange code) s = .next t ∧ exec (.trayCodeChange code) settled = .next t ∧
      t.tray.settling = .settled) ∧
  (∀ s : State, s.power = .running → s.tray.settling = .afterPowerOn → TrayLaw s →
    (∀ code, code = .none ∨ code = .invalid →
      EventLeaves (.trayCodeChange code) s { s with tray := { s.tray with
        size := .none, slot := 0, certainty := .invalid, state := .noTray, settling := .settled } }) ∧
    (∀ code size, (code = .slots84 ∧ size = .slots84) ∨ (code = .slots120 ∧ size = .slots120) →
      (s.stn.valid = true → s.stn.readRecord[0].toNat = size.slots →
        EventLeaves (.trayCodeChange code) s { s with tray := { s.tray with
          size := size, slot := s.stn.readRecord[1].toNat
          certainty := if s.stn.readRecord[2] = 2#8 then .certain else .uncertain
          state := .idle, settling := .settled } }) ∧
      (s.stn.valid = false ∨ s.stn.readRecord[0].toNat ≠ size.slots →
        EventLeaves (.trayCodeChange code) s { s with tray := { s.tray with
          size := size, slot := 0, certainty := .uncertain, state := .idle, settling := .settled } })))

/-- R58, R59, R61: the head record, a STEP that may start, begins a cycle in CLOSE; one that waits for the dark stays. The expiry of
its wait, with the show not held, marks the head and reports its kind and origin; the head then starts in an IDLE Transport, and stays in
a cycle; in a held show nothing expires (R60). R62: a GOTO or a HOME at the head starts by the tray record: it completes at once, counts the
shorter path, or homes. The record behind becomes the head.
R63, R66: the phases of a cycle follow one another: CLOSE, LIFT, INDEX, DROP, SETTLE, IDLE; the INDEX of a HOME from JAMMED at slot 0
ends as it begins. (That TRAY_JAM is cleared there, as R62 and R65 have it, and not first at the end of SETTLE, R66, is the
model's choice, log 39.)
R55: an offer is refused with its detail, first NO_TRAY, then JAMMED, then BAD_SLOT. R56, R57: a STEP enters the
queue or merges into the newest STEP, and a GOTO or HOME flushes the queue and enters it alone; while a cycle runs it stays there, and in
IDLE, and for a HOME in JAMMED, the head then starts if it may: a STEP that an IDLE Transport with an empty queue is offered starts at once,
or waits for the dark. (A merge of 0 that leaves no head cancels the timer: log 30.) -/
def Obligations.HeadRecordStartsItsCycle : Prop :=
  (∀ (k : MoveKind) (dark : Bool) (o : Origin) (s : State),
    (s.tray.state = .noTray → offerMove k dark o s = raise .moveRefused 1 s) ∧
    (s.tray.state = .jammed → k ≠ .home → offerMove k dark o s = raise .moveRefused 2 s) ∧
    (s.tray.state ≠ .noTray → s.tray.state ≠ .jammed → ∀ n, k = .goto n → s.tray.size.slots ≤ n →
      offerMove k dark o s = raise .moveRefused 3 s) ∧
    (s.power = .running → s.tray.state = .idle ∨ s.tray.inCycle = true → ∀ n, k = .goto n → n < s.tray.size.slots →
      OfferTaken k dark o s { s with tray := { s.tray with queue := [⟨k, dark, false, o⟩], darkTimer := dark } }) ∧
    (s.power = .running → s.tray.state ≠ .noTray → k = .home →
      OfferTaken k dark o s { s with tray := { s.tray with queue := [⟨k, false, false, o⟩], darkTimer := false } })) ∧
  (∀ (c c0 : Int) (dark d0 w : Bool) (o o0 : Origin) (m : Move) (s : State), s.power = .running →
    s.tray.state = .idle ∨ s.tray.inCycle = true →
    let sum := max (-15) (min 15 (c0 + c))
    let merged : Move := ⟨.step sum, d0 || dark, w, o⟩
    (s.tray.queue = [] → OfferTaken (.step c) dark o s
      { s with tray := { s.tray with queue := [⟨.step c, dark, false, o⟩], darkTimer := dark } }) ∧
    (s.tray.queue = [⟨.step c0, d0, w, o0⟩] → OfferTaken (.step c) dark o s
      { s with tray := { s.tray with
        queue := if sum = 0 then [] else [merged]
        darkTimer := if sum = 0 then false else if dark = true ∧ d0 = false then !w else s.tray.darkTimer } }) ∧
    (m.isStep = false → s.tray.queue = [m] → OfferTaken (.step c) dark o s
      { s with tray := { s.tray with queue := [m, ⟨.step c, dark, false, o⟩] } }) ∧
    (m.isStep = false → s.tray.queue = [m, ⟨.step c0, d0, w, o0⟩] → OfferTaken (.step c) dark o s
      { s with tray := { s.tray with queue := if sum = 0 then [m] else [m, merged] } }) ∧
    (s.tray.state = .idle → s.tray.queue = [] → c ≠ 0 →
      (dark = false ∨ s.lamp.dark = true → offerMove (.step c) dark o s =
        { s with tray := { s.tray with
          queue := [], darkTimer := false, state := .cycle .close
          cycle := some ⟨false, if 0 < c then .forward else .backward, false, c.natAbs, 0, none, false⟩ } }) ∧
      (dark = true → s.lamp.dark = false → offerMove (.step c) dark o s =
        { s with tray := { s.tray with queue := [⟨.step c, true, false, o⟩], darkTimer := true } }))) ∧
  (∀ (target : Nat) (dark waited : Bool) (o : Origin) (rest : List Move) (s : State), s.power = .running → s.tray.state = .idle →
    s.tray.queue = ⟨.goto target, dark, waited, o⟩ :: rest →
    (dark = true → s.lamp.dark = false → waited = false → exec .moveStart s = .next s) ∧
    (dark = false ∨ s.lamp.dark = true ∨ waited = true → target < s.tray.size.slots → s.tray.slot < s.tray.size.slots →
    let df := (target + s.tray.size.slots - s.tray.slot) % s.tray.size.slots
    let left : Transport := { s.tray with queue := rest, darkTimer := headWaits rest }
    (s.tray.certainty = .certain → df = 0 → exec .moveStart s = exec .moveStart { s with tray := left } ∧
      (rest = [] → exec .moveStart s = .next { s with tray := left })) ∧
    (s.tray.certainty = .certain → df ≠ 0 →
      exec .moveStart s = .next { s with tray := { left with
        state := .cycle .close
        cycle := some (if df ≤ s.tray.size.slots - df then ⟨false, .forward, false, df, 0, none, false⟩
          else ⟨false, .backward, false, s.tray.size.slots - df, 0, none, false⟩) } }) ∧
    (s.tray.certainty ≠ .certain →
      exec .moveStart s = .next { s with tray := { left with
        state := .cycle .close
        cycle := some ⟨false, .forward, true, 0, 0, some target, false⟩ } }))) ∧
  (∀ (o : Origin) (rest : List Move) (s : State), s.power = .running → s.tray.state = .idle ∨ s.tray.state = .jammed →
    s.tray.queue = ⟨.home, false, false, o⟩ :: rest → s.tray.slot < s.tray.size.slots →
    let left : Transport := { s.tray with queue := rest, darkTimer := headWaits rest }
    (s.tray.certainty = .certain → s.tray.slot = 0 → s.tray.state = .idle →
      exec .moveStart s = exec .moveStart { s with tray := left, attn := s.attn.sideClear .trayJam } ∧
      (rest = [] → exec .moveStart s = .next { s with tray := left, attn := s.attn.sideClear .trayJam })) ∧
    (s.tray.certainty = .certain → s.tray.slot = 0 → s.tray.state = .jammed →
      exec .moveStart s = .next { s with tray := { left with
        state := .cycle .close
        cycle := some ⟨true, .forward, true, 0, 0, none, true⟩ } }) ∧
    (s.tray.certainty = .certain → s.tray.slot ≠ 0 →
      exec .moveStart s = .next { s with tray := { left with
        state := .cycle .close
        cycle := some ⟨true, if s.tray.size.slots - s.tray.slot ≤ s.tray.slot then .forward else .backward,
          true, 0, 0, none, false⟩ } }) ∧
    (s.tray.certainty ≠ .certain →
      exec .moveStart s = .next { s with tray := { left with
        state := .cycle .close
        cycle := some ⟨true, .forward, true, 0, 0, none, false⟩ } })) ∧
  (∀ (c : Int) (dark waited : Bool) (o : Origin) (rest : List Move) (s : State), s.power = .running → s.tray.state = .idle →
    s.tray.queue = ⟨.step c, dark, waited, o⟩ :: rest → c ≠ 0 →
    let begun : Transport := { s.tray with
      queue := rest, darkTimer := headWaits rest, state := .cycle .close
      cycle := some ⟨false, if 0 < c then .forward else .backward, false, c.natAbs, 0, none, false⟩ }
    (dark = false ∨ s.lamp.dark = true ∨ waited = true → exec .moveStart s = .next { s with tray := begun }) ∧
    (dark = true → s.lamp.dark = false → waited = false → exec .moveStart s = .next s) ∧
    (s.tray.darkTimer = true → ¬(s.stn.state = .active ∧ s.stn.showState = .held) →
      exec .darkWaitTimeout s = .next { s with
        tray := begun, attn := s.attn.raise .darkWaitTimeout (256 + if o = .direct then 1 else 0) })) ∧
  (∀ (m : Move) (rest : List Move) (s : State), s.power = .running → s.tray.queue = m :: rest → m.kind ≠ .home →
    let expired : State := { s with
      tray := { s.tray with queue := { m with waitOver := true } :: rest, darkTimer := false }
      attn := s.attn.raise .darkWaitTimeout ((if m.isStep then 256 else 512) + if m.origin = .direct then 1 else 0) }
    (s.tray.darkTimer = true → ¬(s.stn.state = .active ∧ s.stn.showState = .held) →
      exec .darkWaitTimeout s = exec .moveStart expired ∧
      (s.tray.inCycle = true → exec .darkWaitTimeout s = .next expired)) ∧
    (s.tray.darkTimer = false ∨ (s.stn.state = .active ∧ s.stn.showState = .held) →
      exec .darkWaitTimeout s = .next s)) ∧
  (∀ (cy : Cycle) (s : State), s.power = .running → s.tray.cycle = some cy → cy.atOnce = false →
    s.tray.keptDrop = false → s.stn.state ≠ .coolingDown →
    (s.tray.state = .cycle .close →
      exec (.closePhaseEnd false) s = .next { s with tray := { s.tray with state := .cycle .lift } } ∧
      exec (.closePhaseEnd true) s = .next { s with tray := { s.tray with state := .cycle .index } }) ∧
    (s.tray.state = .cycle .lift → exec .camMid s = .next { s with tray := { s.tray with state := .cycle .index } }) ∧
    (s.tray.state = .cycle .drop → exec .camHome s = .next { s with tray := { s.tray with state := .cycle .settle } }) ∧
    (s.tray.state = .cycle .settle → s.tray.queue = [] →
      exec .settleEnd s = .next { s with
        tray := { s.tray with state := .idle, cycle := none, keptDrop := false }
        attn := if cy.isHome then s.attn.sideClear .trayJam else s.attn }) ∧
    (s.tray.state ≠ .cycle .close → exec (.closePhaseEnd false) s = .next s) ∧
    (s.tray.state ≠ .cycle .lift → exec .camMid s = .next s) ∧
    (s.tray.state ≠ .cycle .drop → exec .camHome s = .next s) ∧
    (s.tray.state ≠ .cycle .settle → exec .settleEnd s = .next s)) ∧
  (∀ (cy : Cycle) (s : State), s.power = .running → s.tray.cycle = some cy → cy.atOnce = true → cy.homing = true →
    cy.target = none → s.tray.certainty = .certain → s.tray.slot = 0 → s.tray.state = .cycle .lift →
    exec .camMid s = .next { s with
      tray := { s.tray with state := .cycle .drop }, attn := s.attn.sideClear .trayJam })

/-- R64, R65, R53: in a counted INDEX a pulse moves the slot by one on its tray and ends INDEX at the cycle's number; a home mark
corrects slot and certainty and leaves the count; outside INDEX, in whatever state and cycle, both change nothing. R62: in a homing pass a pulse counts on, and the
home mark corrects the tray record, clears TRAY_JAM, and ends INDEX, or goes on along the shorter path to a GOTO's target. (R168: the event
of a pulse has the standby condition tested in COOLING_DOWN; in a cycle it does not hold.) -/
def Obligations.IndexCountsAndCorrects : Prop :=
  (∀ (cy : Cycle) (s : State), s.power = .running → s.tray.cycle = some cy → cy.homing = false → s.tray.state = .cycle .index →
    exec .indexPulse s = .next { s with tray := { s.tray with
      slot := match cy.dir with
        | .forward => (s.tray.slot + 1) % s.tray.size.slots
        | .backward => (s.tray.slot + s.tray.size.slots - 1) % s.tray.size.slots
      cycle := some { cy with counted := cy.counted + 1 }
      state := if cy.count ≤ cy.counted + 1 then .cycle .drop else .cycle .index } } ∧
    exec .homeMark s = .next (
      if s.tray.certainty = .certain ∧ s.tray.slot = 0 then s
      else { s with
        tray := { s.tray with slot := 0, certainty := .certain }
        attn := if s.tray.certainty = .certain then s.attn.raise .trayResync s.tray.slot else s.attn })) ∧
  (∀ s : State, s.power = .running → s.tray.state ≠ .cycle .index →
    EventLeaves .indexPulse s s ∧ exec .homeMark s = .next s ∧ exec .homingPassLimit s = .next s) ∧
  (∀ (cy : Cycle) (s : State), s.power = .running → s.tray.cycle = some cy → cy.homing = true → s.tray.state = .cycle .index →
    (cy.counted + 1 < s.tray.size.slots + 2 →
      exec .indexPulse s = .next { s with tray := { s.tray with
        slot := match cy.dir with
          | .forward => (s.tray.slot + 1) % s.tray.size.slots
          | .backward => (s.tray.slot + s.tray.size.slots - 1) % s.tray.size.slots
        cycle := some { cy with counted := cy.counted + 1 } } }) ∧
    (∀ n, cy.target.getD 0 = n → n < s.tray.size.slots →
      exec .homeMark s = .next { s with
        tray := { s.tray with
          slot := 0
          certainty := .certain
          state := if n = 0 then .cycle .drop else .cycle .index
          cycle := some (if n = 0 then cy
            else if n ≤ s.tray.size.slots - n then ⟨false, .forward, false, n, 0, none, false⟩
            else ⟨false, .backward, false, s.tray.size.slots - n, 0, none, false⟩) }
        attn := (if s.tray.certainty = .certain ∧ s.tray.slot ≠ 0 then s.attn.raise .trayResync s.tray.slot
          else s.attn).sideClear .trayJam }))

/-- R70, R64: a phase that outlasts its time, or a homing pass that counts size + 2 pulses, jams the Transport. R78: a drop kept by a
loop reset ends at CAM HOME with the certainty it had, and at its timer UNCERTAIN with no TRAY_JAM; either way the Transport is IDLE
with no SETTLE, and a STEP that waits starts. -/
def Obligations.OverrunJams : Prop :=
  (∀ s : State, s.power = .running → s.stn.state ≠ .coolingDown → s.tray.keptDrop = true → s.tray.state = .cycle .drop →
    let ended := { s.tray with state := .idle, cycle := none, keptDrop := false }
    (s.tray.queue = [] →
      exec .camHome s = .next { s with tray := ended } ∧
      exec .dropTimeout s = .next { s with tray := { ended with certainty := .uncertain } }) ∧
    (∀ (c : Int) (w : Bool) (o : Origin), s.tray.queue = [⟨.step c, false, w, o⟩] → c ≠ 0 →
      let begun := { ended with
        queue := [], darkTimer := false, state := .cycle .close
        cycle := some ⟨false, if 0 < c then .forward else .backward, false, c.natAbs, 0, none, false⟩ }
      exec .camHome s = .next { s with tray := begun } ∧
      exec .dropTimeout s = .next { s with tray := { begun with certainty := .uncertain } })) ∧
  (∀ s : State, s.power = .running → s.stn.state ≠ .coolingDown → s.tray.keptDrop = false →
    (s.tray.state = .cycle .lift →
      exec .liftTimeout s = .next { s with
        tray := { s.tray with queue := [], darkTimer := false, state := .jammed, cycle := none }
        attn := s.attn.raise .trayJam 2 }) ∧
    (s.tray.state = .cycle .index →
      exec .indexTimeout s = .next { s with
        tray := { s.tray with queue := [], darkTimer := false, state := .jammed, cycle := none, certainty := .uncertain }
        attn := s.attn.raise .trayJam 3 }) ∧
    (s.tray.state = .cycle .drop →
      exec .dropTimeout s = .next { s with
        tray := { s.tray with queue := [], darkTimer := false, state := .jammed, cycle := none }
        attn := s.attn.raise .trayJam 4 }) ∧
    (s.tray.state = .cycle .index → ∀ cy, s.tray.cycle = some cy → cy.homing = true →
      cy.counted + 1 = s.tray.size.slots + 2 →
      ∃ t, exec .homingPassLimit s = .next t ∧ t.tray.state = .jammed ∧ t.tray.certainty = .uncertain ∧
        t.tray.queue = [] ∧ t.attn = s.attn.raise .trayJam 3 ∧
        t = { s with tray := t.tray, attn := t.attn }))

/-! ### Lamp and cooling -/

/-- R82, R86, R87, R90, R93, R96: one lamp tick of a burning lamp with no record waiting in the Transport, that is not the tenth:
ramp step, drive output within floor, ceiling and slew, LIT from WARMING once the drive output has reached the floor, failure count,
energy sum.
R86, R87: the lamp tick that ends an unfrozen ramp, a DIRECT one or one of a show that is not held, leaves p at its target with the ramp
not running; with no ramp running, one frozen, or the lamp out, no tick ends one (log 2); R97: the tick that brings the
failure count to 20 puts the lamp in FAILED and reports its drive output. Each is taken before the tenth tick, with the tray's
queue empty. (The order within the tick is the model's reading, logs 17 and 18.) -/
def Obligations.LampTickRampsAndDrives : Prop :=
  (∀ (current : Bool) (s : State), s.power = .running → s.stn.state ≠ .coolingDown → s.tray.queue = [] →
    s.lamp.burning = true → s.lamp.ticks < 9 → s.lamp.failCount < 19 →
    ∃ t, exec (.lampTick current) s = .next t ∧ t = { s with lamp := t.lamp, cool := t.cool } ∧
      t.lamp.state = (if s.stn.items.preheat ≤ t.lamp.drive then .lit else s.lamp.state) ∧
      (t.lamp.ramp, t.lamp.p) =
        (if s.lamp.ramp.running = false ∨ (s.lamp.ramp.origin = .ofShow ∧ s.stn.state = .active ∧ s.stn.showState = .held)
        then (s.lamp.ramp, s.lamp.p) else s.lamp.ramp.step) ∧
      t.lamp.drive = min (min (max (curveValue s.lamp.curve t.lamp.p) s.stn.items.preheat) s.cool.ceiling)
        (s.lamp.slewMem + s.stn.items.slew) ∧
      t.lamp.slewMem = t.lamp.drive ∧ t.lamp.energy = s.lamp.energy + t.lamp.drive ∧
      t.lamp.ticks = s.lamp.ticks + 1 ∧
      t.lamp.failCount =
        (if t.lamp.state = .lit ∧ 100 ≤ t.lamp.drive ∧ current = false then s.lamp.failCount + 1 else 0) ∧
      t.lamp.lastTarget = s.lamp.lastTarget ∧ t.lamp.curve = s.lamp.curve ∧
      (t.lamp.state = s.lamp.state → t.cool = s.cool) ∧
      (t.lamp.state ≠ s.lamp.state → s.stn.state ≠ .standby →
        t.cool = s.cool.setStage (max (max s.cool.heatStage 1) (if s.cool.tripped then 3 else 0)))) ∧
  (∀ (current : Bool) (s : State), s.power = .running → s.stn.state ≠ .coolingDown → s.tray.queue = [] →
    s.lamp.ticks < 9 →
    (s.lamp.burning = false ∨ s.lamp.ramp.running = false ∨
        (s.lamp.ramp.origin = .ofShow ∧ s.stn.state = .active ∧ s.stn.showState = .held) →
      exec (.lampRampEnd current) s = .next s) ∧
    (s.lamp.burning = true → s.lamp.ramp.running = true →
      ¬(s.lamp.ramp.origin = .ofShow ∧ s.stn.state = .active ∧ s.stn.showState = .held) → s.lamp.failCount < 19 →
      s.lamp.ramp.length = 0 ∨ s.lamp.ramp.target = s.lamp.ramp.start ∨ s.lamp.ramp.count + 1 = s.lamp.ramp.length →
      ∃ t, exec (.lampRampEnd current) s = .next t ∧ t.lamp.p = s.lamp.ramp.target ∧ t.lamp.ramp.running = false ∧
        t.lamp.ramp.target = s.lamp.ramp.target ∧ t.lamp.ticks = s.lamp.ticks + 1 ∧
        t = { s with lamp := t.lamp, cool := t.cool } ∧ (s.lamp.state = .lit → t.cool = s.cool)) ∧
    (s.lamp.state = .lit → s.lamp.failCount = 19 → s.cool.tripped = false → s.cool.heatStage ≤ 3 →
      100 ≤ (tickedLamp false s).drive →
      ∃ t, exec .lampFailed s = .next t ∧ t.lamp.state = .failed ∧ t.lamp.p = 0 ∧ t.lamp.drive = 0 ∧
        t.lamp.failCount = 0 ∧ t.lamp.ramp.running = false ∧
        t.lamp.energy = s.lamp.energy + (tickedLamp false s).drive ∧
        t.attn = s.attn.raise .lampFailed (tickedLamp false s).drive ∧
        t = { s with lamp := t.lamp, cool := t.cool, attn := t.attn }))

/-- R104, R105, R106, R115, R116, R117: a cooling tick of a dark lamp that starts and leaves no trip: the new heat estimate, heat
stage, ceiling, derate mark and cool indication. R113, R114, R94, R95: H at H_max or above makes THERMAL active, which trips a LIT
lamp, puts the fan at 3 and reports H; H below H_resume clears it, and a TRIPPED lamp that no other cause holds goes to OFF. R91: a
new ceiling below the drive output lowers it at once. R94, R97: where a new THERMAL cause and the failure limit fall together, either may
be taken first: the trip (the lamp TRIPPED, the count gone, no LAMP_FAILED) or the failure (the lamp FAILED and reported, and left so by
the trip). (That COOLING_TICK is the first order, LAMP_FAILED the second and LAMP_TICK a free one is the model's choice, log 41.) -/
def Obligations.CoolingTickUpdatesHeat : Prop :=
  (∀ (current : Bool) (s : State), s.power = .running → s.stn.state = .active → s.tray.queue = [] →
    s.lamp.state = .off → s.lamp.drive = 0 → s.lamp.ramp.running = false → s.lamp.ticks = 9 →
    s.cool.thermal = false →
    nextHeat s.cool.heat s.lamp.energy s.stn.items.heatGain (s.stn.items.loss s.cool.fanStage) < s.stn.items.heatMax →
    ∃ t, exec (.coolingTick current) s = .next t ∧
      t.cool.heat = min 65535 (s.cool.heat + s.lamp.energy * s.stn.items.heatGain / 1024 -
        (if s.cool.heat = 0 then 0 else max 1 (s.cool.heat * s.stn.items.loss s.cool.fanStage / 4096))) ∧
      t.cool.heatStage = nextHeatStage s.stn.items t.cool.heat s.cool.heatStage ∧
      t.cool.ceiling = ceilingOf s.stn.items t.cool.heat ∧ t.cool.thermal = false ∧
      t.cool.cool = decide (t.cool.heat < s.stn.items.heatCool) ∧
      t.cool.fanStage = max t.cool.heatStage (if s.cool.tripped then 3 else 0) ∧
      t.cool.derateArmed = (if s.cool.derateArmed then decide (1023 ≤ t.cool.ceiling) else decide (t.cool.ceiling = 1023)) ∧
      t.attn = (if s.cool.derateArmed ∧ t.cool.ceiling < 1023 then s.attn.raise .thermalDerate t.cool.ceiling else s.attn) ∧
      t.lamp.energy = 0 ∧ t.lamp.ticks = 0 ∧ t.lamp.drive = 0 ∧ t.lamp.state = .off ∧
      t = { s with lamp := t.lamp, cool := t.cool, attn := t.attn }) ∧
  (∀ (current : Bool) (s : State), s.power = .running → s.stn.state = .active → s.tray.queue = [] →
    s.lamp.state = .lit → s.lamp.ticks = 9 → s.lamp.failCount < 19 → s.cool.thermal = false →
    let l := tickedLamp current s
    let heat := nextHeat s.cool.heat l.energy s.stn.items.heatGain (s.stn.items.loss s.cool.fanStage)
    ∃ t, exec (.coolingTick current) s = .next t ∧ t = { s with lamp := t.lamp, cool := t.cool, attn := t.attn } ∧
      t.cool.heat = heat ∧ t.cool.ceiling = ceilingOf s.stn.items heat ∧ t.lamp.energy = 0 ∧ t.lamp.ticks = 0 ∧
      (heat < s.stn.items.heatMax →
        t.cool.thermal = false ∧ t.lamp.state = .lit ∧ t.lamp.p = l.p ∧ t.lamp.ramp = l.ramp ∧
        t.lamp.drive = min l.drive t.cool.ceiling ∧ t.lamp.slewMem = t.lamp.drive) ∧
      (s.stn.items.heatMax ≤ heat →
        t.cool.thermal = true ∧ t.cool.fanStage = 3 ∧ t.lamp.state = .tripped ∧ t.lamp.p = 0 ∧ t.lamp.drive = 0 ∧
        t.lamp.slewMem = 0 ∧ t.lamp.ramp.running = false ∧
        t.attn = (let a := s.attn.raise .thermalTrip heat
          if s.cool.derateArmed ∧ t.cool.ceiling < 1023 then a.raise .thermalDerate t.cool.ceiling else a))) ∧
  (∀ (current : Bool) (s : State), s.power = .running → s.stn.state = .active → s.tray.queue = [] →
    s.lamp.state = .tripped → s.lamp.ramp.running = false → s.lamp.ticks = 9 → s.cool.thermal = true →
    let heat := nextHeat s.cool.heat s.lamp.energy s.stn.items.heatGain (s.stn.items.loss s.cool.fanStage)
    ∃ t, exec (.coolingTick current) s = .next t ∧ t = { s with lamp := t.lamp, cool := t.cool, attn := t.attn } ∧
      t.cool.heat = heat ∧
      t.attn = (if s.cool.derateArmed ∧ t.cool.ceiling < 1023 then s.attn.raise .thermalDerate t.cool.ceiling else s.attn) ∧
      (heat < s.stn.items.heatResume →
        t.cool.thermal = false ∧
        t.lamp.state = (if s.cool.fanStall = true ∨ s.cool.cutout = true then .tripped else .off) ∧
        t.cool.fanStage = max t.cool.heatStage (if s.cool.fanStall = true ∨ s.cool.cutout = true then 3 else 0)) ∧
      (s.stn.items.heatResume ≤ heat → t.cool.thermal = true ∧ t.lamp.state = .tripped)) ∧
  (∀ s : State, s.power = .running → s.stn.state = .active → s.tray.queue = [] →
    s.lamp.state = .lit → s.lamp.ticks = 9 → s.lamp.failCount = 19 → s.cool.tripped = false → s.cool.heatStage ≤ 3 →
    let l := tickedLamp false s
    let tripFirst := nextHeat s.cool.heat l.energy s.stn.items.heatGain (s.stn.items.loss s.cool.fanStage)
    let failFirst := nextHeat s.cool.heat l.energy s.stn.items.heatGain (s.stn.items.loss s.cool.heatStage)
    100 ≤ l.drive →
    (s.stn.items.heatMax ≤ tripFirst →
      ∃ t, exec (.coolingTick false) s = .next t ∧ t.cool.heat = tripFirst ∧ t.cool.thermal = true ∧
        t.lamp.state = .tripped ∧ t.lamp.failCount = 0 ∧ t.lamp.drive = 0 ∧
        t.attn = (let a := s.attn.raise .thermalTrip tripFirst
          if s.cool.derateArmed ∧ t.cool.ceiling < 1023 then a.raise .thermalDerate t.cool.ceiling else a)) ∧
    (s.stn.items.heatMax ≤ failFirst →
      ∃ t, exec .lampFailed s = .next t ∧ t.cool.heat = failFirst ∧ t.cool.thermal = true ∧
        t.lamp.state = .failed ∧ t.lamp.failCount = 0 ∧ t.lamp.drive = 0 ∧
        t.attn = (let a := (s.attn.raise .lampFailed l.drive).raise .thermalTrip failFirst
          if s.cool.derateArmed ∧ t.cool.ceiling < 1023 then a.raise .thermalDerate t.cool.ceiling else a)) ∧
    (s.stn.items.heatMax ≤ tripFirst → s.stn.items.heatMax ≤ failFirst →
      ∃ t, exec (.lampTick false) s = .next t ∧ t.cool.thermal = true ∧ (t.lamp.state = .tripped ∨ t.lamp.state = .failed)))

/-- R109, R110, R111: pulses are counted up to 255; a gate that is not tested reports its count; a tested count below the minimum
of its stage stalls the fan, which goes to 3 with the lamp out (its attention and detail are not stated here), and one that meets it changes nothing; a tested count that meets the minimum clears a stall, with the
tray's queue empty, and a TRIPPED lamp that no other cause holds goes to OFF; the spin-up timer elapses where it runs; under FAN_STALL a
cutout that opens or closes marks the gate, which then goes untested, though the fan stays at 3. (That
with the fan at 3 and no FAN_STALL none is made is the model's choice, log 40, and is not stated.)
R112, R114, R94, R95, with the tray's queue empty: an opened cutout trips a burning lamp, puts the fan at 3 and reports; the closing of
the last cause lets a tripped lamp go to OFF. (That a repeated level of the cutout changes nothing is the model's reading, log 29.) -/
def Obligations.TachAndCutoutTrip : Prop :=
  (∀ s : State, s.power = .running →
    exec .fanTachPulse s = .next { s with cool := { s.cool with gateCount := min 255 (s.cool.gateCount + 1) } } ∧
    ((s.cool.fanStage = 0 ∨ s.cool.spinUp ≠ .elapsed ∨ s.cool.stageChanged = true) ∨
        (s.cool.fanStall = false ∧ s.stn.items.tachMin s.cool.fanStage ≤ s.cool.gateCount) →
      exec .tachGateEnd s = .next { s with cool := { s.cool with
        lastTach := s.cool.gateCount, gateCount := 0, stageChanged := false } }) ∧
    (s.cool.fanStage ≠ 0 → s.cool.spinUp = .elapsed → s.cool.stageChanged = false → s.cool.fanStall = false →
      s.cool.gateCount < s.stn.items.tachMin s.cool.fanStage → s.cool.heatStage ≤ 3 →
      ∃ t, exec .tachGateEnd s = .next t ∧ t.cool.fanStall = true ∧ t.cool.fanStage = 3 ∧ t.lamp.burning = false ∧
        t.cool.lastTach = s.cool.gateCount ∧ t.cool.gateCount = 0 ∧ t.cool.stageChanged = false) ∧
    (s.cool.fanStage ≠ 0 → s.cool.spinUp = .elapsed → s.cool.stageChanged = false → s.cool.fanStall = true →
      s.cool.gateCount < s.stn.items.tachMin s.cool.fanStage →
      exec .tachGateEnd s = .next { s with cool := { s.cool with
        lastTach := s.cool.gateCount, gateCount := 0, stageChanged := false } }) ∧
    (s.cool.fanStage ≠ 0 → s.cool.spinUp = .elapsed → s.cool.stageChanged = false → s.cool.fanStall = true →
      s.stn.items.tachMin s.cool.fanStage ≤ s.cool.gateCount → s.tray.queue = [] → s.lamp.burning = false →
      s.cool.thermal = false → s.cool.cutout = false → s.stn.state = .active →
      ∃ t, exec .tachGateEnd s = .next t ∧ t = { s with lamp := t.lamp, cool := t.cool } ∧ t.cool.fanStall = false ∧
        t.cool.fanStage = s.cool.heatStage ∧ t.cool.lastTach = s.cool.gateCount ∧ t.cool.gateCount = 0 ∧
        t.cool.stageChanged = false ∧ t.lamp = if s.lamp.state = .tripped then s.lamp.extinguish .off else s.lamp) ∧
    exec .spinUpElapsed s = .next { s with cool := { s.cool with
      spinUp := if s.cool.spinUp = .running then .elapsed else s.cool.spinUp } }) ∧
  (∀ s : State, s.power = .running → s.tray.queue = [] → s.cool.heatStage ≤ 3 →
    (s.cool.cutout = false → s.lamp.burning = true → s.stn.state ≠ .coolingDown →
      ∃ t, exec (.cutoutChange true) s = .next t ∧ t.lamp = s.lamp.extinguish .tripped ∧ t.cool.cutout = true ∧
        t.cool.fanStage = 3 ∧ t.attn = s.attn.raise .cutoutOpen 0 ∧
        t = { s with lamp := t.lamp, cool := t.cool, attn := t.attn }) ∧
    (s.cool.cutout = true → s.cool.thermal = false → s.cool.fanStall = false → s.lamp.state = .tripped →
      ∃ t, exec (.cutoutChange false) s = .next t ∧ t.lamp = s.lamp.extinguish .off ∧ t.cool.cutout = false ∧
        t = { s with lamp := t.lamp, cool := t.cool }) ∧
    (s.cool.fanStall = true → ∀ opened, opened ≠ s.cool.cutout →
      ∃ t, exec (.cutoutChange opened) s = .next t ∧ t.cool.cutout = opened ∧ t.cool.stageChanged = true ∧ t.cool.fanStage = 3 ∧
        exec .tachGateEnd t = .next { t with cool := { t.cool with
          lastTach := t.cool.gateCount, gateCount := 0, stageChanged := false } }) ∧
    exec (.cutoutChange s.cool.cutout) s = .next s)

/-! ### Deck and sound -/

/-- R123: a cassette's removal from every deck state, and its insertion; without a deck neither changes anything. R125, R132: the brake
timer's expiry enters the pending mode: STOPPED, PLAYING, PAUSED with the hold mark, WINDING_FWD, or WINDING_REV with or without its to-zero
mark, and STOPPED where that mark meets a counter of 0. R131: the reel silence timer's expiry ends each motion mode, dropping the to-zero
mark, with its detail. R133: each entry and departure has the decoder gate and its timer follow; the timer's expiry opens the gate.
R168: in COOLING_DOWN the standby condition is tested on what each leaves.
(That a level already taken changes nothing is log 29; that an expiry whose timer does not run has no effect is log 2.)
R129, R130: a reel pulse moves the tape counter by the deck state, within 0..65535; a rewind to zero brakes to STOPPED when
the counter comes to 0. -/
def Obligations.DeckEventsMoveDeck : Prop :=
  (∀ s : State, s.power = .running →
    (s.stn.strapDeck = true →
      (s.deck.state = .noCassette →
        EventLeaves (.cassetteChange true) s
          (let t := inDeckState .stopped s
          { t with deck := { t.deck with counter := 0 } }) ∧
        EventLeaves (.cassetteChange false) s s) ∧
      (s.deck.state ≠ .noCassette →
        EventLeaves (.cassetteChange false) s (inDeckState .noCassette s) ∧ EventLeaves (.cassetteChange true) s s)) ∧
    (s.stn.strapDeck = false → ∀ b, EventLeaves (.cassetteChange b) s s) ∧
    (∀ m coast, s.deck.state = .braking m coast →
      EventLeaves .brakeTimerExpiry s (inDeckState (match m with
        | .stopped => .stopped
        | .playing => .playing
        | .pausedHold => .paused true
        | .windingFwd => .windingFwd
        | .windingRev toZero => if toZero = true ∧ s.deck.counter = 0 then .stopped else .windingRev toZero) s)) ∧
    (s.deck.state.isBraking = false → EventLeaves .brakeTimerExpiry s s) ∧
    EventLeaves .reelSilenceExpiry s (match s.deck.state with
      | .playing => { inDeckState .stopped s with attn := s.attn.raise .tapeEnd 1 }
      | .windingFwd => { inDeckState .stopped s with attn := s.attn.raise .tapeEnd 2 }
      | .windingRev toZero => { inDeckState .stopped s with attn := s.attn.raise .tapeEnd (if toZero then 4 else 3) }
      | .noCassette => s | .stopped => s | .braking _ _ => s | .paused _ => s) ∧
    (s.deck.state = .playing → s.deck.gateTimer = true →
      exec .decoderGateOpen s = .next { s with
        deck := { s.deck with gateTimer := false, gateOpen := true }
        dec := s.dec.openGate s.stn.items.tapeCueMode }) ∧
    (s.deck.state ≠ .playing ∨ s.deck.gateTimer = false → exec .decoderGateOpen s = .next s)) ∧
  (∀ s : State, s.power = .running →
    (s.deck.state = .playing ∨ s.deck.state = .windingFwd ∨ (∃ m, s.deck.state = .braking m .forward) →
      exec .reelPulse s = .next { s with deck := { s.deck with counter := min 65535 (s.deck.counter + 1) } }) ∧
    (s.deck.state = .windingRev false ∨ (∃ m, s.deck.state = .braking m .backward) →
      exec .reelPulse s = .next { s with deck := { s.deck with counter := s.deck.counter - 1 } }) ∧
    (s.deck.state = .windingRev true → 2 ≤ s.deck.counter →
      exec .reelPulse s = .next { s with deck := { s.deck with counter := s.deck.counter - 1 } }) ∧
    (s.deck.state = .windingRev true → s.deck.counter = 1 → s.deck.gateOpen = false →
      exec .reelPulse s = .next { s with deck := { s.deck with
        counter := 0, state := .braking .stopped .backward, gateTimer := false } }) ∧
    (s.deck.state = .stopped ∨ s.deck.state = .noCassette ∨ (∃ h, s.deck.state = .paused h) ∨
        (∃ m, s.deck.state = .braking m .still) →
      exec .reelPulse s = .next s))

/-- R136: a sound tick steps the running, unfrozen ramp, and the one that ends it leaves the volume at the target. -/
def Obligations.SoundTickStepsVolume : Prop :=
  ∀ s : State, s.power = .running →
    (s.deck.ramp.running = true → ¬(s.deck.ramp.origin = .ofShow ∧ s.stn.state = .active ∧ s.stn.showState = .held) →
      exec .soundTick s = .next { s with deck := { s.deck with ramp := s.deck.ramp.step.1, volume := s.deck.ramp.step.2 } } ∧
      (s.deck.ramp.length = 0 ∨ s.deck.ramp.target = s.deck.ramp.start ∨ s.deck.ramp.count + 1 = s.deck.ramp.length →
        ∃ t, exec .soundRampEnd s = .next t ∧ t.deck.volume = s.deck.ramp.target ∧ t.deck.ramp.running = false ∧
          t = { s with deck := t.deck })) ∧
    (s.deck.ramp.running = false ∨ (s.deck.ramp.origin = .ofShow ∧ s.stn.state = .active ∧ s.stn.showState = .held) →
      exec .soundTick s = .next s ∧ exec .soundRampEnd s = .next s)

/-! ### The cue-track decoder -/

/-- R141, R142: a crossing outside CLOSED gives the period its class, the first one only starts the timing. R143: a sample reads 0 after a
recent SPACE and 1 after anything else; 0 in HUNTING begins a start bit, and two more begin READING with the shift word cleared; a 1 leaves
HUNTING, or returns to it. R144: READING takes the data bits, the parity bit and the stop bit at their samples and passes over the
others. R145: an even count and a stop bit of 0 end the word, counted and reported. R146, R147: a good word equal to the guard is ignored; any
other becomes the candidate, replaces it, or confirms the cue.
(An age of 2000 microseconds is recent by the model's reading, log 19.) -/
def Obligations.PeriodsAndSamples : Prop :=
  (∀ (us age : Nat) (s : State), s.power = .running →
    (s.dec.state ≠ .closed → s.dec.timing = true →
      exec (.cueTrackPeriod us) s = .next { s with dec := { s.dec with lastPeriod := some (
        if 300 ≤ us ∧ us ≤ 420 then .mark else if 480 ≤ us ∧ us ≤ 680 then .space else .neither) } }) ∧
    (s.dec.state ≠ .closed → s.dec.timing = false →
      exec (.cueTrackPeriod us) s = .next { s with dec := { s.dec with timing := true } }) ∧
    (s.dec.state = .closed → exec (.cueTrackPeriod us) s = .next s ∧ exec (.cueTrackSample age) s = .next s)) ∧
  (∀ (age : Nat) (zero : Bool) (s : State), s.power = .running → zero = decide (s.dec.lastPeriod = some .space ∧ age ≤ 2000) →
    let hunting : Decoder := { s.dec with state := .hunting }
    (s.dec.state = .hunting →
      exec (.cueTrackSample age) s = .next { s with dec := if zero then { s.dec with state := .starting 0 } else s.dec }) ∧
    (s.dec.state = .starting 0 →
      exec (.cueTrackSample age) s = .next { s with dec := if zero then { s.dec with state := .starting 1 } else hunting }) ∧
    (s.dec.state = .starting 1 →
      exec (.cueTrackSample age) s = .next { s with dec :=
        if zero then { s.dec with state := .reading 2, data := 0#8, parity := false } else hunting }) ∧
    (∀ q, s.dec.state = .reading q → 2 ≤ q → q ≤ 50 → q % 5 ≠ 1 →
      exec (.cueTrackSample age) s = .next { s with dec := { s.dec with state := .reading (q + 1) } }) ∧
    (∀ i, i < 8 → s.dec.state = .reading (6 + 5 * i) →
      exec (.cueTrackSample age) s = .next { s with dec := { s.dec with
        state := .reading (7 + 5 * i), data := if zero then s.dec.data else s.dec.data ||| (1#8 <<< i) } }) ∧
    (s.dec.state = .reading 46 →
      exec (.cueTrackSample age) s = .next (
        if parityPasses s.dec.data (!zero) then { s with dec := { s.dec with state := .reading 47, parity := !zero } }
        else { s with
          dec := { hunting with parity := !zero }
          attn := (s.attn.count .tapeWordError).raise .tapeCueFault (256 + s.dec.data.toNat) })) ∧
    (s.dec.state = .reading 51 →
      exec (.cueTrackSample age) s = .next (
        if zero then { s with
          dec := hunting, attn := (s.attn.count .tapeWordError).raise .tapeCueFault (512 + s.dec.data.toNat) }
        else if s.dec.guardWord = some s.dec.data then { s with dec := hunting }
        else match s.dec.candidate with
          | none => { s with dec := { hunting with candidate := some s.dec.data } }
          | some c =>
            if c = s.dec.data then
              handOn s.dec.data.toNat { s with dec := { hunting with candidate := none, guardWord := some s.dec.data } }
            else { s with
              dec := { hunting with candidate := some s.dec.data }, attn := s.attn.count .tapeUnconfirmed })))

/-- R144, R145, R146, R147, R150: a word read from the start of READING with passing parity and stop bit becomes the candidate where
there is none; a word that differs from the candidate counts one TAPE_UNCONFIRMED and takes its place; the second reading of the
candidate confirms it: the candidate goes, the guard is set, and the cue is handed on; a word equal to the guard changes nothing but the decoder's own reading; a parity or stop bit that fails is counted and reported, and leaves
the candidate; the guard timer's expiry takes the guard away. -/
def Obligations.TapeWordsRead : Prop :=
  ∀ (data : Byte) (parity stop : Bool) (s : State), s.power = .running →
    (s.dec.state = .reading 2 → s.dec.data = 0#8 →
      (parityPasses data parity = true → stop = true → s.dec.candidate = none → s.dec.guardWord ≠ some data →
        exec (.tapeWord data parity stop) s = .next { s with dec := { s.dec with
          state := .hunting, data := data, parity := parity, candidate := some data } }) ∧
      (parityPasses data parity = true → stop = true → s.dec.guardWord ≠ some data →
        ∀ c, s.dec.candidate = some c → c ≠ data →
          exec (.tapeWord data parity stop) s = .next { s with
            dec := { s.dec with state := .hunting, data := data, parity := parity, candidate := some data }
            attn := s.attn.count .tapeUnconfirmed }) ∧
      (parityPasses data parity = true → stop = true → s.dec.candidate = some data → s.dec.guardWord ≠ some data →
        exec (.tapeWord data parity stop) s = .next (handOn data.toNat { s with dec := { s.dec with
          state := .hunting, data := data, parity := parity, candidate := none, guardWord := some data } })) ∧
      (parityPasses data parity = true → stop = true → s.dec.guardWord = some data →
        exec (.tapeWord data parity stop) s = .next { s with dec := { s.dec with
          state := .hunting, data := data, parity := parity } }) ∧
      (parityPasses data parity = false →
        exec (.tapeWord data parity stop) s = .next { s with
          dec := { s.dec with state := .hunting, data := data, parity := parity }
          attn := (s.attn.count .tapeWordError).raise .tapeCueFault (256 + data.toNat) }) ∧
      (parityPasses data parity = true → stop = false →
        exec (.tapeWord data parity stop) s = .next { s with
          dec := { s.dec with state := .hunting, data := data, parity := parity }
          attn := (s.attn.count .tapeWordError).raise .tapeCueFault (512 + data.toNat) })) ∧
    exec .guardExpiry s = .next { s with dec := { s.dec with guardWord := none } }

/-- R148: when the candidate's timer expires the candidate is discarded and counts one TAPE_UNCONFIRMED, with no attention; a good word
equal to it, taken first, confirms the cue and leaves nothing to expire; taken after the expiry, it is the new candidate; a
partner word that fails leaves the candidate to its timer. -/
def Obligations.CandidateExpires : Prop :=
  ∀ (data word : Byte) (parity p stop : Bool) (s : State), s.power = .running →
    (∀ w, s.dec.candidate = some w →
      exec .candidateExpiry s = .next { s with
        dec := { s.dec with candidate := none }, attn := s.attn.count .tapeUnconfirmed }) ∧
    (s.dec.candidate = none → exec .candidateExpiry s = .next s) ∧
    (s.dec.state = .reading 2 → s.dec.data = 0#8 → s.dec.candidate = some data → s.dec.guardWord ≠ some data →
      (parityPasses data parity = true →
        (∃ t, exec (.tapeWord data parity true) s = .next t ∧ t.dec.candidate = none ∧
          exec .candidateExpiry t = .next t) ∧
        (∃ t u, exec .candidateExpiry s = .next t ∧ exec (.tapeWord data parity true) t = .next u ∧
          u.dec.candidate = some data ∧ u.attn = s.attn.count .tapeUnconfirmed)) ∧
      (parityPasses word p = false ∨ stop = false →
        ∃ t, exec (.tapeWord word p stop) s = .next t ∧ t.dec.candidate = some data))

/-- R149, R142: in PULSE mode a sample is MARK after a recent MARK period alone. The first begins a burst; each further one lengthens
it, whatever one or two non-MARK samples came between; the third non-MARK sample in a row ends it, and R150: gives cue 248 for a length of
53..524; the MARK that brings the length to 525 gives cue 249 and leads to SPENT; there MARK samples clear the count, and the third
non-MARK in a row leads to PULSE_IDLE. BURST_END, BURST_LIMIT and SPENT_END are those samples named by what they do.
(The cleared counts in PULSE_IDLE are the model's choice, log 21; an age of 2000 microseconds is recent by its reading, log 19.) -/
def Obligations.BurstsGiveCues : Prop :=
  (∀ s : State, s.power = .running →
    (s.dec.state = .burst → s.dec.nonMark = 2 →
      exec .burstEnd s = .next (
        let t := { s with dec := { s.dec with
          state := .pulseIdle, data := 0#8, parity := false, burst := 0, nonMark := 0 } }
        if 53 ≤ s.dec.burst then handOn 248 t else t)) ∧
    (s.dec.state = .burst → s.dec.burst = 524 →
      exec .burstLimit s = .next (handOn 249 { s with dec := { s.dec with
        state := .spent, burst := 525, nonMark := 0 } })) ∧
    (s.dec.state = .spent → s.dec.nonMark = 2 →
      exec .spentEnd s = .next { s with dec := { s.dec with
        state := .pulseIdle, data := 0#8, parity := false, burst := 0, nonMark := 0 } })) ∧
  (∀ (age : Nat) (mark : Bool) (s : State), s.power = .running → mark = decide (s.dec.lastPeriod = some .mark ∧ age ≤ 2000) →
    (s.dec.state = .pulseIdle →
      exec (.cueTrackSample age) s = .next { s with dec :=
        if mark then { s.dec with state := .burst, burst := 1, nonMark := 0 } else s.dec }) ∧
    (s.dec.state = .burst →
      (mark = true → s.dec.burst < 524 →
        exec (.cueTrackSample age) s = .next { s with dec := { s.dec with burst := s.dec.burst + 1, nonMark := 0 } }) ∧
      (mark = true → s.dec.burst = 524 → ∃ t, exec .burstLimit s = .next t ∧ exec (.cueTrackSample age) s = .next t) ∧
      (mark = false → s.dec.nonMark < 2 →
        exec (.cueTrackSample age) s = .next { s with dec := { s.dec with nonMark := s.dec.nonMark + 1 } }) ∧
      (mark = false → s.dec.nonMark = 2 → ∃ t, exec .burstEnd s = .next t ∧ exec (.cueTrackSample age) s = .next t)) ∧
    (s.dec.state = .spent →
      (mark = true → exec (.cueTrackSample age) s = .next { s with dec := { s.dec with nonMark := 0 } }) ∧
      (mark = false → s.dec.nonMark < 2 →
        exec (.cueTrackSample age) s = .next { s with dec := { s.dec with nonMark := s.dec.nonMark + 1 } }) ∧
      (mark = false → s.dec.nonMark = 2 → ∃ t, exec .spentEnd s = .next t ∧ exec (.cueTrackSample age) s = .next t)))

/-! ### The pendant -/

/-- R155, R156, R157, R158, R159: a press of a key not consumed steps the tray, toggles the hold, relays the key where the station has a
number and the queue has room, or drives the lens; under OFF, and HOLD in CONFIGURING, it is a press and nothing more; so is a press of
a consumed key outside STANDBY and COOLING_DOWN (there it is the model's choice, log 35); in STANDBY and COOLING_DOWN it wakes the
station, and the waking key is consumed; in MAINS_LOSS it is consumed; a release clears the key's marks. R99: a DARK press takes a lamp
above 64 down, brings a burning or OFF lamp back to its last nonzero target, and leaves a tripped or failed one. (That it lights an OFF
lamp in CONFIGURING is the model's choice, log 31.)
R153, R159, R160: a key scan that agrees with every recognized state ends every run and does nothing else; one that disagrees
with none for a fourth time only counts; the fourth sample in a row that disagrees with one key is a press or a release of it; the
run limit, with the lens driven inward, limits FOCUS IN and stops the motor; the drive state follows the two keys.
(The order of events at one scan is the model's operand, log 9; that a KEY_PRESS of a PRESSED key and a KEY_RELEASE of a RELEASED one
change nothing is the model's reading, log 29. Not stated here: a relay that is dropped, R15; the other keys that a
wake consumes, R155; the run limit with the lens driven outward, R159.) -/
def Obligations.KeysAct : Prop :=
  (∀ (k : Key) (s : State), s.power = .running →
    (s.remote.get k = ⟨false, 0, false, false⟩ → k = .fwd →
      s.stn.state = .configuring ∨ (s.stn.state = .active ∧ s.stn.items.remotePolicy = .localKeys) →
      exec (.keyPress k) s = .next (chooseFocus (offerMove (.step 1) false .direct
        { s with remote := s.remote.put k ⟨true, 0, false, false⟩ }))) ∧
    (s.remote.get k = ⟨false, 0, false, false⟩ → k = .rev →
      s.stn.state = .configuring ∨ (s.stn.state = .active ∧ s.stn.items.remotePolicy = .localKeys) →
      exec (.keyPress k) s = .next (chooseFocus (offerMove (.step (-1)) false .direct
        { s with remote := s.remote.put k ⟨true, 0, false, false⟩ }))) ∧
    (s.remote.get k = ⟨false, 0, false, false⟩ → k = .dark → s.tray.queue = [] →
      s.stn.state = .configuring ∨ (s.stn.state = .active ∧ s.stn.items.remotePolicy = .localKeys) →
      let target := if s.lamp.burning = true ∧ 64 < s.lamp.p then 0 else s.lamp.lastTarget.getD 4096
      let lamp := { s.lamp with
        ramp := ⟨s.lamp.p, target, 50, 0, .direct, true⟩
        lastTarget := if 0 < target then some target else s.lamp.lastTarget }
      let remote := (s.remote.put k ⟨true, 0, false, false⟩).chooseFocus
      (s.lamp.burning = true → exec (.keyPress k) s = .next { s with remote := remote, lamp := lamp }) ∧
      (s.lamp.state = .off → s.cool.tripped = false →
        exec (.keyPress k) s = .next { s with
          remote := remote, lamp := { lamp with state := .warming }
          cool := s.cool.setStage (max s.cool.heatStage 1) }) ∧
      ((s.lamp.state = .off ∧ s.cool.tripped = true) ∨ s.lamp.state = .tripped ∨ s.lamp.state = .failed →
        exec (.keyPress k) s = .next { s with remote := remote })) ∧
    (s.remote.get k = ⟨false, 0, false, false⟩ → k ≠ .focusIn → k ≠ .focusOut → s.stn.state = .active →
      s.stn.items.remotePolicy = .relay → stationNumber s ≠ 0 → s.loop.origQueue.length < 4 →
      exec (.keyPress k) s = .next { s with
        remote := (s.remote.put k ⟨true, 0, false, false⟩).chooseFocus
        loop := { s.loop with origQueue := s.loop.origQueue ++ [.remote k] } }) ∧
    (s.remote.get k = ⟨false, 0, false, false⟩ → k = .hold → s.stn.state = .active → s.stn.items.remotePolicy = .localKeys →
      let t := { s with remote := s.remote.put k ⟨true, 0, false, false⟩ }
      (s.stn.showState = .running → exec (.keyPress k) s = .next (chooseFocus (afterHold t))) ∧
      (s.stn.showState = .held → (∀ r ∈ s.disp.schedule, r.remaining ≠ 0) →
        exec (.keyPress k) s = .next (chooseFocus (afterResume t)))) ∧
    (s.remote.get k = ⟨false, 0, false, false⟩ →
      (k = .hold ∧ s.stn.state = .configuring) ∨ (s.stn.state = .active ∧ s.stn.items.remotePolicy = .off) ∨
        ((k = .focusIn ∨ k = .focusOut) ∧ (s.stn.state = .configuring ∨ s.stn.state = .active)) →
      exec (.keyPress k) s = .next { s with remote := (s.remote.put k ⟨true, 0, false, false⟩).chooseFocus }) ∧
    ((s.remote.get k).pressed = false → (s.remote.get k).consumed = true →
      s.stn.state = .configuring ∨ s.stn.state = .active ∨ s.stn.state = .mainsLoss →
      exec (.keyPress k) s = .next { s with
        remote := (s.remote.put k { s.remote.get k with pressed := true, run := 0 }).chooseFocus }) ∧
    ((s.remote.get k).pressed = false → (s.remote.get k).consumed = false → s.stn.state = .mainsLoss →
      exec (.keyPress k) s = .next { s with
        remote := (s.remote.put k { s.remote.get k with pressed := true, run := 0, consumed := true }).chooseFocus }) ∧
    ((s.remote.get k).pressed = false → (s.remote.get k).consumed = false →
      s.stn.state = .standby ∨ s.stn.state = .coolingDown →
      ∃ t, exec (.keyPress k) s = .next t ∧ t.stn.state = .active ∧ t.stn.showState = .running ∧
        (t.remote.get k).consumed = true ∧ (t.remote.get k).pressed = true ∧
        t.tray = s.tray ∧ t.lamp = s.lamp ∧ t.deck = s.deck ∧ t.disp = s.disp ∧ t.attn = s.attn) ∧
    ((s.remote.get k).pressed = true →
      exec (.keyRelease k) s = .next { s with remote := (s.remote.put k ⟨false, 0, false, false⟩).chooseFocus }) ∧
    ((s.remote.get k).pressed = true → exec (.keyPress k) s = .next s) ∧
    ((s.remote.get k).pressed = false → exec (.keyRelease k) s = .next s)) ∧
  (∀ (x : KeySamples) (order : List Key) (s : State), s.power = .running → (∀ k, (s.remote.get k).run < 3) →
    ∃ t, exec (.keyScan x order) s = .next t ∧ t = { s with remote := t.remote } ∧ t.remote.focus = s.remote.focus ∧
      ∀ k, t.remote.get k = { s.remote.get k with
        run := if sampleOf k x = (s.remote.get k).pressed then 0 else (s.remote.get k).run + 1 }) ∧
  (∀ (x : KeySamples) (order : List Key) (k : Key) (r : Remote) (s : State), s.power = .running →
    (s.remote.get k).run = 3 → sampleOf k x ≠ (s.remote.get k).pressed → (∀ j, j ≠ k → (s.remote.get j).run < 3) →
    r.focus = s.remote.focus →
    (∀ j, r.get j = { s.remote.get j with
      run := if j = k ∨ sampleOf j x = (s.remote.get j).pressed then 0 else (s.remote.get j).run + 1 }) →
    exec (.keyScan x order) s =
      exec (if (s.remote.get k).pressed then .keyRelease k else .keyPress k) { s with remote := r }) ∧
  (∀ s : State, s.power = .running →
    (s.remote.focus = .inward → (s.remote.get .focusOut).drives = false →
      ∃ t, exec .focusRunLimit s = .next t ∧ t = { s with remote := t.remote } ∧ t.remote.focus = .stopped ∧
        t.remote.get .focusIn = { s.remote.get .focusIn with limited := true } ∧
        ∀ k, k ≠ .focusIn → t.remote.get k = s.remote.get k) ∧
    (s.remote.focus = .stopped → exec .focusRunLimit s = .next s)) ∧
  (∀ r : Remote, r.chooseFocus.focus =
    match (r.get .focusIn).drives, (r.get .focusOut).drives with
    | true, false => .inward
    | false, true => .outward
    | _, _ => .stopped)

/-! ### The device's laws -/

/-- Each law holds after a power-on.
(The pin levels of State.reset are the model's choice, log 3.) -/
def Obligations.LawsHoldAtReset : Prop :=
  ScheduleLaw State.reset ∧ TrayLaw State.reset ∧ QueueLaw State.reset ∧ CycleLaw State.reset ∧
  PositionLaw State.reset ∧ DriveLaw State.reset ∧ HeatLaw State.reset ∧ TripsLaw State.reset ∧ FanLaw State.reset ∧
  DeckLaw State.reset ∧ StationLaw State.reset ∧ ItemsLaw State.reset ∧ AttentionLaw State.reset ∧
  CountersLaw State.reset ∧ LoopLaw State.reset ∧ ProvisionalLaw State.reset

/-- R44: every step keeps the scheduled list within 32 records, ordered by remaining time, each a step that is not null. -/
def Obligations.StepKeepsScheduleLaw : Prop :=
  ∀ s s' : State, ScheduleLaw s → step s = .next s' → ScheduleLaw s'

/-- R52, R54, R57: every step keeps the laws of the tray record, of the cycle record and of the move queue. -/
def Obligations.StepKeepsTrayLaws : Prop :=
  ∀ s s' : State, TrayLaw s ∧ CycleLaw s ∧ QueueLaw s → step s = .next s' → TrayLaw s' ∧ CycleLaw s' ∧ QueueLaw s'

/-- R86, R90: every step keeps the laws of the brightness position and of the drive output. -/
def Obligations.StepKeepsLampLaws : Prop :=
  ∀ s s' : State, ScheduleLaw s ∧ PositionLaw s ∧ DriveLaw s → step s = .next s' →
    ScheduleLaw s' ∧ PositionLaw s' ∧ DriveLaw s'

/-- R95, R115, R117: every step keeps the laws of heat, trips and fan: while a cause is active the lamp is out and the fan at 3,
and a burning lamp has the fan at 1 or above. -/
def Obligations.StepKeepsCoolingLaws : Prop :=
  ∀ s s' : State, HeatLaw s ∧ TripsLaw s ∧ FanLaw s → step s = .next s' → HeatLaw s' ∧ TripsLaw s' ∧ FanLaw s'

/-- R129, R133, R134, R140: every step keeps the deck's and the decoder's law. -/
def Obligations.StepKeepsDeckLaw : Prop :=
  ∀ s s' : State, ScheduleLaw s ∧ DeckLaw s → step s = .next s' → ScheduleLaw s' ∧ DeckLaw s'

/-- R163, R49, R164, R20, R170: every step keeps the station's law and the items' cross conditions. -/
def Obligations.StepKeepsStationLaw : Prop :=
  ∀ s s' : State, StationLaw s ∧ ItemsLaw s → step s = .next s' → StationLaw s' ∧ ItemsLaw s'

/-- R181, R187: every step keeps the law of attention, and no counter leaves its 16 bits. -/
def Obligations.StepKeepsAttentionLaw : Prop :=
  ∀ s s' : State, AttentionLaw s ∧ CountersLaw s → step s = .next s' → AttentionLaw s' ∧ CountersLaw s'

/-- R15, R17, R18, R19: every step keeps the capacities of the Loop Port and one user of LOOP OUT at a time. -/
def Obligations.StepKeepsLoopLaw : Prop :=
  ∀ s s' : State, LoopLaw s ∧ ProvisionalLaw s → step s = .next s' → LoopLaw s' ∧ ProvisionalLaw s'

/-! ### Operations -/

/-- R86, R135: a ramp step stays between start and target, and its last step is the target. R88: the curve value is the rounded
straight line between the two curve points that bracket p and lies between them, and at 4096 the last point. R106, R115: the heat stage is the highest that
qualifies, and the ceiling is 1023 up to H_warn, and above it on the line of R115, held at W or above. -/
def Obligations.StagesStayBetween : Prop :=
  (∀ r : Ramp, r.count < r.length →
    (min r.start r.target ≤ r.step.2 ∧ r.step.2 ≤ max r.start r.target) ∧
    (r.count + 1 = r.length → r.step.2 = r.target ∧ r.step.1.running = false)) ∧
  (∀ (c : Vector Nat 17) (p : Nat), p < 4096 →
    min (curvePoint c (p / 256)) (curvePoint c (p / 256 + 1)) ≤ curveValue c p ∧
    curveValue c p ≤ max (curvePoint c (p / 256)) (curvePoint c (p / 256 + 1)) ∧
    (curveValue c p : Int) = ((curvePoint c (p / 256) : Int) * 256 +
      ((curvePoint c (p / 256 + 1) : Int) - (curvePoint c (p / 256) : Int)) * ((p % 256 : Nat) : Int) + 128) / 256) ∧
  (∀ v : Vector Nat 17, curveValue v 4096 = v[16]) ∧
  (∀ (x : Items) (heat old : Nat),
    (nextHeatStage x heat old ≤ 3 ∧
      (0 < nextHeatStage x heat old → stageQualifies x heat old (nextHeatStage x heat old) = true) ∧
      ∀ n, n ≤ 3 → 1 ≤ n → stageQualifies x heat old n = true → n ≤ nextHeatStage x heat old) ∧
    (x.preheat ≤ 1023 → x.preheat ≤ ceilingOf x heat ∧ ceilingOf x heat ≤ 1023) ∧
    (heat ≤ x.heatWarn → ceilingOf x heat = 1023) ∧
    (x.preheat ≤ 1023 → x.heatWarn < heat → x.heatWarn < x.heatMax →
      (ceilingOf x heat : Int) = max (x.preheat : Int)
        (1023 - ((heat : Int) - x.heatWarn) * (1023 - (x.preheat : Int)) / ((x.heatMax : Int) - x.heatWarn))) ∧
    (x.preheat ≤ 1023 → x.heatWarn < x.heatMax → x.heatMax ≤ heat → ceilingOf x heat = x.preheat))
end

