-- ==== Sys2Proof/Laws/Attention.lean ====
section
/-! SUPPORT. What raising, clearing, holding and counting do to the sources and counters, one by one. -/

namespace Sys2Proof.Machine

theorem Source.idx_inj {c d : Source} (h : c.idx = d.idx) : c = d := by
  cases c <;> cases d <;> first | rfl | (exact absurd h (by decide))

theorem Counter.idx_inj {k l : Counter} (h : k.idx = l.idx) : k = l := by
  cases k <;> cases l <;> first | rfl | (exact absurd h (by decide))

@[simp] theorem Attn.get_put_self (a : Attn) (c : Source) (r : SourceRec) : (a.put c r).get c = r := by
  simp [Attn.get, Attn.put]

theorem Attn.get_put_of_ne (a : Attn) {c d : Source} (r : SourceRec) (h : d ≠ c) : (a.put c r).get d = a.get d := by
  have : c.idx.val ≠ d.idx.val := fun e => h (Source.idx_inj (Fin.ext e)).symm
  simp [Attn.get, Attn.put, this]

@[simp] theorem Attn.put_held (a : Attn) (c : Source) (r : SourceRec) : (a.put c r).held = a.held := rfl
@[simp] theorem Attn.put_prov (a : Attn) (c : Source) (r : SourceRec) : (a.put c r).prov = a.prov := rfl
@[simp] theorem Attn.put_counters (a : Attn) (c : Source) (r : SourceRec) : (a.put c r).counters = a.counters := rfl
@[simp] theorem Attn.put_counter (a : Attn) (c : Source) (r : SourceRec) (k : Counter) :
    (a.put c r).counter k = a.counter k := rfl

@[simp] theorem Attn.count_get (a : Attn) (k : Counter) (c : Source) : (a.count k).get c = a.get c := rfl
@[simp] theorem Attn.count_held (a : Attn) (k : Counter) : (a.count k).held = a.held := rfl
@[simp] theorem Attn.count_prov (a : Attn) (k : Counter) : (a.count k).prov = a.prov := rfl

@[simp] theorem Attn.counter_count_self (a : Attn) (k : Counter) :
    (a.count k).counter k = min (a.counter k + 1) 65535 := by
  simp [Attn.counter, Attn.count, Config.top16]

theorem Attn.counter_count_of_ne (a : Attn) {k l : Counter} (h : l ≠ k) : (a.count k).counter l = a.counter l := by
  have : k.idx.val ≠ l.idx.val := fun e => h (Counter.idx_inj (Fin.ext e)).symm
  simp [Attn.counter, Attn.count, this]

/-- All that a raise can do (R178). -/
theorem Attn.raise_spec (a : Attn) (c : Source) (detail : Nat) :
    (a.raise c detail).get c =
      (if (a.get c).flag then { a.get c with again := true } else { a.get c with flag := true, detail := detail }) ∧
    (∀ d, d ≠ c → (a.raise c detail).get d = a.get d) ∧ (a.raise c detail).held = a.held ∧
    (a.raise c detail).prov = a.prov ∧ (a.raise c detail).counters = a.counters := by
  refine ⟨?_, fun d h => ?_, rfl, rfl, rfl⟩
  · simp [Attn.raise]
  · simp [Attn.raise, Attn.get_put_of_ne _ _ h]

@[simp] theorem Attn.raise_flag (a : Attn) (c : Source) (detail : Nat) : ((a.raise c detail).get c).flag = true := by
  rw [(a.raise_spec c detail).1]; split <;> simp_all

/-- All that a clear can do (R182). -/
theorem Attn.clear_spec (a : Attn) (c : Source) :
    (a.clear c).get c = { a.get c with flag := false, again := false, detail := 0 } ∧
    (∀ d, d ≠ c → (a.clear c).get d = a.get d) ∧ (a.clear c).held = a.held ∧
    (a.clear c).prov = a.prov ∧ (a.clear c).counters = a.counters :=
  ⟨by simp [Attn.clear], fun d h => by simp [Attn.clear, Attn.get_put_of_ne _ _ h], rfl, rfl, rfl⟩

/-- All that a side-effect clear can do (R181, R183). -/
theorem Attn.sideClear_spec (a : Attn) (c : Source) :
    (a.held = some c → a.sideClear c = a) ∧
    (a.held ≠ some c → (a.sideClear c).sources = (a.clear c).sources ∧
      (a.sideClear c).prov = if a.prov = some c then none else a.prov) ∧
    (a.sideClear c).held = a.held ∧ (a.sideClear c).counters = a.counters ∧
    ∀ d, d ≠ c → (a.sideClear c).get d = a.get d := by
  unfold Attn.sideClear
  split
  · next h => exact ⟨fun _ => rfl, fun n => absurd h n, rfl, rfl, fun _ _ => rfl⟩
  · next h => exact ⟨fun e => absurd e h, fun _ => ⟨rfl, rfl⟩, rfl, rfl, fun d hd => (a.clear_spec c).2.1 d hd⟩

/-- The parts of an ACK that are a clear (R182). -/
theorem Attn.ack_sources (a : Attn) (c : Source) :
    (a.ack c).sources = (a.clear c).sources ∧ (a.ack c).prov = a.prov ∧ (a.ack c).counters = a.counters ∧
    (a.ack c).held = (if a.held = some c then none else a.held) := by
  unfold Attn.ack
  dsimp only
  rw [(a.clear_spec c).2.2.1]
  split <;> simp [Attn.clear]

/-- The parts of an ATTN_SET that are a change of enable and level (R179). -/
theorem Attn.setting_sources (a : Attn) (c : Source) (enable high : Bool) :
    (a.setting c enable high).sources = (a.put c { a.get c with enable := enable, high := high }).sources ∧
    (a.setting c enable high).prov = a.prov ∧ (a.setting c enable high).counters = a.counters ∧
    (a.setting c enable high).held = (if enable = false ∧ a.held = some c then none else a.held) := by
  unfold Attn.setting
  dsimp only
  rw [Attn.put_held]
  cases enable <;> by_cases h : a.held = some c <;> simp [h]

/-- What a source reads depends on the sources alone. -/
theorem Attn.get_congr {a b : Attn} (h : a.sources = b.sources) (c : Source) : a.get c = b.get c := by
  simp [Attn.get, h]

/-- The codes 1..16 and no other name a source, its own (R179). -/
theorem Source.ofCode_spec (n : Nat) :
    (∀ c, Source.ofCode n = some c → c.code = n) ∧ (Source.ofCode n = none ↔ n = 0 ∨ 16 < n) := by
  rcases n with _ | n
  · simp [Source.ofCode]
  · by_cases h : n < 16
    · have : ∀ m : Fin 16, (∀ c, Source.ofCode (m.val + 1) = some c → c.code = m.val + 1) ∧
          Source.ofCode (m.val + 1) ≠ none := by
        intro m
        constructor
        · intro c e
          have : ∀ m : Fin 16, (Source.ofCode (m.val + 1)).all (fun c => c.code == m.val + 1) = true := by decide
          have := this m
          rw [e] at this
          simpa using this
        · revert m; decide
      have := this ⟨n, h⟩
      refine ⟨this.1, ?_⟩
      simp only [this.2, false_iff]
      omega
    · have : Source.ofCode (n + 1) = none := by
        simp only [Source.ofCode, Nat.add_one_ne_zero, ↓reduceIte, Nat.add_sub_cancel]
        exact List.getElem?_eq_none (by simpa [Source.all] using h)
      rw [this]
      refine ⟨by simp, by simp only [true_iff]; omega⟩

end Sys2Proof.Machine
end

