-- ==== Sys2Proof/Laws/Line.lean ====
section
/-! SUPPORT. The loop line on free lines: idle time, the bytes of a frame one by one, and a whole frame up to its CHECK. -/

namespace Sys2Proof.Machine

open Sys2Proof (Byte Key Frame)

/-! ### Lists of bytes and byte times -/

theorem rxBytes_append (a b : List Byte) (s : State) : rxBytes (a ++ b) s = rxBytes b (rxBytes a s) := by
  simp [rxBytes]

@[simp] theorem rxBytes_nil (s : State) : rxBytes [] s = s := rfl

@[simp] theorem rxBytes_cons (b : Byte) (bs : List Byte) (s : State) : rxBytes (b :: bs) s = rxBytes bs (rxByte b s) := rfl

theorem idleFor_add (m n : Nat) (s : State) : idleFor (m + n) s = idleFor n (idleFor m s) := by
  induction m generalizing s with
  | zero => simp [idleFor]
  | succ m ih => rw [Nat.succ_add, idleFor, idleFor, ih]

/-- No more of a byte passes than its ten bit times (R1). -/
theorem byteFor_bits (n : Nat) (s : State) (h : s.loop.bits ≤ Config.byteTime) :
    (byteFor n s).loop.bits = min Config.byteTime (s.loop.bits + n) := by
  have h1 : ∀ s : State, s.loop.bits ≤ Config.byteTime →
      (byteTick s).loop.bits = min Config.byteTime (s.loop.bits + 1) := by
    intro s h
    unfold byteTick
    split
    · show s.loop.bits + 1 = _
      omega
    · omega
  induction n generalizing s with
  | zero =>
    show s.loop.bits = _
    omega
  | succ n ih =>
    show (byteFor n (byteTick s)).loop.bits = _
    have := h1 s h
    rw [ih _ (by omega)]
    omega

/-! ### LOOP OUT with nothing to send -/

theorem LoopOut.ticks_add (m n : Nat) (o : LoopOut) : o.ticks (m + n) = (o.ticks m).ticks n := by
  induction m generalizing o with
  | zero => simp [LoopOut.ticks]
  | succ m ih => rw [Nat.succ_add, LoopOut.ticks, LoopOut.ticks, ih]

/-- Nothing follows on a line with nothing to send. -/
theorem LoopOut.tick_empty (o : LoopOut) (ho : o.originating = []) (hb : o.buffer = []) : o.tick = o.bitTime := by
  obtain ⟨buffer, originating, left, idle, cut, resetAhead, sent⟩ := o
  dsimp only at ho hb
  subst ho hb
  simp only [LoopOut.tick, LoopOut.next, LoopOut.bitTime]
  split <;> simp

/-- The line after its last byte, idle for two byte times (R17). -/
def LoopOut.rest (o : LoopOut) : LoopOut :=
  { o with left := 0, idle := 20, resetAhead := if o.left = 0 then o.resetAhead else o.resetAhead.map (· - 1) }

/-- A line at rest counts its idle time to two byte times. -/
theorem LoopOut.ticks_idle (n : Nat) (o : LoopOut) (ho : o.originating = []) (hb : o.buffer = []) (hl : o.left = 0)
    (hn : 20 ≤ o.idle + n) (hi : n = 0 → o.idle = 20) : o.ticks n = { o with idle := 20 } := by
  induction n generalizing o with
  | zero => simp [LoopOut.ticks, ← hi rfl]
  | succ n ih =>
    rw [LoopOut.ticks, o.tick_empty ho hb]
    have hb' : o.bitTime = { o with idle := min 20 (o.idle + 1) } := by simp [LoopOut.bitTime, hl, Config.frameGap]
    rw [hb', ih { o with idle := min 20 (o.idle + 1) } ho hb hl (by dsimp only; omega) (by dsimp only; omega)]

/-- The last byte on a line with nothing else to send goes out whole. -/
theorem LoopOut.ticks_left (n : Nat) (o : LoopOut) (ho : o.originating = []) (hb : o.buffer = []) (hl : o.left = n + 1) :
    o.ticks (n + 1) = { o with left := 0, idle := 0, resetAhead := o.resetAhead.map (· - 1) } := by
  induction n generalizing o with
  | zero => simp [LoopOut.ticks, o.tick_empty ho hb, LoopOut.bitTime, hl]
  | succ n ih =>
    rw [LoopOut.ticks, o.tick_empty ho hb]
    have hb' : o.bitTime = { o with left := n + 1, idle := 0 } := by simp [LoopOut.bitTime, hl]
    rw [hb', ih { o with left := n + 1, idle := 0 } ho hb rfl]

/-- Three byte times bring a line with nothing else to send to rest (R1, R17). -/
theorem LoopOut.ticks_rest (n : Nat) (o : LoopOut) (ho : o.originating = []) (hb : o.buffer = []) (hl : o.left ≤ 10)
    (hn : 30 ≤ n) : o.ticks n = o.rest := by
  by_cases h0 : o.left = 0
  · rw [o.ticks_idle n ho hb h0 (by omega) (by omega)]
    simp [LoopOut.rest, h0]
  · obtain ⟨m, hm⟩ : ∃ m, o.left = m + 1 := ⟨o.left - 1, by omega⟩
    obtain ⟨k, rfl⟩ : ∃ k, n = m + 1 + k := ⟨n - (m + 1), by omega⟩
    rw [LoopOut.ticks_add, o.ticks_left m ho hb hm, LoopOut.ticks_idle _ _ (by exact ho) (by exact hb) rfl (by omega) (by omega)]
    simp [LoopOut.rest, h0]

/-! ### Free lines -/

/-- The state with LOOP IN quiet and idle, LOOP OUT free and idle, and nothing sent yet. -/
def freeLine (s : State) : State :=
  { s with
    loop := { s.loop with rx := .quiet, inIdle := 20, bits := 0, space := 0 }
    out := { s.out.rest with originating := [], buffer := [], sent := [] } }

/-- Bit times in which a quiet LOOP IN brings no byte are time on LOOP OUT; what is left of a hold at the space level passes first, and
the rest is idle (R1, R2). -/
theorem idleFor_held (n : Nat) (s : State) (hq : s.loop.rx = .quiet) (hi : s.loop.bits = 0) :
    idleFor n s =
      { s with
        loop := { s.loop with
          inIdle := if n ≤ s.loop.space then s.loop.inIdle else min 20 (s.loop.inIdle + (n - s.loop.space))
          space := s.loop.space - n }
        out := s.out.ticks n } := by
  induction n generalizing s with
  | zero => simp [idleFor, LoopOut.ticks]
  | succ n ih =>
    by_cases h0 : s.loop.space = 0
    · have h1 : idleTick s = { s with loop := { s.loop with inIdle := min 20 (s.loop.inIdle + 1) }, out := s.out.tick } := by
        simp [idleTick, endByIdle, passOut, LoopOut.ticks, hq, hi, h0, Config.frameGap]
      rw [idleFor, h1, ih _ (by exact hq) (by exact hi)]
      have : (if n = 0 then min 20 (s.loop.inIdle + 1) else min 20 (min 20 (s.loop.inIdle + 1) + n)) =
          min 20 (s.loop.inIdle + (n + 1)) := by split <;> omega
      simp [LoopOut.ticks, h0, this]
    · have h1 : idleTick s = { s with loop := { s.loop with space := s.loop.space - 1 }, out := s.out.tick } := by
        simp [idleTick, spaceTick, passOut, LoopOut.ticks, h0]
      rw [idleFor, h1, ih _ (by exact hq) (by exact hi)]
      have h2 : (n ≤ s.loop.space - 1) = (n + 1 ≤ s.loop.space) := propext (by omega)
      have h3 : n - (s.loop.space - 1) = n + 1 - s.loop.space := by omega
      have h4 : s.loop.space - 1 - n = s.loop.space - (n + 1) := by omega
      simp only [LoopOut.ticks, h2, h3, h4]

/-- Idle time on a quiet LOOP IN at the mark level is time on LOOP OUT (R2). -/
theorem idleFor_quiet (n : Nat) (s : State) (hq : s.loop.rx = .quiet) (hi : s.loop.bits = 0) (h0 : s.loop.space = 0) :
    idleFor (n + 1) s =
      { s with loop := { s.loop with inIdle := min 20 (s.loop.inIdle + (n + 1)) }, out := s.out.ticks (n + 1) } := by
  rw [idleFor_held _ _ hq hi]
  simp [h0]

/-- Idle time changes nothing on free lines. -/
theorem idleFor_freeLine (n : Nat) (s : State) : idleFor n (freeLine s) = freeLine s := by
  cases n with
  | zero => rfl
  | succ n =>
    rw [idleFor_quiet n _ rfl rfl rfl, LoopOut.ticks_idle (n + 1) _ rfl rfl rfl (by simp [freeLine, LoopOut.rest]) (by simp)]
    simp [freeLine, LoopOut.rest]

/-- Three byte times of idle before a command, on lines that carry nothing, leave them free (R2, R17). -/
theorem idleFor_clearSent (n : Nat) (s : State) (hq : s.loop.rx = .quiet) (hi : s.loop.bits = 0) (h0 : s.loop.space = 0)
    (ho : s.out.originating = []) (hb : s.out.buffer = []) (hl : s.out.left ≤ 10) (hn : 30 ≤ n) : idleFor n (clearSent s) = freeLine s := by
  obtain ⟨m, rfl⟩ : ∃ m, n = m + 1 := ⟨n - 1, by omega⟩
  rw [idleFor_quiet m (clearSent s) hq hi h0, LoopOut.ticks_rest _ _ (by exact ho) (by exact hb) (by exact hl) hn]
  have : min 20 (s.loop.inIdle + (m + 1)) = 20 := by omega
  simp [freeLine, clearSent, LoopOut.rest, ho, hb, hq, hi, h0, this]

/-- A byte time changes nothing on free lines. -/
theorem passByte_freeLine (s : State) : passByte (freeLine s) = freeLine s := by
  rw [passByte, show Config.byteTime - (freeLine s).loop.bits = Config.byteTime from rfl, passOut, LoopOut.ticks_idle Config.byteTime _ rfl rfl rfl (by simp [freeLine, LoopOut.rest]) (by simp [Config.byteTime])]
  simp [freeLine, LoopOut.rest]

/-- Two byte times of idle before a frame, on lines that carry nothing, bring its first byte in on free lines, whatever hold at the
space level went before (R1, R2, R17). -/
theorem rxByte_afterGap (b : Byte) (n : Nat) (s : State) (hq : s.loop.rx = .quiet) (hi : s.loop.bits = 0)
    (ho : s.out.originating = []) (hb : s.out.buffer = []) (hl : s.out.left ≤ 10) (hn : 20 ≤ n) :
    rxByte b (idleFor n (lineReady s)) = rxByte b (freeLine s) := by
  obtain ⟨m, rfl⟩ : ∃ m, n = m + 1 := ⟨n - 1, by omega⟩
  have h1 : passByte (idleFor (m + 1) (lineReady s)) = freeLine s := by
    rw [idleFor_quiet m (lineReady s) hq hi rfl]
    simp only [passByte, passOut, lineReady, markAgain, clearSent, hi, Nat.sub_zero, ← LoopOut.ticks_add]
    rw [LoopOut.ticks_rest _ _ (by exact ho) (by exact hb) (by exact hl) (by simp only [Config.byteTime]; omega)]
    have : min 20 (s.loop.inIdle + (m + 1)) = 20 := by omega
    simp [freeLine, LoopOut.rest, ho, hb, hq, this]
  simp only [rxByte, h1, passByte_freeLine]

/-! ### A frame in passage at once -/

/-- A frame in passage that goes out byte by byte: passage `p`, and the bytes of it sent so far behind its SYNC. -/
def passing (s : State) (p : Passage) (sent : List Byte) : State :=
  { s with
    loop := { s.loop with rx := .frame p, inIdle := 0, bits := 0, space := 0 }
    out := { s.out with
      originating := []
      buffer := []
      left := 10
      idle := 0
      cut := false
      resetAhead := s.out.rest.resetAhead.map (· - sent.length)
      sent := Config.sync :: sent } }

/-- The same state a byte time later, just before the next byte is taken. -/
def passingFree (s : State) (p : Passage) (sent : List Byte) : State :=
  { s with
    loop := { s.loop with rx := .frame p, inIdle := 0, bits := 0, space := 0 }
    out := { s.out with
      originating := []
      buffer := []
      left := 0
      idle := 0
      cut := false
      resetAhead := s.out.rest.resetAhead.map (· - (sent.length + 1))
      sent := Config.sync :: sent } }

theorem passByte_passing (s : State) (p : Passage) (sent : List Byte) :
    passByte (passing s p sent) = passingFree s p sent := by
  rw [passByte, show Config.byteTime - (passing s p sent).loop.bits = 9 + 1 from rfl, passOut, LoopOut.ticks_left 9 _ rfl rfl rfl]
  simp [passing, passingFree, Nat.sub_sub, Function.comp_def]

/-- SYNC on free lines begins a frame and is sent at once (R2, R4). -/
theorem rxByte_sync (s : State) : rxByte Config.sync (freeLine s) = passing s Passage.start [] := by
  rw [rxByte, passByte_freeLine]
  simp [freeLine, quietByte, beginFrame, emit, LoopOut.freeFor, LoopOut.send, LoopOut.rest, setRx, noteByte, passing,
    Config.frameGap, Config.byteTime]

/-- A byte of a frame in passage (R3). -/
theorem rxByte_passing (b : Byte) (s : State) (p : Passage) (sent : List Byte) :
    rxByte b (passing s p sent) = noteByte (frameByte p b (passingFree s p sent)) := by
  rw [rxByte, passByte_passing]
  rfl

/-- A byte passed on, as given, of a frame that is not stripped (R4). -/
theorem passOn_passingFree (q : Passage) (b x : Byte) (s : State) (p : Passage) (sent : List Byte)
    (hs : q.stripped = false) :
    noteByte (passOn q b x (passingFree s p sent)) = passing s (q.push b x) (sent ++ [x]) := by
  simp [passOn, hs, passingFree, passing, emit, LoopOut.freeFor, LoopOut.send, setRx, noteByte, Config.byteTime]

/-- The passage of a known kind after its header, HOP one more on the way out (R3, R5). -/
def headerPassage (k t o h l : Byte) : Passage :=
  { got := [k, t, o, h, l]
    rxCheck := crc [k, t, o, h, l]
    txCheck := crc [k, t, o, nextHop h, l]
    stripped := false
    reply := []
    result := none
    resetTaken := false }

/-- The header of a known kind that is not stripped passes with HOP one more (R4, R5, R14). -/
theorem rxBytes_header (k : FrameKind) (t o h l : Byte) (s : State) (hl : l.toNat ≤ Config.maxLength)
    (hstrip : k = .cue ∨ k = .remote → ¬(stationNumber s ≠ 0 ∧ o.toNat = stationNumber s)) :
    rxBytes [Config.sync, k.code, t, o, h, l] (freeLine s) =
      passing s (headerPassage k.code t o h l) [k.code, t, o, nextHop h, l] := by
  have hk : FrameKind.ofByte k.code = some k := by cases k <;> decide
  have hlen : ¬ Config.maxLength < l.toNat := by omega
  rw [rxBytes_cons, rxByte_sync, rxBytes_cons, rxByte_passing]
  have h0 : frameByte Passage.start k.code (passingFree s Passage.start []) =
      passOn Passage.start k.code k.code (passingFree s Passage.start []) := rfl
  rw [h0, passOn_passingFree _ _ _ _ _ _ rfl, rxBytes_cons, rxByte_passing]
  have h1 : ∀ sent, frameByte (Passage.start.push k.code k.code) t (passingFree s (Passage.start.push k.code k.code) sent) =
      passOn (Passage.start.push k.code k.code) t t (passingFree s (Passage.start.push k.code k.code) sent) :=
    fun _ => rfl
  rw [h1, passOn_passingFree _ _ _ _ _ _ rfl, rxBytes_cons, rxByte_passing]
  have h2 : ∀ sent p, p = (Passage.start.push k.code k.code).push t t →
      frameByte p o (passingFree s p sent) = passOn p o o (passingFree s p sent) := by
    intro sent p hp
    subst hp
    have : strips ((Passage.start.push k.code k.code).push t t) o
        (passingFree s ((Passage.start.push k.code k.code).push t t) sent) = false := by
      have hnum : stationNumber (passingFree s ((Passage.start.push k.code k.code).push t t) sent) = stationNumber s := rfl
      simp only [strips, hnum]
      by_cases hc : k = .cue ∨ k = .remote
      · have := hstrip hc
        simp only [Bool.and_eq_false_iff, bne_eq_false_iff_eq, beq_eq_false_iff_ne]
        by_cases hn : stationNumber s = 0
        · left; right; exact hn
        · right; intro e; exact this ⟨hn, e⟩
      · have : (((Passage.start.push k.code k.code).push t t).kind == some .cue ||
            ((Passage.start.push k.code k.code).push t t).kind == some .remote) = false := by
          have hkind : ((Passage.start.push k.code k.code).push t t).kind = some k := by
            simpa [Passage.kind, Passage.kindByte, Passage.push, Passage.start] using hk
          rw [hkind]
          cases k <;> simp_all
        simp [this]
    show originByte _ _ _ = _
    simp only [originByte, this]
    rfl
  rw [h2 _ _ rfl, passOn_passingFree _ _ _ _ _ _ rfl, rxBytes_cons, rxByte_passing]
  have h3 : ∀ sent p, p = ((Passage.start.push k.code k.code).push t t).push o o →
      frameByte p h (passingFree s p sent) = passOn p h (nextHop h) (passingFree s p sent) := by
    intro sent p hp
    subst hp
    have hkind : (((Passage.start.push k.code k.code).push t t).push o o).kind = some k := by
      simpa [Passage.kind, Passage.kindByte, Passage.push, Passage.start] using hk
    show hopByte _ _ _ = _
    simp [hopByte, hkind]
  rw [h3 _ _ rfl, passOn_passingFree _ _ _ _ _ _ rfl, rxBytes_cons, rxByte_passing]
  have h4 : ∀ sent p, p = (((Passage.start.push k.code k.code).push t t).push o o).push h (nextHop h) →
      frameByte p l (passingFree s p sent) = passOn p l l (passingFree s p sent) := by
    intro sent p hp
    subst hp
    show lengthByte _ _ _ = _
    simp [lengthByte, hlen]
  rw [h4 _ _ rfl, passOn_passingFree _ _ _ _ _ _ rfl, rxBytes_nil]
  rfl

/-- The passage after payload bytes that are passed on as they come. -/
def Passage.pushAll (p : Passage) (bs : List Byte) : Passage :=
  { p with
    got := p.got ++ bs
    rxCheck := bs.foldl crcByte p.rxCheck
    txCheck := bs.foldl crcByte p.txCheck }

theorem Passage.pushAll_nil (p : Passage) : p.pushAll [] = p := by simp [Passage.pushAll]

theorem Passage.push_pushAll (p : Passage) (b : Byte) (bs : List Byte) :
    (p.push b b).pushAll bs = p.pushAll (b :: bs) := by simp [Passage.pushAll, Passage.push]

/-- Payload bytes of a CUE, COMMAND, LOAD or REMOTE frame are passed on as they come (R4, R8). -/
theorem rxBytes_plainPayload (k : FrameKind) (hk : k = .cue ∨ k = .command ∨ k = .load ∨ k = .remote)
    (bs : List Byte) (p : Passage) (sent : List Byte) (s : State)
    (hkind : p.kind = some k) (hs : p.stripped = false) (hr : p.reply = []) (h5 : 5 ≤ p.got.length)
    (hlen : p.got.length + bs.length ≤ 5 + p.length) :
    rxBytes bs (passing s p sent) = passing s (p.pushAll bs) (sent ++ bs) := by
  induction bs generalizing p sent with
  | nil => simp [Passage.pushAll_nil]
  | cons b bs ih =>
    rw [List.length_cons] at hlen
    obtain ⟨n, hn⟩ : ∃ n, p.got.length = n + 5 := ⟨p.got.length - 5, by omega⟩
    have hlt : n < p.length := by omega
    have hb : frameByte p b (passingFree s p sent) = passOn p b b (passingFree s p sent) := by
      simp only [frameByte, hn, hlt, if_true, payloadByte, hr, hkind]
      rcases hk with rfl | rfl | rfl | rfl <;> rfl
    have hg : p.got ≠ [] := by intro e; rw [e] at hn; simp at hn
    have hpush : (p.push b b).kind = some k ∧ (p.push b b).length = p.length := by
      have e0 : ∀ i, i < 5 → (p.push b b).got.getD i 0#8 = p.got.getD i 0#8 := by
        intro i hi
        simp [Passage.push, List.getD_eq_getElem?_getD, List.getElem?_append_left (show i < p.got.length by omega)]
      constructor
      · show FrameKind.ofByte ((p.push b b).got.getD 0 0#8) = some k
        rw [e0 0 (by omega)]
        exact hkind
      · show ((p.push b b).got.getD 4 0#8).toNat = _
        rw [e0 4 (by omega)]
        rfl
    rw [rxBytes_cons, rxByte_passing, hb, passOn_passingFree _ _ _ _ _ _ hs,
      ih (p.push b b) (sent ++ [b]) hpush.1 hs hr (by simp [Passage.push]; omega)
        (by rw [hpush.2]; simp [Passage.push]; omega), Passage.push_pushAll]
    simp

/-- The passage of a whole frame of a kind that is not rewritten, up to its CHECK. -/
def plainPassage (k : FrameKind) (f : Frame) (payload : List Byte) : Passage :=
  (headerPassage k.code f.target f.origin f.hop (byteOf payload.length)).pushAll payload

theorem plainPassage_checks (k : FrameKind) (f : Frame) (payload : List Byte) :
    (plainPassage k f payload).rxCheck = goodCheck f k.code payload ∧
    (plainPassage k f payload).txCheck =
      crc ([k.code, f.target, f.origin, nextHop f.hop, byteOf payload.length] ++ payload) := by
  simp [plainPassage, Passage.pushAll, headerPassage, goodCheck, crc]

/-- A whole frame of a CUE, COMMAND, LOAD or REMOTE that is not stripped, up to its last payload byte, on free lines: its bytes
have gone out with HOP one more (R3 to R5). -/
theorem rxBytes_plainFrame (k : FrameKind) (hk : k = .cue ∨ k = .command ∨ k = .load ∨ k = .remote) (f : Frame)
    (payload : List Byte) (s : State) (hlen : payload.length ≤ Config.maxLength)
    (hown : k = .cue ∨ k = .remote → ownOrigin f s = false) :
    rxBytes ([Config.sync, k.code, f.target, f.origin, f.hop, byteOf payload.length] ++ payload) (freeLine s) =
      passing s (plainPassage k f payload)
        ([k.code, f.target, f.origin, nextHop f.hop, byteOf payload.length] ++ payload) := by
  have hmax : payload.length < 256 := Nat.lt_of_le_of_lt hlen (by decide)
  have hl : (byteOf payload.length).toNat = payload.length := by simp [byteOf, BitVec.toNat_ofNat, Nat.mod_eq_of_lt hmax]
  rw [rxBytes_append, rxBytes_header k _ _ _ _ s (by rw [hl]; exact hlen) (by
    intro hc ⟨hn, he⟩
    have := hown hc
    simp [ownOrigin, hn, he] at this)]
  refine rxBytes_plainPayload k hk payload _ _ s ?_ rfl rfl (by simp [headerPassage]) ?_
  · show FrameKind.ofByte k.code = some k
    cases k <;> decide
  · simp [headerPassage, Passage.length, hl]

/-- The byte behind the payload is the CHECK (R3). -/
theorem frameByte_check (p : Passage) (b : Byte) (s : State) (h : p.got.length = 5 + p.length) :
    frameByte p b s = checkByte p b s := by
  have h' : p.got.length = p.length + 5 := by omega
  simp only [frameByte, h', Nat.lt_irrefl, if_false, if_true]

/-- A part with nothing provisional is within the law of provisional rewrites. -/
theorem provisionalLaw_of_none {s : State} (h : s.attn.prov = none) (h' : s.loop.provNumber = none) : ProvisionalLaw s :=
  ⟨fun hn => absurd h hn, fun hn => absurd h' hn⟩

/-- A command of the loop that brings a whole frame on free lines (R2). -/
theorem frameArrives_whole (f : Frame) (payload : List Byte) (b : Byte) (bytes : List Byte) (s : State)
    (h : ArrivesWhole f payload s) : whenRunning (frameArrives f (b :: bytes)) s = rxBytes (b :: bytes) (freeLine s) := by
  obtain ⟨hp, hq, hi, ho, hb, hl, hskip, htake, hbits, hgap, -⟩ := h
  simp only [whenRunning, hp, if_true, frameArrives, framePart, hskip, htake, hbits, byteFor, List.drop_zero, rxBytes_cons,
    rxByte_afterGap b f.gap s hq hi ho hb hl hgap]

end Sys2Proof.Machine
end

