-- ==== Sys2Proof/Laws/Schedule.lean ====
section
/-! SUPPORT. The scheduled list's insertion: length, members, order. -/

namespace Sys2Proof.Machine

@[simp] theorem insertRecord_length (r : Record) (l : List Record) : (insertRecord r l).length = l.length + 1 := by
  induction l with
  | nil => rfl
  | cons x xs ih => simp only [insertRecord]; split <;> simp [ih]

@[simp] theorem mem_insertRecord (r x : Record) (l : List Record) : x ∈ insertRecord r l ↔ x = r ∨ x ∈ l := by
  induction l with
  | nil => simp [insertRecord]
  | cons y ys ih => simp only [insertRecord]; split <;> simp [ih, or_left_comm]

/-- R44: a list ordered by remaining time stays so. -/
theorem insertRecord_sorted (r : Record) (l : List Record) (h : l.Pairwise (fun x y => x.remaining ≤ y.remaining)) :
    (insertRecord r l).Pairwise (fun x y => x.remaining ≤ y.remaining) := by
  induction l with
  | nil => simp [insertRecord]
  | cons x xs ih =>
    rw [List.pairwise_cons] at h
    simp only [insertRecord]
    split
    · rename_i hx
      rw [List.pairwise_cons]
      refine ⟨fun y hy => ?_, ih h.2⟩
      rcases (mem_insertRecord r y xs).1 hy with rfl | hy
      · exact hx
      · exact h.1 y hy
    · rename_i hx
      rw [List.pairwise_cons, List.pairwise_cons]
      refine ⟨fun y hy => ?_, h.1, h.2⟩
      rcases List.mem_cons.1 hy with rfl | hy
      · omega
      · exact Nat.le_trans (by omega) (h.1 y hy)

/-- All that offering a record to the list can do (R44, R45). -/
theorem schedule_spec (r : Record) (s : State) :
    schedule r s =
      if Config.scheduleCapacity ≤ s.disp.schedule.length then raise .scheduleFull r.cue s
      else { s with disp := { s.disp with schedule := insertRecord r s.disp.schedule } } := rfl

end Sys2Proof.Machine
end

