-- ==== Sys2Proof/Laws/Routing.lean ====
section
/-! SUPPORT. The scheduled list in routing: where a record enters it, and that no routed step reads or writes the Dispatcher's state, so
that the due records of one tick may be routed with the list as it stands before or after. -/

namespace Sys2Proof.Machine

/-- R44: a record enters behind those that are due no later, and before the rest. -/
theorem insertRecord_between (r : Record) (pre post : List Record) (hb : ∀ x ∈ pre, x.remaining ≤ r.remaining)
    (ha : ∀ x ∈ post, r.remaining < x.remaining) : insertRecord r (pre ++ post) = pre ++ r :: post := by
  induction pre with
  | nil =>
    cases post with
    | nil => rfl
    | cons y ys =>
      have := ha y (by simp)
      simp [insertRecord, Nat.not_le.2 this]
  | cons x xs ih =>
    have hx := hb x (by simp)
    simp [insertRecord, hx, ih (fun y hy => hb y (by simp [hy]))]

/-! ### Routing leaves the Dispatcher's state alone, and does not look at it -/

variable (d : Dispatcher)

theorem startMove_disp (m : Move) (s : State) : startMove m { s with disp := d } = { startMove m s with disp := d } := by
  simp only [startMove]
  repeat' split
  all_goals rfl

theorem startMovesUpTo_disp (n : Nat) (s : State) :
    startMovesUpTo n { s with disp := d } = { startMovesUpTo n s with disp := d } := by
  induction n generalizing s with
  | zero => rfl
  | succ n ih =>
    simp only [startMovesUpTo]
    split
    · rfl
    · rename_i m rest _
      have hc : canStart m { s with disp := d } = canStart m s := rfl
      rw [hc]
      split
      · exact (congrArg (startMovesUpTo n)
          (startMove_disp d m { s with tray := ({ s.tray with queue := rest } : Transport).newHead })).trans (ih _)
      · rfl

theorem startMoves_disp (s : State) : startMoves { s with disp := d } = { startMoves s with disp := d } :=
  startMovesUpTo_disp d _ s

theorem offerMove_disp (k : MoveKind) (dark : Bool) (o : Origin) (s : State) :
    offerMove k dark o { s with disp := d } = { offerMove k dark o s with disp := d } := by
  unfold offerMove
  dsimp only
  split
  · rfl
  · exact startMoves_disp d { s with tray := _ }

theorem setLamp_disp (l : Lamp) (s : State) : setLamp l { s with disp := d } = { setLamp l s with disp := d } := by
  unfold setLamp
  dsimp only
  split
  · exact startMoves_disp d { s with lamp := l }
  · exact startMoves_disp d (chooseFan { s with lamp := l })

theorem requestPosition_disp (target ticks : Nat) (o : Origin) (s : State) :
    requestPosition target ticks o { s with disp := d } = { requestPosition target ticks o s with disp := d } := by
  unfold requestPosition
  dsimp only
  repeat' split
  all_goals first | rfl | exact setLamp_disp d _ s

theorem requestLampOff_disp (s : State) : requestLampOff { s with disp := d } = { requestLampOff s with disp := d } := by
  unfold requestLampOff
  dsimp only
  split
  all_goals first | rfl | exact setLamp_disp d _ s

theorem brakeTo_disp (m : Pending) (s : State) : brakeTo m { s with disp := d } = { brakeTo m s with disp := d } := by
  unfold brakeTo
  dsimp only
  split <;> rfl

theorem tapeCommand_disp (m : TapeMode) (s : State) :
    tapeCommand m { s with disp := d } = { tapeCommand m s with disp := d } := by
  obtain ⟨power, loop, out, disp, tray, lamp, cool, deck, dec, remote, stn, retained, attn, openValues, pending⟩ := s
  obtain ⟨state, counter, gateTimer, gateOpen, volume, ramp⟩ := deck
  unfold tapeCommand tapeStop tapePlay tapePause tapeRewind tapeWindFwd tapeRewToZero setCounter tapeStop brakeTo
  dsimp only
  repeat' split
  all_goals rfl

/-- A routed step neither reads nor writes the Dispatcher's state (R41). -/
theorem routeStep_disp (st : Step) (o : Origin) (s : State) :
    routeStep st o { s with disp := d } = { routeStep st o s with disp := d } := by
  unfold routeStep
  repeat' split
  all_goals first
    | rfl
    | exact offerMove_disp d _ _ _ s
    | exact requestPosition_disp d _ _ _ s
    | exact requestLampOff_disp d s
    | exact tapeCommand_disp d _ s

/-- Records routed one by one leave the Dispatcher's state alone and do not look at it (R46, R48). -/
theorem routedAll_disp (ds : List Record) (s : State) :
    routedAll ds { s with disp := d } = { routedAll ds s with disp := d } := by
  induction ds generalizing s with
  | nil => rfl
  | cons r rest ih =>
    exact (congrArg (routedAll rest) (routeStep_disp d ⟨r.verb, r.a, r.b⟩ .ofShow s)).trans (ih _)

end Sys2Proof.Machine
end

