-- ==== Sys2Proof/Tests/Slice0.lean ====
section
/-! SUPPORT. Small tests: ill-formed terms refused, single commands against the manual's worked numbers, and a state and operands
that meet the hypotheses of each statement. -/

set_option Elab.async false

namespace Sys2Proof.Tests

open Sys2Proof Sys2Proof.Machine

/-! ### Small states -/

/-- The state a command leaves. -/
def after (c : Instr) (s : State) : State :=
  match exec c s with
  | .next t => t
  | .fault _ => s
  | .refused _ => s

/-- A whole frame after 30 bit times of idle, HOP 4, with its good check and an empty trailer. -/
def frame (kind target origin : Byte) (payload : List Byte) : Frame :=
  let f : Frame := ⟨30, 0, none, 0, target, origin, 4#8, 0#8, 0x00#8, 0xFF#8⟩
  { f with check := goodCheck f kind payload }

/-- A COMMAND to station 1. -/
def cmd (payload : List Byte) : Frame := frame 0x44#8 1#8 0#8 payload

/-- Station 1, in ACTIVE RUNNING: an 84-slot tray at slot 12, the lamp lit at 1000, a cassette in a deck that stands. -/
def act : State :=
  { State.reset with
    tray := { State.reset.tray with size := .slots84, slot := 12, certainty := .certain, state := .idle, settling := .settled }
    lamp := { State.reset.lamp with state := .lit, p := 1000, drive := 60, slewMem := 60 }
    cool := { State.reset.cool with fanStage := 1, heat := 20000, spinUp := .elapsed }
    deck := { State.reset.deck with state := .stopped }
    stn := { State.reset.stn with
      strapStation := 1, strapDeck := true, strapMaster := true, state := .active, showState := .running, lock := true,
      window := .off } }

/-- Station 1 in CONFIGURING. -/
def conf : State := { State.reset with stn := { State.reset.stn with strapStation := 1 } }

/-- A station state with its show state. -/
def inState (x : StationState) (y : ShowState) (s : State) : State :=
  { s with stn := { s.stn with state := x, showState := y } }

/-- The Transport in a state, with a cycle of so many slots forward. -/
def cycling (ph : Phase) (n : Nat) (s : State) : State :=
  { s with tray := { s.tray with state := .cycle ph, cycle := some ⟨false, .forward, false, n, 0, none, false⟩ } }

/-- The list with these records. -/
def listed (l : List Record) (s : State) : State := { s with disp := { s.disp with schedule := l } }

/-- The deck in a state. -/
def deckIn (d : DeckState) (s : State) : State := { s with deck := { s.deck with state := d } }

/-- The deck playing with its gate open and the decoder in a state. -/
def decoding (d : DecoderState) (s : State) : State :=
  { s with deck := { s.deck with state := .playing, gateOpen := true }, dec := { s.dec with state := d, timing := true } }

/-! ### Ill-formed terms -/

theorem test_wf_payload : (Instr.cueFrame (frame 0x11#8 0#8 0#8 []) (List.replicate 33 0#8)).wellFormed = false := by decide +kernel
theorem test_wf_known_kind : (Instr.unknownKind (frame 0x11#8 0#8 0#8 []) 0x11#8 []).wellFormed = false := by decide +kernel
theorem test_wf_length : (Instr.lengthAbove32 (frame 0x11#8 0#8 0#8 []) 0x11#8 32#8 []).wellFormed = false := by decide +kernel
theorem test_wf_empty_run : (Instr.strayByteRun 0 []).wellFormed = false := by decide +kernel
theorem test_wf_args : (Instr.hold (cmd []) (List.replicate 32 0#8)).wellFormed = false := by decide +kernel
theorem test_wf_scan_order : (Instr.keyScan ⟨false, false, false, false, false, false⟩ [.fwd, .fwd]).wellFormed = false := by
  decide +kernel
theorem test_wf_known_command : (Instr.unknownCommandCode (cmd []) [1#8]).wellFormed = false := by decide +kernel
theorem test_wf_good : (Instr.unknownCommandCode (cmd []) [13#8]).wellFormed = true := by decide +kernel

/-! ### Reset, the check, the loop -/

/-- R174: a power-on with no valid record raises RESTARTED with detail 256, with a valid one 257 (12 section 12.2). -/
theorem test_power_on_no_record :
    ((after (.powerOn ⟨0#5, false, false⟩ ⟨false, false, false⟩) State.reset).attn.get .restarted).detail = 256 ∧
    (after (.powerOn ⟨0#5, false, false⟩ ⟨false, false, false⟩) State.reset).cool = State.reset.cool := by decide +kernel

theorem test_power_on_valid_record :
    ((after (.powerOn ⟨2#5, false, false⟩ ⟨false, false, false⟩)
      { State.reset with retained :=
        ⟨#v[84#8, 1#8, 2#8, 0#8, 0#8, 20#8], crc [84#8, 1#8, 2#8, 0#8, 0#8, 20#8], false⟩ }).attn.get .restarted).detail =
      257 := by decide +kernel

/-- R188 by hand: from 0xFF the byte 0xFF leaves 0. -/
theorem test_crc_byte : crc [0xFF#8] = 0#8 := by decide +kernel

/-- 12 section 12.4: station 1 originates cue 17 with HOP 1; its SYNC begins after 20 bit times of idle, and not before (R17). -/
theorem test_originated_cue :
    let s : State := { act with loop := { act.loop with origQueue := [.cue 17] } }
    ((after (.originatedFrameStart 20) s).out.sent, (after (.originatedFrameStart 20) s).out.originating.take 7,
      (after (.originatedFrameStart 19) s).out.sent) =
      ([0xD4#8], [0x11#8, 0#8, 1#8, 1#8, 2#8, 255#8, 17#8], []) := by decide +kernel

/-- R17: 25 bit times of idle, then half the SYNC of a passing CUE: a queued frame begins and the SYNC, once whole, waits behind it;
where the SYNC has come whole first, none begins. -/
theorem test_originated_before_sync :
    let cue := fun gap take bits => Instr.cueFrame { frame 0x11#8 0#8 0#8 [255#8, 1#8] with gap := gap, take := some take, bits := bits }
      [255#8, 1#8]
    let half := after (cue 25 0 5) { act with loop := { act.loop with origQueue := [.cue 17] } }
    let begun := after (.originatedFrameStart 0) half
    (begun.out.sent, (after (cue 0 1 0) begun).out.buffer, (after (.originatedFrameStart 0) (after (cue 0 1 0) half)).out.sent) =
      ([0xD4#8], [⟨0xD4#8, true⟩], []) := by decide +kernel

/-- R17, R1: with the line still held at the space level after a broken byte, LOOP OUT idle for two byte times lets a queued frame begin;
the SYNC of a frame is taken only with two byte times of idle after the hold. -/
theorem test_space_hold :
    let s : State := { act with loop := { act.loop with space := 45, origQueue := [.cue 17] } }
    let t := after (.originatedFrameStart 20) s
    let cue := fun gap => Instr.cueFrame { frame 0x11#8 0#8 0#8 [255#8, 1#8] with gap := gap } [255#8, 1#8]
    (t.out.sent, t.loop.space, (after (cue 19) s).out.sent.length, (after (cue 20) s).out.sent.length) =
      ([0xD4#8], 25, 0, 9) := by decide +kernel

/-- The state at which station 1 has just begun its CUE on LOOP OUT. -/
def behindCue : State := after (.originatedFrameStart 20) { act with loop := { act.loop with origQueue := [.cue 17] } }

/-- The first bytes of a POLL that begins to arrive one byte time after that. -/
def pollBehindCue (bytes : Nat) : State :=
  after (.poll { frame 0x22#8 0#8 0#8 (List.replicate 7 0#8) with gap := 10, take := some bytes } (List.replicate 7 0#8)) behindCue

/-- 01, "A passing POLL behind an originated cue", times 2, 9, 11 and 15: the bytes received and not yet sent whole are 1, 8, 10 and 10;
the SYNC of the POLL begins at 11, the ninth byte begun after the cue's own SYNC, and at 15 the fifth byte of the POLL. -/
theorem test_poll_behind_cue :
    [1, 8, 10, 14].map (fun n => (pollBehindCue n).out.buffer.length) = [1, 8, 9, 9] ∧
    [1, 8, 10, 14].map (fun n => (pollBehindCue n).out.left) = [10, 0, 10, 10] ∧
    [10, 14].map (fun n => (pollBehindCue n).out.sent.length) = [9, 13] := by
  decide +kernel

/-- 12 section 12.4: a cue of another station goes on with HOP one more and leaves the loop position. -/
theorem test_cue_hop :
    ((after (.cueFrame (frame 0x11#8 0#8 2#8 [255#8, 17#8]) [255#8, 17#8]) act).out.sent.getD 4 0#8,
     (after (.cueFrame (frame 0x11#8 0#8 2#8 [255#8, 17#8]) [255#8, 17#8]) act).loop.position) = (5#8, 0#8) := by decide +kernel

/-- 12 section 12.4: the originator strips its own cue after SYNC, KIND and TARGET. -/
theorem test_cue_stripped :
    (after (.cueFrame (frame 0x11#8 0#8 1#8 [255#8, 17#8]) [255#8, 17#8]) act).out.sent = [0xD4#8, 0x11#8, 0#8] := by
  decide +kernel

/-- 12 section 12.8: station 1 offers source 12, LOW, detail 1022. -/
theorem test_poll_derate :
    ((after (.poll (frame 0x22#8 0#8 0#8 [2#8, 0#8, 0#8, 0#8, 0#8, 0#8, 0#8]) [2#8, 0#8, 0#8, 0#8, 0#8, 0#8, 0#8])
      { act with attn := (act.attn.ack .restarted).raise .thermalDerate 1022 }).out.sent.drop 6).take 7 =
      [2#8, 1#8, 12#8, 0#8, 0x03#8, 0xFE#8, 0#8] := by decide +kernel

/-- 10 section 10.2: a held LOW source is not offered to a HIGH_ONLY POLL. -/
theorem test_poll_high_only :
    ((({ act.attn with held := some .moveRefused }.ack .restarted).put .moveRefused ⟨true, false, 0, true, false⟩).offer false) =
      none := by decide +kernel

/-- 11 section 11.6: COUNTERS from offset 16 in an area of 3 holds the ninth counter behind OK. -/
theorem test_query_counters :
    ((after (.query (frame 0x33#8 1#8 0#8 [3#8, 16#8, 0#8, 0#8, 0#8]) [3#8, 16#8, 0#8, 0#8, 0#8])
      { act with attn := act.attn.count .notApplicable }).out.sent.drop 6).take 5 =
      [3#8, 16#8, 1#8, 0#8, 1#8] := by decide +kernel

/-- 11 section 11.4: first 40 and count 4 is 32808, sent as 0x80 0x28. -/
theorem test_entry_bytes : entryBytesOf ⟨40, 4⟩ = [0x80#8, 0x28#8] := by decide +kernel

/-- 12 section 12.2: entry 17 of the pending bank B by LOAD, answered ACCEPTED. -/
theorem test_load_entry :
    let t := after (.load (frame 0x55#8 1#8 0#8 [1#8, 0#8, 17#8, 1#8, 0x40#8, 0x01#8]) [1#8, 0#8, 17#8, 1#8, 0x40#8, 0x01#8]) conf
    (t.disp.bankB.entry 17, t.disp.bankA.entry 17, t.out.sent.drop 13) = (⟨1, 2⟩, ⟨0, 0⟩, [0x01#8, 0xFE#8]) := by decide +kernel

/-- R28: a first of 480 is refused. -/
theorem test_load_refused :
    (after (.load (frame 0x55#8 1#8 0#8 [1#8, 0#8, 17#8, 1#8, 0x21#8, 0xE0#8]) [1#8, 0#8, 17#8, 1#8, 0x21#8, 0xE0#8]) conf).out.sent.drop
      13 = [0x03#8, 0xFC#8] := by decide +kernel

/-- R12: a REMOTE frame is repeated for the head. -/
theorem test_remote :
    (after (.remoteFrame (frame 0x66#8 0#8 2#8 [1#8, 2#8]) [1#8, 2#8]) act).out.sent.length = 9 := by decide +kernel

/-- R19: an unassigned station takes NEXT and sends NEXT + 1. -/
theorem test_assign :
    let t := after (.assign (frame 0x77#8 31#8 0#8 [5#8]) [5#8]) State.reset
    (stationNumber t, t.out.sent.getD 6 0#8) = (5, 6#8) := by decide +kernel

/-- R11: an unknown kind keeps its HOP. -/
theorem test_unknown_kind :
    ((after (.unknownKind (frame 0x99#8 0#8 0#8 [7#8]) 0x99#8 [7#8]) act).out.sent.getD 4 0#8,
     (after (.unknownKind (frame 0x99#8 0#8 0#8 [7#8]) 0x99#8 [7#8]) act).attn.counter .unknownKind) = (4#8, 1) := by decide +kernel

/-- R2: a stray run counts one FRAMING_FAIL. -/
theorem test_stray : (after (.strayByteRun 20 [1#8, 2#8, 3#8]) act).attn.counter .framingFail = 1 := by decide +kernel

/-- R9: a LENGTH of 33 is sent and nothing after it. -/
theorem test_overlong :
    (after (.lengthAbove32 (frame 0x44#8 1#8 0#8 []) 0x44#8 33#8 [1#8, 2#8]) act).out.sent =
      [0xD4#8, 0x44#8, 1#8, 0#8, 5#8, 33#8] := by decide +kernel

/-- R9: a frame that ends early after two bytes of its header counts one FRAMING_FAIL. -/
theorem test_ended_early :
    (after .frameEndedEarly (after (.cueFrame { frame 0x11#8 0#8 0#8 [255#8, 1#8] with take := some 3 } [255#8, 1#8]) act)).attn.counter
      .framingFail = 1 := by decide +kernel

/-- R2: ten idle bit times do not end a frame in passage, eleven do. -/
theorem test_idle_in_frame :
    let s := after (.cueFrame { frame 0x11#8 0#8 0#8 [255#8, 1#8] with take := some 3 } [255#8, 1#8]) act
    ((after (.delayBufferSend 10) s).loop.rx.noFrame, (after (.delayBufferSend 11) s).loop.rx.noFrame) = (false, true) := by
  decide +kernel

/-- R2: after a frame that ended early, a SYNC that follows 15 bit times of idle in all is a stray byte; one that follows 20 begins
a frame. -/
theorem test_sync_after_early_end :
    let s := after .frameEndedEarly (after (.cueFrame { frame 0x11#8 0#8 0#8 [255#8, 1#8] with take := some 3 } [255#8, 1#8]) act)
    ((after (.cueFrame { frame 0x11#8 0#8 0#8 [255#8, 1#8] with gap := 4 } [255#8, 1#8]) s).out.sent.length,
      (after (.cueFrame { frame 0x11#8 0#8 0#8 [255#8, 1#8] with gap := 9 } [255#8, 1#8]) s).out.sent.length) = (0, 9) := by
  decide +kernel

/-- R1, R9: a broken byte in a frame counts one too. -/
theorem test_broken_byte :
    (after .brokenByte (after (.cueFrame { frame 0x11#8 0#8 0#8 [255#8, 1#8] with take := some 3 } [255#8, 1#8]) act)).attn.counter
      .framingFail = 1 := by decide +kernel

/-- R18: delayed bytes leave back to back while LOOP IN is idle. -/
theorem test_delay_buffer :
    (after (.delayBufferSend 11) { act with out := { act.out with buffer := [⟨7#8, false⟩, ⟨8#8, false⟩] } }).out.sent = [7#8, 8#8] := by
  decide +kernel

/-- R21: HOLD policy. -/
theorem test_loop_silence :
    (after .loopSilenceExpiry { act with loop := { act.loop with silence := .running } }).stn.showState = .held := by decide +kernel

/-! ### Commands -/

/-- R84: level 128 gives target 2056. -/
theorem test_step_lamp :
    (after (.step (cmd [1#8, 6#8, 128#8, 20#8]) [6#8, 128#8, 20#8]) act).lamp.ramp = ⟨1000, 2056, 200, 0, .direct, true⟩ := by
  decide +kernel

/-- R43: a verb above 10 is REFUSED_RANGE. -/
theorem test_step_refused :
    (after (.step (cmd [1#8, 11#8, 0#8, 0#8]) [11#8, 0#8, 0#8]) act).out.sent.drop 11 = [0x03#8, 0xFC#8] := by decide +kernel

theorem test_hold : (after (.hold (cmd [2#8]) []) act).stn.showState = .held := by decide +kernel
theorem test_resume : (after (.resume (cmd [3#8]) []) (inState .active .held act)).stn.showState = .running := by decide +kernel
theorem test_commit : (after (.commit (cmd [4#8]) []) act).disp.live = .b := by decide +kernel

/-- 12 section 12.2: CONFIG_SET G 48 in CONFIGURING stops the window. -/
theorem test_config_set :
    ((after (.configSet (cmd [5#8, 8#8, 0#8, 48#8]) [8#8, 0#8, 48#8]) conf).stn.items.heatGain,
     (after (.configSet (cmd [5#8, 8#8, 0#8, 48#8]) [8#8, 0#8, 48#8]) conf).stn.window) = (48, .stopped) := by decide +kernel

/-- R171: a locked item in ACTIVE is REFUSED_LOCKED. -/
theorem test_config_locked :
    (after (.configSet (cmd [5#8, 8#8, 0#8, 48#8]) [8#8, 0#8, 48#8]) act).out.sent.drop 11 = [0x04#8, 0xFB#8] := by decide +kernel

/-- 12 section 12.2: CONFIG_CLOSE makes bank B live and enters ACTIVE. -/
theorem test_config_close :
    ((after (.configClose (cmd [6#8]) []) conf).disp.live, (after (.configClose (cmd [6#8]) []) conf).stn.state) = (.b, .active) := by
  decide +kernel

theorem test_standby : (act.lamp.coolDown.state, act.tray.flush.queue) = (.off, []) := by decide +kernel
theorem test_wake : (after (.wake (cmd [8#8]) []) (inState .standby .none act)).stn.state = .active := by decide +kernel
theorem test_ack : ((after (.ack (cmd [9#8, 1#8]) [1#8]) act).attn.get .restarted).flag = false := by decide +kernel
theorem test_attn_set :
    (after (.attnSet (cmd [10#8, 16#8, 0#8, 1#8]) [16#8, 0#8, 1#8]) act).attn.get .tapeCueFault = ⟨false, false, 0, false, true⟩ := by
  decide +kernel
theorem test_clear_counters :
    (after (.clearCounters (cmd [11#8]) []) { act with attn := act.attn.count .checkFail }).attn.counter .checkFail = 0 := by
  decide +kernel

/-- R7, R173: RESET waits until the last trailer byte has been sent to its end, ten bit times on; before it a loop reset changes
nothing, and then it keeps a number taken by ASSIGN. -/
theorem test_reset_then_loop_reset :
    let s := after (.reset (frame 0x44#8 5#8 0#8 [12#8]) []) { State.reset with loop := { State.reset.loop with assigned := some 5 } }
    let t := after (.delayBufferSend 10) s
    (after (.loopReset ⟨false, false, false⟩) s).out.resetAhead = some 1 ∧
    ((after (.loopReset ⟨false, false, false⟩) t).loop.assigned,
     ((after (.loopReset ⟨false, false, false⟩) t).attn.get .restarted).detail) = (some 5, 768) := by decide +kernel

/-- R181: a provisional hold whose source a side effect clears is not made firm, though the source is raised again before the
CHECK. -/
theorem test_side_clear_ends_provisional_hold :
    ((({ act.attn with prov := some .trayJam }.sideClear .trayJam).raise .trayJam 2).firm).held = none := by decide +kernel

theorem test_unknown_command :
    (after (.unknownCommandCode (cmd [13#8]) [13#8]) act).out.sent.drop 8 = [0x03#8, 0xFC#8] := by decide +kernel

/-! ### Resets, mains -/

theorem test_pin_assert : (after .pinResetAssert act).power = .held := by decide +kernel
theorem test_pin_reset :
    ((after (.pinReset ⟨31#5, true, true⟩ ⟨true, true, false⟩) act).stn.strapStation,
     (after (.pinReset ⟨31#5, true, true⟩ ⟨true, true, false⟩) act).cool.cutout) = (0, true) := by decide +kernel

/-- R75: mains loss in a cycle ends it UNCERTAIN with the slot at its last count. -/
theorem test_mains_warn :
    ((cycling .index 2 act).tray.mainsLoss.certainty, (cycling .index 2 act).tray.mainsLoss.slot) = (.uncertain, 12) := by
  decide +kernel

/-- R176: the record of an 84-slot tray at slot 12, certain, heat 20,000, volume 20. -/
theorem test_write_end :
    (after .retainedWriteEnd (beginWrite act)).retained.fields = #v[84#8, 12#8, 2#8, 0x4E#8, 0x20#8, 20#8] := by decide +kernel

theorem test_brownout :
    ((after (.brownoutRestart ⟨1#5, true, true⟩ ⟨false, true, false⟩)
      (after .mainsWarnDeassert (inState .mainsLoss .none act))).attn.get .restarted).detail = 1024 := by decide +kernel

theorem test_supply_fall : (after .supplyFall act).power = .off := by decide +kernel

theorem test_window : (after .configWindowExpiry conf).stn.lock = true := by decide +kernel

theorem test_standby_condition :
    (after .standbyCondition { inState .coolingDown .none act with
      lamp := State.reset.lamp, cool := { act.cool with cool := true } }).stn.state = .standby := by decide +kernel

/-! ### The list and the mirror -/

/-- 02, worked example: while HELD, the steps of cue 19 enter the list behind a record of 18 and before one of 38. -/
theorem test_list_order :
    (insertRecord ⟨25, .goto, 1, 1, 19⟩ [⟨18, .lamp, 255, 20, 17⟩, ⟨38, .follow, 18, 0, 17⟩]).map Record.remaining = [18, 25, 38] := by
  decide +kernel

theorem test_show_tick :
    (after .showTick { act with disp := { act.disp with schedule := [⟨30, .lamp, 255, 20, 17⟩] } }).disp.schedule.map Record.remaining =
      [29] := by decide +kernel

theorem test_record_due :
    (after .scheduledRecordDue { act with disp := { act.disp with schedule := [⟨0, .sound, 8, 5, 19⟩] } }).deck.ramp =
      ⟨20, 8, 50, 0, .ofShow, true⟩ := by decide +kernel

theorem test_mirror :
    (after .mirrorComplete (after (.commit (cmd [4#8]) []) act)).disp.mirrorBusy = false := by decide +kernel

/-! ### Transport -/

/-- 03 section 3.5: 84 slots, slot 70, GOTO 5: 19 slots forward. -/
theorem test_goto_path :
    (after .moveStart { act with tray := { act.tray with slot := 70, queue := [⟨.goto 5, false, false, .direct⟩] } }).tray.cycle =
      some ⟨false, .forward, false, 19, 0, none, false⟩ := by decide +kernel

theorem test_dark_wait :
    ((after .darkWaitTimeout { act with tray := { act.tray with
      queue := [⟨.step 1, true, false, .ofShow⟩], darkTimer := true } }).attn.get .darkWaitTimeout).flag = true := by decide +kernel

/-- 12 section 12.6: the phases of a change cycle. -/
theorem test_close_end : (after (.closePhaseEnd false) (cycling .close 1 act)).tray.state = .cycle .lift := by decide +kernel
theorem test_cam_mid : (after .camMid (cycling .lift 1 act)).tray.state = .cycle .index := by decide +kernel
theorem test_index_pulse :
    ((after .indexPulse (cycling .index 1 act)).tray.slot, (after .indexPulse (cycling .index 1 act)).tray.state) =
      (13, .cycle .drop) := by decide +kernel
theorem test_cam_home : (after .camHome (cycling .drop 1 act)).tray.state = .cycle .settle := by decide +kernel
theorem test_settle_end : (after .settleEnd (cycling .settle 1 act)).tray.state = .idle := by decide +kernel

theorem test_lift_jam : ((after .liftTimeout (cycling .lift 1 act)).attn.get .trayJam).detail = 2 := by decide +kernel
theorem test_index_jam : (after .indexTimeout (cycling .index 1 act)).tray.certainty = .uncertain := by decide +kernel
theorem test_drop_jam : (after .dropTimeout (cycling .drop 1 act)).tray.state = .jammed := by decide +kernel
theorem test_homing_limit :
    (after .homingPassLimit { act with tray := { act.tray with
      state := .cycle .index, cycle := some ⟨true, .forward, true, 0, 85, none, false⟩ } }).tray.state = .jammed := by decide +kernel

/-- R65: a mark at a CERTAIN slot that is not 0 is a resync with the counted slot as detail. -/
theorem test_home_mark :
    ((after .homeMark (cycling .index 2 act)).attn.get .trayResync).detail = 12 := by decide +kernel

/-! ### Lamp and cooling -/

/-- 04 section 4.11: lit at 1000 with slew memory 60, the drive is 69; with 30 it is 54. -/
theorem test_lamp_tick : (after (.lampTick true) act).lamp.drive = 69 := by decide +kernel
theorem test_lamp_slew :
    (after (.lampTick true) { act with lamp := { act.lamp with drive := 30, slewMem := 30 } }).lamp.drive = 54 := by decide +kernel

/-- 04 section 4.11: the last tick of 0 to 4096 over 200 ticks. -/
theorem test_ramp_end :
    (after (.lampRampEnd true) { act with lamp := { act.lamp with ramp := ⟨0, 4096, 200, 199, .ofShow, true⟩ } }).lamp.p = 4096 := by
  decide +kernel

/-- 04 section 4.11: 4096 to 0 over 200 ticks gives 4076 at its first tick, and 1000 to 1003 over 10 gives 1001 at its sixth. -/
theorem test_ramp_values :
    ((Ramp.step ⟨4096, 0, 200, 0, .ofShow, true⟩).2, (Ramp.step ⟨1000, 1003, 10, 5, .ofShow, true⟩).2) = (4076, 1001) := by
  decide +kernel

theorem test_lamp_failed :
    (after .lampFailed { act with lamp := { act.lamp with p := 4096, slewMem := 300, drive := 300, failCount := 19 } }).lamp.state =
      .failed := by decide +kernel

/-- 05 section 5.10: full drive at 20,000 on stage 2 gives 20,003. -/
theorem test_cooling_tick :
    (after (.coolingTick true) { act with
      lamp := { act.lamp with p := 4096, drive := 1023, slewMem := 1023, energy := 9207, ticks := 9 }
      cool := { act.cool with heatStage := 2, fanStage := 2 } }).cool.heat = 20003 := by decide +kernel

/-- 05 section 5.10: the ceiling at 46,000, at 52,000 and at 52,500. -/
theorem test_ceiling :
    (ceilingOf .default 46000, ceilingOf .default 52000, ceilingOf .default 52500) = (532, 40, 40) := by decide +kernel

theorem test_tach_pulse : (after .fanTachPulse act).cool.gateCount = 1 := by decide +kernel

/-- R111: below the minimum of 12 at stage 1 the fan has stalled; the detail names stage and count. -/
theorem test_tach_stall :
    ((after .tachGateEnd { act with cool := { act.cool with gateCount := 11 } }).attn.get .fanStall).detail = 256 + 11 := by
  decide +kernel
theorem test_spin_up : (after .spinUpElapsed { act with cool := { act.cool with spinUp := .running } }).cool.spinUp = .elapsed := by
  decide +kernel
theorem test_cutout : (after (.cutoutChange true) act).lamp.state = .tripped := by decide +kernel

/-! ### Deck, decoder, pendant -/

theorem test_cassette : (after (.cassetteChange false) act).deck.state = .noCassette := by decide +kernel
theorem test_reel_pulse : (after .reelPulse (deckIn .playing act)).deck.counter = 1 := by decide +kernel
theorem test_gate_open :
    (after .decoderGateOpen { deckIn .playing act with deck := { act.deck with state := .playing, gateTimer := true } }).dec.state =
      .hunting := by decide +kernel

theorem test_sound_tick :
    (after .soundTick { act with deck := { act.deck with ramp := ⟨20, 24, 100, 24, .ofShow, true⟩ } }).deck.volume = 21 := by
  decide +kernel
theorem test_sound_end :
    (after .soundRampEnd { act with deck := { act.deck with ramp := ⟨20, 24, 100, 99, .ofShow, true⟩ } }).deck.volume = 24 := by
  decide +kernel

/-- 07, worked example: cue 17 with parity bit 1 becomes the candidate; its second copy is confirmed and joins the queue. -/
theorem test_tape_candidate :
    (after (.tapeWord 17#8 true true) (decoding (.reading 2) act)).dec.candidate = some 17#8 := by decide +kernel
theorem test_tape_confirmed :
    let s := decoding (.reading 2) act
    (after (.tapeWord 17#8 true true) { s with dec := { s.dec with candidate := some 17#8 } }).loop.origQueue = [.cue 17] := by
  decide +kernel

theorem test_candidate_expiry :
    (after .candidateExpiry { act with dec := { act.dec with candidate := some 17#8 } }).attn.counter .tapeUnconfirmed = 1 := by
  decide +kernel
theorem test_guard_expiry :
    (after .guardExpiry { act with dec := { act.dec with guardWord := some 17#8 } }).dec.guardWord = none := by decide +kernel

/-- R149: a burst of 53 gives cue 248, one of 52 none. -/
theorem test_burst_end :
    let s := decoding .burst act
    ((after .burstEnd { s with dec := { s.dec with burst := 53, nonMark := 2 } }).loop.origQueue,
     (after .burstEnd { s with dec := { s.dec with burst := 52, nonMark := 2 } }).loop.origQueue) = ([.cue 248], []) := by
  decide +kernel
theorem test_burst_limit :
    let s := decoding .burst act
    (after .burstLimit { s with dec := { s.dec with burst := 524 } }).loop.origQueue = [.cue 249] := by decide +kernel
theorem test_spent_end :
    let s := decoding .spent act
    (after .spentEnd { s with dec := { s.dec with nonMark := 2 } }).dec.state = .pulseIdle := by decide +kernel

/-- R141: 420 is a MARK, 421 is neither. -/
theorem test_period :
    ((after (.cueTrackPeriod 420) (decoding .hunting act)).dec.lastPeriod, (after (.cueTrackPeriod 421) (decoding .hunting act)).dec.lastPeriod) =
      (some .mark, some .neither) := by decide +kernel

/-- 08, worked sequence: the fourth pressed scan gives the press, and the press a STEP of +1 that starts at once. -/
theorem test_key_scan :
    let s := { act with remote := (act.remote.put .fwd ⟨false, 3, false, false⟩) }
    ((after (.keyScan ⟨true, true, true, true, true, true⟩ [.fwd]) s).remote.get .fwd).pressed = true := by decide +kernel
theorem test_key_press :
    (after (.keyPress .fwd) { act with remote := act.remote.put .fwd ⟨false, 0, false, false⟩ }).tray.state = .cycle .close := by
  decide +kernel
theorem test_key_release : ((after (.keyRelease .fwd) act).remote.get .fwd).consumed = false := by decide +kernel
theorem test_focus_limit :
    let s := { act with remote := { (act.remote.put .focusIn ⟨true, 0, false, false⟩) with focus := .inward } }
    (after .focusRunLimit s).remote.focus = .stopped := by decide +kernel

/-- No row of the table gives bits. -/
theorem test_decode_none : decodeTableWord 8 1 = none := rfl

/-! ### A state and operands for the hypotheses of each statement

Each theorem is named for its statement; where a statement has several clauses, it has a conjunct for each. -/

/-- A payload of one frame of each kind. -/
def samplePayload : FrameKind → List Byte
  | .cue => [255#8, 17#8] | .poll => [2#8, 0#8, 0#8, 0#8, 0#8, 0#8, 0#8] | .query => [3#8, 16#8, 0#8] | .command => [2#8]
  | .load => [1#8, 0#8, 17#8, 1#8, 0x40#8, 0x01#8] | .remote => [1#8, 2#8] | .assign => [5#8]

/-- The same frame with its check spoilt. -/
def spoilt (f : Frame) : Frame := { f with check := ~~~f.check }

theorem test_meets_StepTakesFrontCommand :
    { act with pending := [.showTick, .camMid] }.pending = .showTick :: [.camMid] ∧ act.pending = [] := ⟨rfl, rfl⟩

theorem test_meets_EveryCommandAnswersNext : { act with power := .off }.power ≠ .running ∧ { act with power := .held }.power ≠ .running := by
  decide +kernel

theorem test_meets_CueAndRemoteFramesPass :
    (ArrivesWhole (frame 0x11#8 0#8 0#8 [15#8, 17#8]) [15#8, 17#8] act ∧ CheckGood (frame 0x11#8 0#8 0#8 [15#8, 17#8]) .cue [15#8, 17#8] ∧
      ownOrigin (frame 0x11#8 0#8 0#8 [15#8, 17#8]) act = false) ∧
    (ArrivesWhole (frame 0x66#8 0#8 2#8 [1#8, 2#8]) [1#8, 2#8] act ∧ CheckGood (frame 0x66#8 0#8 2#8 [1#8, 2#8]) .remote [1#8, 2#8] ∧
      ownOrigin (frame 0x66#8 0#8 2#8 [1#8, 2#8]) act = false) := by
  unfold ArrivesWhole; decide +kernel

theorem test_meets_GoodFrameLeavesLine (k : FrameKind) :
    ArrivesWhole (frame k.code 1#8 0#8 (samplePayload k)) (samplePayload k) act ∧
    CheckGood (frame k.code 1#8 0#8 (samplePayload k)) k (samplePayload k) ∧
    (k = .cue ∨ k = .remote → ownOrigin (frame k.code 1#8 0#8 (samplePayload k)) act = false) ∧
    ArrivesWhole (frame 0x99#8 0#8 0#8 [7#8]) [7#8] act ∧ FrameKind.ofByte 0x99#8 = none := by
  unfold ArrivesWhole; cases k <;> decide +kernel

theorem test_meets_WrongFixedLengthCountsFramingFail :
    FrameKind.poll.fixedLength = some 7 ∧ [1#8, 0#8].length ≠ 7 ∧ ArrivesWhole (frame 0x22#8 0#8 0#8 [1#8, 0#8]) [1#8, 0#8] act ∧
    CheckGood (frame 0x22#8 0#8 0#8 [1#8, 0#8]) .poll [1#8, 0#8] := by
  unfold ArrivesWhole; decide +kernel

theorem test_meets_OwnFrameStripped :
    ArrivesWhole (frame 0x66#8 0#8 1#8 [1#8, 1#8]) [1#8, 1#8] act ∧ ownOrigin (frame 0x66#8 0#8 1#8 [1#8, 1#8]) act = true := by
  unfold ArrivesWhole; decide +kernel

theorem test_meets_BadCheckNotActedOn (k : FrameKind) :
    ArrivesWhole (spoilt (frame k.code 1#8 0#8 (samplePayload k))) (samplePayload k) act ∧
    ¬ CheckGood (spoilt (frame k.code 1#8 0#8 (samplePayload k))) k (samplePayload k) ∧
    (k = .cue ∨ k = .remote → ownOrigin (spoilt (frame k.code 1#8 0#8 (samplePayload k))) act = false) ∧
    act.disp.mirrorBusy = false := by
  unfold ArrivesWhole; cases k <;> decide +kernel

/-- The law of provisional rewrites, a premise of several statements, at the state of these tests. -/
theorem test_meets_provisionalLaw : ProvisionalLaw act ∧ ProvisionalLaw conf ∧ ProvisionalLaw State.reset :=
  ⟨provisionalLaw_of_none rfl rfl, provisionalLaw_of_none rfl rfl, provisionalLaw_of_none rfl rfl⟩

theorem test_meets_UnknownKindRepeatedUnchanged :
    (ArrivesWhole (spoilt (frame 0x99#8 0#8 0#8 [7#8])) [7#8] act ∧ FrameKind.ofByte 0x99#8 = none) ∧
    (ArrivesWhole (frame 0x99#8 0#8 0#8 []) [] act ∧ 32 < (33#8 : Byte).toNat) := by
  unfold ArrivesWhole; decide +kernel

/-- Station 1 with THERMAL_DERATE flagged alone. -/
def derated : State := { act with attn := (act.attn.ack .restarted).raise .thermalDerate 1022 }

theorem test_meets_PollSlotFilledOrForwarded :
    (ArrivesWhole (frame 0x22#8 0#8 0#8 (samplePayload .poll)) (samplePayload .poll) derated ∧
      CheckGood (frame 0x22#8 0#8 0#8 (samplePayload .poll)) .poll (samplePayload .poll) ∧ stationNumber derated ≠ 0 ∧
      derated.attn.offer (2#8 == 2#8) = some .thermalDerate) ∧
    (ArrivesWhole (frame 0x22#8 0#8 0#8 [1#8, 0#8, 0#8, 0#8, 0#8, 0#8, 0#8]) [1#8, 0#8, 0#8, 0#8, 0#8, 0#8, 0#8] derated ∧
      CheckGood (frame 0x22#8 0#8 0#8 [1#8, 0#8, 0#8, 0#8, 0#8, 0#8, 0#8]) .poll [1#8, 0#8, 0#8, 0#8, 0#8, 0#8, 0#8] ∧
      derated.attn.offer (1#8 == 2#8) = none) := by
  unfold ArrivesWhole; decide +kernel

theorem test_meets_PollOfferOrder :
    ({ act.attn with held := some .restarted }.get .restarted).high = true ∧
    (({ derated.attn with held := some .thermalDerate }.get .thermalDerate).high = false ∧
      ({ derated.attn.raise .trayJam 3 with held := some .thermalDerate }).firstHigh = some .trayJam) ∧
    { derated.attn with held := some .thermalDerate }.firstHigh = none ∧
    (act.attn.held = none ∧ act.attn.firstHigh = some .restarted) ∧ (derated.attn.held = none ∧ derated.attn.firstHigh = none) ∧
    derated.attn.firstPending = some .thermalDerate ∧ act.attn.pending .restarted = true ∧
    ({ act.attn with prov := some .restarted }.prov = some .restarted ∧ act.attn.prov = none ∧
      { act.attn with held := some .restarted }.held = some .restarted ∧
      { act.attn with prov := some .restarted }.held ≠ some .restarted) := by decide +kernel

theorem test_meets_QueryAnsweredInPassing :
    (ArrivesWhole (frame 0x33#8 1#8 0#8 ([5#8, 1#8, 1#8, 0#8, 17#8] ++ [0#8, 0#8, 0#8])) ([5#8, 1#8, 1#8, 0#8, 17#8] ++ [0#8, 0#8, 0#8]) act ∧
    CheckGood (frame 0x33#8 1#8 0#8 ([5#8, 1#8, 1#8, 0#8, 17#8] ++ [0#8, 0#8, 0#8])) .query
      ([5#8, 1#8, 1#8, 0#8, 17#8] ++ [0#8, 0#8, 0#8]) ∧
    ownTarget (frame 0x33#8 1#8 0#8 ([5#8, 1#8, 1#8, 0#8, 17#8] ++ [0#8, 0#8, 0#8])) act = true ∧
    (selectBytes ([5#8, 1#8, 1#8, 0#8, 17#8].headD 0#8)).map (· + 1) = some 5 ∧ act.disp.mirrorBusy = false) ∧
    (ArrivesWhole (frame 0x33#8 31#8 0#8 [3#8, 16#8, 0#8]) [3#8, 16#8, 0#8] act ∧
      CheckGood (frame 0x33#8 31#8 0#8 [3#8, 16#8, 0#8]) .query [3#8, 16#8, 0#8] ∧
      ownTarget (frame 0x33#8 31#8 0#8 [3#8, 16#8, 0#8]) act = false) ∧
    (ArrivesWhole (frame 0x33#8 1#8 0#8 [2#8, 17#8, 0#8]) [2#8, 17#8, 0#8] act ∧
      CheckGood (frame 0x33#8 1#8 0#8 [2#8, 17#8, 0#8]) .query [2#8, 17#8, 0#8]) ∧
    [[], [0#8, 0#8, 0#8], [6#8, 0#8, 0#8], [1#8], [1#8, 0#8], [1#8, 37#8, 0#8], [2#8, 17#8, 0#8], [3#8, 18#8, 0#8], [4#8, 40#8, 0#8],
      [5#8, 0#8, 1#8, 0#8, 1#8], [5#8, 2#8, 1#8, 0#8, 1#8, 0#8], [5#8, 0#8, 0#8, 0#8, 1#8, 0#8], [5#8, 0#8, 4#8, 0#8, 1#8, 0#8],
      [5#8, 0#8, 1#8, 0#8, 0#8, 0#8], [5#8, 0#8, 1#8, 0#8, 240#8, 0#8], [5#8, 0#8, 2#8, 1#8, 224#8, 0#8],
      [5#8, 0#8, 3#8, 0#8, 17#8, 0#8]].all queryUnanswered = true ∧
    [[1#8, 36#8, 0#8], [2#8, 16#8, 0#8], [3#8, 17#8, 0#8], [4#8, 39#8, 0#8], [5#8, 0#8, 1#8, 0#8, 1#8, 0#8], [5#8, 1#8, 1#8, 0#8, 239#8, 0#8],
      [5#8, 1#8, 2#8, 1#8, 223#8, 0#8], [5#8, 1#8, 3#8, 0#8, 16#8, 0#8]].any queryUnanswered = false := by
  unfold ArrivesWhole; decide +kernel

/-- 11 section 11.6: an unanswered QUERY passes with its area as sent; a TABLE read of the last index entry holds one entry, in an area one
byte too short none. -/
theorem test_query_replies :
    let s := { act with disp := { act.disp with bankA :=
      { act.disp.bankA with index := act.disp.bankA.index.setIfInBounds 238 ⟨479, 1⟩ } } }
    let reply := fun p => ((after (.query (frame 0x33#8 1#8 0#8 p) p) s).out.sent.drop 6).take p.length
    (reply [5#8, 0#8, 1#8, 0#8, 239#8, 9#8, 9#8, 9#8, 9#8, 9#8, 9#8, 9#8, 9#8, 9#8],
      reply [5#8, 0#8, 1#8, 0#8, 239#8, 9#8, 9#8, 9#8, 9#8, 9#8, 9#8, 9#8], reply [5#8, 0#8, 1#8, 0#8, 240#8, 9#8, 9#8]) =
      ([5#8, 0#8, 1#8, 0#8, 239#8, 1#8, 0#8, 1#8, 0#8, 239#8, 1#8, 0x21#8, 0xDF#8, 9#8],
        [5#8, 0#8, 1#8, 0#8, 239#8, 2#8, 0#8, 1#8, 0#8, 239#8, 0#8, 9#8], [5#8, 0#8, 1#8, 0#8, 240#8, 9#8, 9#8]) := by decide +kernel

theorem test_meets_RecordReplyFillsArea :
    (0 < [1#8, 2#8].length ∧ [1#8, 2#8].length - 0 < 3) ∧ (0 < 2 ∧ 2 ≤ [1#8, 2#8].length - 0) ∧
    ((1#8 : Byte).toNat ≤ 1 ∧ 1 ≤ word16 0#8 1#8 ∧ word16 0#8 239#8 < 240 ∧ word16 1#8 223#8 < 480 ∧ word16 0#8 16#8 < 17) ∧
    (6 + 2 ≤ 8 ∧ 7 < 6 + 2 ∧ 6 + 4 ≤ 10 ∧ 9 < 6 + 4) ∧ act.disp.mirrorBusy = false ∧ act.disp.commit.mirrorBusy = true := by decide +kernel

theorem test_meets_AssignNumbersStation :
    (ArrivesWhole (frame 0x77#8 31#8 0#8 [30#8]) [30#8] State.reset ∧ CheckGood (frame 0x77#8 31#8 0#8 [30#8]) .assign [30#8] ∧
      State.reset.stn.state = .configuring ∧ State.reset.stn.strapStation = 0 ∧ stationNumber State.reset = 0 ∧
      matchesTarget State.reset (frame 0x77#8 31#8 0#8 [30#8]).target.toNat = true) ∧
    (ArrivesWhole (frame 0x77#8 31#8 0#8 [31#8]) [31#8] State.reset ∧ CheckGood (frame 0x77#8 31#8 0#8 [31#8]) .assign [31#8] ∧
      30 < (31#8 : Byte).toNat) := by
  unfold ArrivesWhole; decide +kernel

theorem test_meets_LoadFrameJudged :
    ArrivesWhole (frame 0x55#8 1#8 0#8 (samplePayload .load)) (samplePayload .load) conf ∧
    CheckGood (frame 0x55#8 1#8 0#8 (samplePayload .load)) .load (samplePayload .load) ∧
    matchesTarget conf (frame 0x55#8 1#8 0#8 (samplePayload .load)).target.toNat = true ∧
    (judgeLoad (samplePayload .load) conf).2 = .accepted ∧ (judgeLoad [9#8] conf).2 ≠ .accepted ∧
    [[1#8, 0#8, 239#8, 1#8, 0xE1#8, 0xD9#8], [2#8, 1#8, 0xDF#8, 1#8, 1#8, 2#8, 3#8, 4#8], [3#8, 0#8, 16#8, 1#8, 3#8, 0xFF#8]].map
      (fun p => (judgeLoad p conf).2) = [.accepted, .accepted, .accepted] ∧
    [[1#8, 0#8, 239#8, 1#8, 0xE1#8, 0xDA#8], [2#8, 1#8, 0xE0#8, 1#8, 1#8, 2#8, 3#8, 4#8], [3#8, 0#8, 16#8, 1#8, 4#8, 0#8]].map
      loadInRange = [false, false, false] := by
  unfold ArrivesWhole; decide +kernel

theorem test_meets_FramingFailuresCount :
    (ArrivesWhole (frame 0x55#8 1#8 0#8 []) [] act ∧ 32 < (33#8 : Byte).toNat) ∧
    (act.power = .running ∧ { act.loop with rx := .frame Passage.start }.rx = .frame Passage.start ∧ act.out.originating = [] ∧
      act.out.buffer = [] ∧ { act.loop with inIdle := 10 }.inIdle ≤ 10 ∧ act.loop.inIdle + 10 ≤ 10 ∧ act.loop.bits = 0) ∧
    (act.loop.rx = .quiet ∧ (1#8 : Byte) ≠ Config.sync ∧ { act.loop with inIdle := 11 }.inIdle + 8 < 20) := by
  unfold ArrivesWhole; decide +kernel

theorem test_meets_LoopOutSendsInOrder :
    (act.power = .running ∧ act.loop.rx = .quiet ∧ act.out.originating = [] ∧ act.out.buffer = [] ∧
      { act.out with left := 10 }.left ≤ 10 ∧ { act.loop with origQueue := [.cue 17] }.origQueue = .cue 17 :: [] ∧ act.loop.bits = 0) ∧
    (act.loop.rx.noFrame = true ∧ act.out.left = 0 ∧ 20 ≤ { act.out with idle := 20 }.idle ∧ 20 ≤ { act.loop with inIdle := 20 }.inIdle ∧
      { act.loop with bits := 5 }.bits ≤ 10 ∧ act.loop.space = 0 ∧ { act.loop with space := 45 }.rx = .quiet) ∧
    ({ act.out with left := 1 }.left ≠ 0 ∧ { act.out with idle := 19 }.idle < 20 ∧ { act.out with buffer := [⟨7#8, false⟩] }.buffer ≠ [] ∧
      { act.out with originating := [7#8] }.originating ≠ [] ∧ (Rx.frame Passage.start).noFrame = false ∧ act.loop.origQueue = []) ∧
    10 + 10 * { act.out with originating := [7#8, 8#8] }.originating.length +
      30 * { act.out with buffer := [⟨7#8, false⟩] }.buffer.length ≤ 60 := by
  decide +kernel

theorem test_meets_LoopSilenceAppliesPolicy :
    act.power = .running ∧ act.loop.silence ≠ .running ∧ { act.loop with silence := .running }.silence = .running := by decide +kernel

theorem test_meets_CommandFrameJudged (c : Cmd) :
    Addressed c (cmd (c.code :: [])) [] act ∧
    (ArrivesWhole (frame 0x44#8 2#8 0#8 [c.code]) (c.code :: []) act ∧ CheckGood (frame 0x44#8 2#8 0#8 [c.code]) .command (c.code :: []) ∧
      matchesTarget act (frame 0x44#8 2#8 0#8 [c.code]).target.toNat = false) ∧
    (ArrivesWhole (frame 0x55#8 48#8 0#8 (samplePayload .load)) (samplePayload .load) act ∧
      CheckGood (frame 0x55#8 48#8 0#8 (samplePayload .load)) .load (samplePayload .load) ∧
      matchesTarget act (frame 0x55#8 48#8 0#8 (samplePayload .load)).target.toNat = false) := by
  unfold Addressed ArrivesWhole; cases c <;> decide +kernel

theorem test_meets_CommandRefused :
    (ArrivesWhole (cmd [13#8]) [13#8] act ∧ CheckGood (cmd [13#8]) .command [13#8] ∧ matchesTarget act (cmd [13#8]).target.toNat = true ∧
      unknownCommand [13#8] = true) ∧
    (Addressed .step (cmd [1#8, 6#8, 1#8, 1#8]) [6#8, 1#8, 1#8] (inState .standby .none act) ∧
      Cmd.step.acceptedIn (inState .standby .none act).stn.state = false) ∧
    (Addressed .reset (cmd [12#8]) [] (inState .mainsLoss .none act)) := by
  unfold Addressed ArrivesWhole; decide +kernel

theorem test_meets_CommandRefused_args :
    (Addressed .hold (cmd [2#8, 1#8]) [1#8] act ∧ Cmd.hold.acceptedIn act.stn.state = true ∧ [1#8].length ≠ 0) ∧
    (Addressed .step (cmd [1#8, 6#8, 1#8]) [6#8, 1#8] act ∧ Cmd.step.acceptedIn act.stn.state = true ∧ [6#8, 1#8].length ≠ 3) ∧
    (Addressed .attnSet (cmd [10#8, 16#8, 1#8, 2#8]) [16#8, 1#8, 2#8] act ∧ act.stn.state ≠ .mainsLoss ∧ 1 < (2#8 : Byte).toNat ∧
      Addressed .attnSet (cmd [10#8, 17#8, 2#8, 1#8]) [17#8, 2#8, 1#8] act ∧ 16 < (17#8 : Byte).toNat) := by
  unfold Addressed ArrivesWhole; decide +kernel

theorem test_meets_StepCommandActs (verb : Fin 12) :
    Addressed .step (cmd [1#8, byteOf verb.val, 3#8, 1#8]) [byteOf verb.val, 3#8, 1#8] act ∧ act.stn.state = .active ∧ act.tray.queue = [] ∧
    Addressed .step (cmd [1#8, byteOf verb.val, 0#8, 0#8]) [byteOf verb.val, 0#8, 0#8] conf ∧ conf.stn.state = .configuring := by
  unfold Addressed ArrivesWhole; revert verb; decide +kernel

theorem test_meets_StepCommandActs_lamp :
    act.lamp.burning = true ∧ (State.reset.lamp.state = .off ∧ State.reset.cool.tripped = false) ∧
    { act.cool with thermal := true }.tripped = true ∧ { act.lamp with state := .tripped }.state = .tripped ∧
    { act.lamp with state := .failed }.state = .failed := by decide +kernel

/-- Every TAPE mode has its code, and the deck's law holds in every deck state the clauses name. -/
theorem test_meets_StepCommandActs_tape :
    (∀ n : Fin 7, (TapeMode.ofCode (n.val + 1)).isSome = true ∧
      Addressed .step (cmd [1#8, 9#8, byteOf (n.val + 1), 0#8]) [9#8, byteOf (n.val + 1), 0#8] act) ∧
    (∀ d ∈ [DeckState.noCassette, .stopped, .playing, .paused false, .windingFwd, .windingRev false, .windingRev true,
      .braking .stopped .still], DeckLaw (deckIn d act)) ∧
    0 < { act.deck with counter := 7 }.counter := by
  unfold Addressed ArrivesWhole DeckLaw Ramp.within; decide +kernel

/-- The deck's law, a premise of several statements, at the states of these tests. -/
theorem test_meets_deckLaw :
    (∀ d ∈ [DeckState.paused false, .windingFwd, .windingRev true, .braking .playing .still, .braking .pausedHold .still, .stopped, .noCassette],
      DeckLaw (deckIn d act) ∧ DeckLaw (deckIn d (inState .active .held act))) ∧ DeckLaw conf := by
  unfold DeckLaw Ramp.within; decide +kernel

theorem test_meets_HoldAndResumeAct :
    (Addressed .hold (cmd [2#8]) [] act ∧ act.stn.state = .active ∧ act.stn.showState = .running ∧ act.deck.state ≠ .playing ∧
      act.deck.state.isBraking = false) ∧
    (Addressed .hold (cmd [2#8]) [] (deckIn .playing act) ∧ (deckIn .playing act).deck.state = .playing) ∧
    Addressed .hold (cmd [2#8]) [] (inState .active .held act) := by
  unfold Addressed ArrivesWhole; decide +kernel

theorem test_meets_HoldAndResumeAct_resume :
    Addressed .resume (cmd [3#8]) [] act ∧
    (Addressed .resume (cmd [3#8]) [] (deckIn (.paused true) (inState .active .held act)) ∧
      (∀ r ∈ (deckIn (.paused true) (inState .active .held act)).disp.schedule, r.remaining ≠ 0)) ∧
    (Addressed .resume (cmd [3#8]) [] (inState .active .held act) ∧ (inState .active .held act).deck.state ≠ .paused true) := by
  unfold Addressed ArrivesWhole; decide +kernel

theorem test_meets_HoldAndResumeAct_braking :
    Addressed .hold (cmd [2#8]) [] (deckIn (.braking .playing .still) act) ∧
    Addressed .hold (cmd [2#8]) [] (deckIn (.braking .windingFwd .still) act) ∧
    Addressed .resume (cmd [3#8]) [] (deckIn (.braking .pausedHold .still) (inState .active .held act)) := by
  unfold Addressed ArrivesWhole; decide +kernel

theorem test_meets_HoldAndResumeAct_due :
    (let s := listed [⟨0, .lamp, 255, 20, 17⟩, ⟨0, .home, 0, 0, 17⟩, ⟨1, .follow, 17, 0, 17⟩] (inState .active .held act)
    Addressed .resume (cmd [3#8]) [] s ∧
      s.disp.schedule = [⟨0, .lamp, 255, 20, 17⟩, ⟨0, .home, 0, 0, 17⟩] ++ [⟨1, .follow, 17, 0, 17⟩]) ∧
    (let s := listed [⟨0, .follow, 240, 0, 17⟩, ⟨1, .lamp, 255, 20, 17⟩] (inState .active .held act)
    Addressed .resume (cmd [3#8]) [] s ∧ ∀ x ∈ s.disp.schedule.drop 1, x.remaining ≠ 0) := by
  unfold Addressed ArrivesWhole; decide +kernel

theorem test_meets_CommitAndCloseSwapBanks :
    (Addressed .commit (cmd [4#8]) [] act ∧ act.disp.mirrorBusy = false) ∧
    (Addressed .commit (cmd [4#8]) [] { act with disp := { act.disp with mirrorBusy := true } }) ∧
    (Addressed .configClose (cmd [6#8]) [] conf ∧ conf.stn.state = .configuring) := by
  unfold Addressed ArrivesWhole; decide +kernel

theorem test_meets_ConfigSetWritesItem :
    (Addressed .configSet (cmd [5#8, 28#8, 0#8, 0#8]) [28#8, 0#8, 0#8] conf ∧ conf.stn.items.put 28 0 = none) ∧
    (Addressed .configSet (cmd [5#8, 13#8, 0xFF#8, 0xFF#8]) [13#8, 0xFF#8, 0xFF#8] conf ∧
      (conf.stn.items.put 13 65535).map Items.consistent = some false) ∧
    (Addressed .configSet (cmd [5#8, 8#8, 0#8, 48#8]) [8#8, 0#8, 48#8] act ∧ act.stn.lock = true ∧
      (act.stn.items.put 8 48).map Items.consistent = some true) ∧
    (Addressed .configSet (cmd [5#8, 8#8, 0#8, 48#8]) [8#8, 0#8, 48#8] conf ∧ conf.stn.lock = false) ∧ conf.stn.state ≠ .mainsLoss := by
  unfold Addressed ArrivesWhole; decide +kernel

theorem test_meets_StandbyRestsAndWakeReturns :
    (∀ s ∈ [act, deckIn .playing act, conf], Addressed .standby (cmd [7#8]) [] s) ∧
    act.stn.state = .active ∧ conf.stn.state = .configuring ∧
    (∀ x ∈ [StationState.standby, .coolingDown], Addressed .wake (cmd [8#8]) [] (inState x .none act)) := by
  unfold Addressed ArrivesWhole; decide +kernel

theorem test_meets_AckClearsSource :
    (Addressed .ack (cmd [9#8, 17#8]) [17#8] act ∧ Source.ofCode 17 = none) ∧
    (Addressed .ack (cmd [9#8, 16#8]) [16#8] act ∧ Source.ofCode 16 = some .tapeCueFault ∧ act.attn.get .tapeCueFault = ⟨false, false, 0, true, false⟩) ∧
    (Addressed .ack (frame 0x44#8 31#8 0#8 [9#8, 1#8]) [1#8] act ∧ stationNumber act ≤ 30) ∧ act.stn.state ≠ .mainsLoss := by
  unfold Addressed ArrivesWhole; decide +kernel

theorem test_meets_AttentionSettingsAct :
    (Addressed .attnSet (cmd [10#8, 1#8, 0#8, 1#8]) [1#8, 0#8, 1#8] act ∧ Source.ofCode 1 = some .restarted) ∧
    Addressed .clearCounters (cmd [11#8]) [] act ∧ act.stn.state ≠ .mainsLoss := by
  unfold Addressed ArrivesWhole; decide +kernel

theorem test_meets_ResetWaitsForFrameEnd :
    (Addressed .reset (cmd [12#8]) [] act ∧ act.stn.state ≠ .mainsLoss ∧ act.out.resetAhead = none) ∧
    (act.power = .running ∧ { act.out with resetAhead := some 0 }.resetAhead = some 0 ∧ act.out.resetAhead ≠ some 0) := by
  unfold Addressed ArrivesWhole; decide +kernel

theorem test_meets_EveryResetLeavesItsValues :
    (⟨true, true, false⟩ : Readings).mainsWarn = false ∧ act.power ≠ .off ∧ { act with power := .held }.power ≠ .off ∧
    act.power = .running ∧ { act.out with resetAhead := some 0 }.resetAhead = some 0 ∧
    brownoutDue (inState .mainsLoss .none act) = true := by decide +kernel

theorem test_meets_OtherResetsKeep :
    ((∃ t, exec (.pinReset ⟨1#5, true, true⟩ ⟨false, true, false⟩) act = .next t) ∧
      (∃ t, exec (.pinReset ⟨1#5, true, true⟩ ⟨false, true, false⟩) { act with power := .held } = .next t) ∧
      (∃ t, exec (.loopReset ⟨false, true, false⟩) { act with out := { act.out with resetAhead := some 0 } } = .next t) ∧
      (∃ t, exec (.brownoutRestart ⟨1#5, true, true⟩ ⟨false, true, false⟩) (inState .mainsLoss .none act) = .next t)) ∧
    brownoutDue (inState .mainsLoss .none act) = true ∧ { act.disp with mirrorBusy := true }.mirrorBusy = true ∧
    act.disp.mirrorBusy = false ∧ (cycling .drop 1 act).tray.state = .cycle .drop ∧ (cycling .lift 1 act).tray.inCycle = true ∧
    { act.tray with state := .jammed }.state = .jammed ∧ act.tray.state = .idle ∧ act.cool.cutout = false ∧ act.cool.heatStage ≤ 3 ∧
    { act.cool with cutout := true }.cutout = true :=
  ⟨⟨⟨_, rfl⟩, ⟨_, rfl⟩, ⟨_, rfl⟩, ⟨_, rfl⟩⟩, by decide +kernel⟩

theorem test_meets_PowerOnReadsRecord :
    State.reset.retained.valid = false ∧ (after .retainedWriteEnd (beginWrite act)).retained.valid = true := by decide +kernel

theorem test_meets_PinAssertHoldsPart :
    act.power = .running ∧ (cycling .settle 1 act).tray.inCycle = true ∧ { act.tray with state := .jammed }.state = .jammed ∧
    act.tray.state = .idle ∧ State.reset.tray.state = .noTray ∧
    ((deckIn .playing act).deck.state = .playing ∧ (deckIn .playing act).deck.volume = 20) := by decide +kernel

theorem test_meets_MainsWarnSavesRecord :
    act.power = .running ∧ act.stn.state ≠ .mainsLoss ∧
    ((inState .mainsLoss .none act).stn.state = .mainsLoss ∧ (inState .mainsLoss .none act).stn.writing = none) ∧
    (beginWrite act).stn.writing = some (recordFields act) ∧ (cycling .index 2 act).tray.inCycle = true ∧
    act.tray.inCycle = false ∧ act.tray.queue = [] ∧ TrayLaw act ∧ act.deck.volume ≤ 31 ∧ act.deck.state ≠ .noCassette := by
  unfold TrayLaw; decide +kernel

theorem test_meets_WindowExpiryAndStandbyCondition :
    (conf.stn.state = .configuring ∧ conf.stn.window = .running) ∧ act.stn.state ≠ .configuring ∧
    ((inState .coolingDown .none act).stn.state = .coolingDown ∧ { act.cool with cool := true }.cool = true ∧ act.tray.inCycle = false ∧
      act.deck.state = .stopped ∧ State.reset.lamp.burning = false) ∧ act.cool.cool = false := by decide +kernel

/-- The live bank with one step for cue 239. -/
def oneStep : State :=
  { act with disp := { act.disp with bankA := { act.disp.bankA with index := act.disp.bankA.index.set 238 ⟨479, 1⟩ } } }

theorem test_meets_CueArrivalsSorted :
    conf.stn.state ≠ .active ∧ act.stn.state = .active ∧ (act.disp.liveBank.entry 239).count = 0 ∧
    (oneStep.disp.liveBank.entry 239).count ≠ 0 ∧ act.stn.showState = .running ∧
    ((inState .active .held act).stn.showState = .held ∧ ∀ r ∈ [(⟨2, .lamp, 255, 20, 17⟩ : Record)], r.remaining ≠ 0) := by
  decide +kernel

/-- R38: cue 248 while HELD waits in the list, and while RUNNING starts a cycle; cue 243 stops the tape and takes the lamp down. -/
theorem test_system_cues :
    (cueArrival 248 .loop (inState .active .held act)).disp.schedule = [⟨0, .advance, 1, 0, 248⟩] ∧
    (cueArrival 248 .loop act).tray.state = .cycle .close ∧
    (cueArrival 243 .loop (deckIn .playing act)).deck.state = .braking .stopped .forward ∧
    (cueArrival 243 .loop act).lamp.ramp = ⟨1000, 0, 200, 0, .ofShow, true⟩ := by decide +kernel

/-- R39, R40: a step of delay 0 acts at once while RUNNING, and waits in the list while HELD. -/
theorem test_expansion :
    let s : State := { oneStep with disp := { oneStep.disp with bankA :=
      { oneStep.disp.bankA with pool := oneStep.disp.bankA.pool.set 479 ⟨8#8, 9#8, 2#8, 0#8⟩ } } }
    (cueArrival 239 .loop s).deck.ramp = ⟨20, 9, 20, 0, .ofShow, true⟩ ∧
    (cueArrival 239 .loop (inState .active .held s)).disp.schedule = [⟨0, .sound, 9, 2, 239⟩] := by decide +kernel

theorem test_meets_HeldShowWaitsRunningShowCounts :
    ((inState .active .held act).stn.state = .active ∧ (inState .active .held act).stn.showState = .held) ∧
    (act.disp.schedule.length < 32 ∧ 32 ≤ (List.replicate 32 (⟨1, .lamp, 0, 0, 1⟩ : Record)).length) ∧
    (∀ r ∈ [(⟨2, .lamp, 255, 20, 17⟩ : Record)], 2 ≤ r.remaining) ∧ act.stn.showState = .running ∧ conf.stn.state ≠ .active ∧
    ((⟨0, .lamp, 255, 20, 17⟩ : Record).remaining = 0 ∧ (⟨0, .lamp, 255, 20, 17⟩ : Record).verb ≠ .follow ∧
      ∀ x ∈ [(⟨1, .lamp, 255, 20, 17⟩ : Record)], x.remaining ≠ 0) ∧
    ((oneStep.disp.liveBank.entry 239).count ≠ 0 ∧ (inState .active .held oneStep).disp.liveBank.entry 239 = ⟨479, 1⟩) ∧
    (let s := listed [⟨1, .lamp, 255, 20, 17⟩, ⟨1, .home, 0, 0, 17⟩, ⟨2, .follow, 17, 0, 17⟩] act
    s.disp.schedule = [⟨1, .lamp, 255, 20, 17⟩, ⟨1, .home, 0, 0, 17⟩] ++ [⟨2, .follow, 17, 0, 17⟩] ∧ s.disp.schedule.length < 32) ∧
    ((listed [⟨1, .follow, 240, 0, 17⟩, ⟨1, .lamp, 255, 20, 17⟩] act).disp.schedule =
      ⟨1, .follow, 240, 0, 17⟩ :: [⟨1, .lamp, 255, 20, 17⟩]) := by decide +kernel

theorem test_meets_HeldShowWaitsRunningShowCounts_routed :
    Addressed .step (cmd [1#8, 7#8, 0#8, 0#8]) [7#8, 0#8, 0#8] act ∧ Addressed .step (cmd [1#8, 9#8, 2#8, 0#8]) [9#8, 2#8, 0#8] act ∧
    act.stn.state = .active ∧ act.tray.queue = [] ∧ act.lamp.burning = true ∧ act.cool.tripped = false ∧
    { act.cool with cutout := true }.tripped = true ∧ { act.lamp with state := .off }.state = .off := by
  unfold Addressed ArrivesWhole; decide +kernel

theorem test_meets_MirrorCompletes : act.disp.mirrorBusy = false ∧ act.disp.commit.mirrorBusy = true := by decide +kernel

/-- After a power-on that found a valid record of an 84-slot tray at slot 12. -/
def recorded : State :=
  { State.reset with stn := { State.reset.stn with valid := true, readRecord := #v[84#8, 12#8, 2#8, 0x4E#8, 0x20#8, 20#8] } }

/-- R76: the record gives slot and certainty of the tray whose code settles after a power-on. R77: after a pin reset a code equal to the
kept size ends the settling alone, and NONE is a removal. -/
theorem test_tray_formed :
    ((after (.trayCodeChange .slots84) recorded).tray.slot, (after (.trayCodeChange .slots84) recorded).tray.certainty,
      (after (.trayCodeChange .slots120) recorded).tray.slot, (after (.trayCodeChange .slots120) recorded).tray.certainty) =
      (12, .certain, 0, .uncertain) ∧
    (let s := { act with tray := act.tray.atReset false }
     (after (.trayCodeChange .slots84) s).tray = { s.tray with settling := .settled } ∧
     (after (.trayCodeChange .none) s).tray.state = .noTray) := by decide +kernel

theorem test_meets_TrayRemovalAndFitting :
    (act.power = .running ∧ act.tray.settling = .settled ∧ act.tray.state = .idle ∧ act.tray.size ≠ .none ∧
      TraySize.slots120 ≠ act.tray.size ∧ (cycling .index 1 act).tray.state = .cycle .index ∧ (cycling .index 1 act).tray.inCycle = true ∧
      { act.tray with state := .jammed }.state ≠ .noTray ∧
      ({ State.reset.tray with settling := .settled }.state = .noTray ∧ { State.reset.tray with settling := .settled }.size = .none)) ∧
    (act.tray.atReset true).settling ≠ .afterPowerOn ∧ (act.tray.atReset true).size = .slots84 ∧
      { act.tray.atReset true with size := .slots120 }.size = .slots120 ∧ { act.tray.atReset true with size := .none }.size = .none ∧
    (State.reset.power = .running ∧ State.reset.tray.settling = .afterPowerOn ∧ TrayLaw State.reset ∧ State.reset.stn.valid = false) ∧
    (recorded.tray.settling = .afterPowerOn ∧ TrayLaw recorded ∧ recorded.stn.valid = true ∧
      recorded.stn.readRecord[0].toNat = TraySize.slots84.slots ∧ recorded.stn.readRecord[0].toNat ≠ TraySize.slots120.slots) := by
  unfold TrayLaw; decide +kernel

/-- R72, R51: an 84-slot tray pulled in INDEX and a 120-slot one read in its place: a jam in INDEX, and TRAY_CHANGED twice. -/
theorem test_tray_changed_in_cycle :
    let t := after (.trayCodeChange .slots120) (cycling .index 1 act)
    (t.tray.state, t.tray.size, t.tray.slot, (t.attn.get .trayJam).detail, (t.attn.get .trayChanged).detail,
      (t.attn.get .trayChanged).again) = (.idle, .slots120, 0, 3, 0, true) := by decide +kernel

theorem test_meets_HeadRecordStartsItsCycle :
    (act.tray.state = .idle ∧ (-15 : Int) ≠ 0 ∧ act.lamp.dark = false ∧ State.reset.lamp.dark = true ∧
      { act.tray with darkTimer := true }.darkTimer = true ∧ ¬(act.stn.state = .active ∧ act.stn.showState = .held) ∧
      act.tray.darkTimer = false) ∧
    ((cycling .settle 1 act).tray.cycle = some ⟨false, .forward, false, 1, 0, none, false⟩ ∧ (cycling .settle 1 act).tray.keptDrop = false ∧
      (cycling .settle 1 act).stn.state ≠ .coolingDown ∧ (cycling .settle 1 act).tray.queue = [] ∧
      (cycling .settle 1 act).tray.state ≠ .cycle .close ∧ (cycling .close 1 act).tray.state = .cycle .close) ∧
    (State.reset.tray.state = .noTray ∧ { act.tray with state := .jammed }.state = .jammed ∧ act.tray.size.slots ≤ 84 ∧
      (cycling .lift 1 act).tray.inCycle = true ∧ 83 < (cycling .lift 1 act).tray.size.slots) ∧
    ((⟨.home, false, false, .direct⟩ : Move).isStep = false ∧ (⟨.goto 5, true, false, .direct⟩ : Move).isStep = false) ∧
    (act.tray.certainty = .certain ∧ act.tray.slot = 12 ∧ 12 < act.tray.size.slots ∧ (12 + 84 - 12) % 84 = 0 ∧ (5 + 84 - 12) % 84 ≠ 0 ∧
      { act.tray with slot := 0 }.slot = 0 ∧ { act.tray with certainty := .uncertain }.certainty ≠ .certain) ∧
    (⟨true, .forward, true, 0, 0, none, true⟩ : Cycle).atOnce = true ∧
    ((⟨.goto 5, true, false, .ofShow⟩ : Move).kind ≠ .home ∧ { act.tray with darkTimer := true, queue := [⟨.goto 5, true, false, .ofShow⟩] }.queue =
      ⟨.goto 5, true, false, .ofShow⟩ :: [] ∧ (cycling .lift 1 act).power = .running ∧ act.power = .running ∧ act.tray.queue = [] ∧
      (inState .active .held act).stn.state = .active ∧ (inState .active .held act).stn.showState = .held) := by decide +kernel

/-- R59: the dark wait of a GOTO runs out: in IDLE it starts, and in a cycle it stays with its wait over, both reported as 2 × 256 + 0. -/
theorem test_goto_waits_out :
    let s := { act with tray := { act.tray with queue := [⟨.goto 20, true, false, .ofShow⟩], darkTimer := true } }
    let seen := fun s => let t := after .darkWaitTimeout s
      (t.tray.state, t.tray.queue, (t.attn.get .darkWaitTimeout).detail)
    (seen s, seen (cycling .lift 1 s)) =
      ((.cycle .close, [], 512), (.cycle .lift, [⟨.goto 20, true, true, .ofShow⟩], 512)) := by decide +kernel

/-- R56, R58: a STEP offered to an idle Transport with an empty queue starts, or waits for the dark with its timer running. -/
theorem test_step_offered_in_idle :
    ((offerMove (.step (-2)) false .direct act).tray.cycle, (offerMove (.step 2) true .direct act).tray.queue,
      (offerMove (.step 2) true .direct act).tray.darkTimer) =
      (some ⟨false, .backward, false, 2, 0, none, false⟩, [⟨.step 2, true, false, .direct⟩], true) := by decide +kernel

theorem test_meets_IndexCountsAndCorrects :
    ((cycling .index 1 act).tray.cycle = some ⟨false, .forward, false, 1, 0, none, false⟩ ∧ (cycling .index 1 act).tray.state = .cycle .index ∧
      (cycling .lift 1 act).tray.state ≠ .cycle .index ∧ act.tray.state ≠ .cycle .index ∧ State.reset.tray.state ≠ .cycle .index ∧
      { act.tray with state := .jammed }.state ≠ .cycle .index ∧ act.power = .running) ∧
    ((⟨false, .forward, true, 0, 84, some 5, false⟩ : Cycle).homing = true ∧ 84 + 1 < act.tray.size.slots + 2 ∧
      (⟨false, .forward, true, 0, 84, some 5, false⟩ : Cycle).target.getD 0 = 5 ∧ 5 < act.tray.size.slots ∧
      (⟨true, .forward, true, 0, 0, none, false⟩ : Cycle).target.getD 0 = 0 ∧ 0 < act.tray.size.slots) := by decide +kernel

theorem test_meets_OverrunJams :
    (cycling .lift 1 act).tray.state = .cycle .lift ∧ (cycling .index 1 act).tray.state = .cycle .index ∧
    (cycling .drop 1 act).tray.state = .cycle .drop ∧ act.tray.keptDrop = false ∧ 85 + 1 = act.tray.size.slots + 2 ∧
    ((cycling .drop 1 act).tray.atReset true).keptDrop = true ∧ ((cycling .drop 1 act).tray.atReset true).state = .cycle .drop ∧
    ((cycling .drop 1 act).tray.atReset true).queue = [] ∧ act.stn.state ≠ .coolingDown := by decide +kernel

theorem test_meets_LampTickRampsAndDrives :
    (act.power = .running ∧ act.stn.state ≠ .coolingDown ∧ act.tray.queue = [] ∧ act.lamp.burning = true ∧ act.lamp.ticks < 9 ∧
      act.lamp.failCount < 19) ∧
    ({ act.lamp with state := .warming }.burning = true ∧ act.lamp.state = .lit ∧ act.stn.state ≠ .standby ∧
      (⟨0, 4096, 200, 199, .ofShow, true⟩ : Ramp).running = true ∧ act.lamp.ramp.running = false ∧
      ¬((⟨0, 4096, 200, 199, .ofShow, true⟩ : Ramp).origin = .ofShow ∧ act.stn.state = .active ∧ act.stn.showState = .held) ∧
      (⟨0, 4096, 200, 199, .direct, true⟩ : Ramp).count + 1 = (⟨0, 4096, 200, 199, .direct, true⟩ : Ramp).length ∧
      (⟨7, 7, 200, 3, .direct, true⟩ : Ramp).target = (⟨7, 7, 200, 3, .direct, true⟩ : Ramp).start) ∧
    (let s : State := { act with lamp := { act.lamp with p := 4096, slewMem := 300, drive := 300, failCount := 19 } }
     s.lamp.failCount = 19 ∧ s.cool.tripped = false ∧ s.cool.heatStage ≤ 3 ∧ 100 ≤ (tickedLamp false s).drive) := by decide +kernel

/-- R82: WARMING becomes LIT at the floor, and not below it. -/
theorem test_warming_to_lit :
    let s : State := { act with lamp := { act.lamp with state := .warming, drive := 10, slewMem := 10 } }
    ((after (.lampTick true) s).lamp.state, (after (.lampTick true) s).lamp.drive,
      (after (.lampTick true) { s with lamp := { s.lamp with drive := 16, slewMem := 16 } }).lamp.state) =
      (.warming, 34, .lit) := by decide +kernel

theorem test_meets_CoolingTickUpdatesHeat :
    let s : State := { act with lamp := { State.reset.lamp with energy := 10230, ticks := 9 } }
    s.stn.state = .active ∧ s.tray.queue = [] ∧ s.lamp.state = .off ∧ s.lamp.drive = 0 ∧ s.lamp.ramp.running = false ∧ s.lamp.ticks = 9 ∧
    s.cool.thermal = false ∧
    nextHeat s.cool.heat s.lamp.energy s.stn.items.heatGain (s.stn.items.loss s.cool.fanStage) < s.stn.items.heatMax := by decide +kernel

/-- Station 1 on its tenth lamp tick, with a heat estimate. -/
def tenthTick (heat : Nat) : State :=
  { act with lamp := { act.lamp with ticks := 9 }, cool := { act.cool with heat := heat } }

/-- The new heat estimate of that tick. -/
def tenthHeat (heat : Nat) : Nat :=
  let s := tenthTick heat
  nextHeat s.cool.heat (tickedLamp true s).energy s.stn.items.heatGain (s.stn.items.loss s.cool.fanStage)

theorem test_meets_CoolingTickUpdatesHeat_trip :
    ((tenthTick 30000).lamp.state = .lit ∧ (tenthTick 30000).lamp.ticks = 9 ∧ (tenthTick 30000).lamp.failCount < 19 ∧
      (tenthTick 30000).cool.thermal = false) ∧
    tenthHeat 30000 < Items.default.heatMax ∧ Items.default.heatMax ≤ tenthHeat 60000 ∧
    ({ act.lamp with state := .tripped, ticks := 9 }.state = .tripped ∧ { act.cool with thermal := true }.thermal = true) ∧
    nextHeat 30000 0 16 20 < Items.default.heatResume ∧ Items.default.heatResume ≤ nextHeat 40000 0 16 20 := by decide +kernel

/-- R113: THERMAL trips a lit lamp at H_max, and clears below H_resume. -/
theorem test_thermal :
    let s := { tenthTick 29000 with lamp := { State.reset.lamp with state := .tripped, ticks := 9 } }
    ((after (.coolingTick true) (tenthTick 60000)).lamp.state,
      (after (.coolingTick true) { s with cool := { s.cool with thermal := true, fanStage := 3 } }).lamp.state) =
      (.tripped, .off) := by decide +kernel

/-- A tenth lamp tick at full position without lamp current, the nineteenth failing tick behind it, with a heat estimate. -/
def failingTenth (heat : Nat) : State :=
  let s := tenthTick heat
  { s with lamp := { s.lamp with p := 4096, slewMem := 300, drive := 300, failCount := 19 } }

theorem test_meets_CoolingTickUpdatesHeat_together :
    let s := failingTenth 60000
    (s.power = .running ∧ s.stn.state = .active ∧ s.tray.queue = [] ∧ s.lamp.state = .lit ∧ s.lamp.ticks = 9 ∧ s.lamp.failCount = 19 ∧
      s.cool.tripped = false ∧ s.cool.heatStage ≤ 3 ∧ 100 ≤ (tickedLamp false s).drive) ∧
    s.stn.items.heatMax ≤ nextHeat s.cool.heat (tickedLamp false s).energy s.stn.items.heatGain (s.stn.items.loss s.cool.fanStage) ∧
    s.stn.items.heatMax ≤ nextHeat s.cool.heat (tickedLamp false s).energy s.stn.items.heatGain (s.stn.items.loss s.cool.heatStage) := by
  decide +kernel

/-- R94: a THERMAL trip and the failure limit together: the trip first leaves TRIPPED and reports no failure, the failure first leaves
FAILED with both reported; with no trip the failure is reported in both orders. -/
theorem test_trip_and_failure_together :
    let seen := fun c s => let t := after c s
      (t.lamp.state, (t.attn.get .lampFailed).flag, (t.attn.get .thermalTrip).flag)
    (seen (.coolingTick false) (failingTenth 60000), seen .lampFailed (failingTenth 60000),
      seen (.coolingTick false) (failingTenth 20000), seen .lampFailed (failingTenth 20000)) =
      ((.tripped, false, true), (.failed, true, true), (.failed, true, false), (.failed, true, false)) := by decide +kernel

/-- The fan at stage 3 under FAN_STALL, the lamp TRIPPED, with 99 pulses counted in the gate so far. -/
def stalled : State :=
  { act with
    lamp := State.reset.lamp.extinguish .tripped
    cool := { act.cool with fanStall := true, fanStage := 3, gateCount := 99 } }

/-- R111: a cutout that opens during a gate under FAN_STALL leaves the gate untested; without it, the good count clears the stall. -/
theorem test_second_trip_leaves_gate_untested :
    ((after .tachGateEnd (after (.cutoutChange true) stalled)).cool.fanStall, (after .tachGateEnd stalled).cool.fanStall) =
      (true, false) := by decide +kernel

theorem test_meets_TachAndCutoutTrip :
    (State.reset.cool.fanStage = 0 ∧
      (act.cool.fanStage ≠ 0 ∧ act.cool.spinUp = .elapsed ∧ act.cool.stageChanged = false ∧ act.cool.fanStall = false ∧
        act.cool.gateCount < act.stn.items.tachMin act.cool.fanStage ∧ act.cool.heatStage ≤ 3) ∧
      act.stn.items.tachMin act.cool.fanStage ≤ { act.cool with gateCount := 12 }.gateCount) ∧
    ({ act.cool with fanStall := true, fanStage := 3 }.fanStall = true ∧ act.stn.items.tachMin 3 ≤ 28 ∧ 27 < act.stn.items.tachMin 3 ∧
      { act.lamp with state := .tripped }.burning = false ∧ act.cool.thermal = false ∧ act.stn.state = .active) ∧
    (act.tray.queue = [] ∧ act.cool.cutout = false ∧ act.lamp.burning = true ∧ act.stn.state ≠ .coolingDown) ∧
    ({ act.cool with cutout := true }.cutout = true ∧ act.cool.thermal = false ∧ { act.lamp with state := .tripped }.state = .tripped) ∧
    (stalled.power = .running ∧ stalled.tray.queue = [] ∧ stalled.cool.heatStage ≤ 3 ∧ stalled.cool.fanStall = true ∧
      true ≠ stalled.cool.cutout ∧ false ≠ { stalled.cool with cutout := true }.cutout) := by
  decide +kernel

theorem test_meets_DeckEventsMoveDeck :
    (act.power = .running ∧ act.stn.strapDeck = true ∧ (inState .coolingDown .none act).stn.state = .coolingDown ∧
      (deckIn .noCassette act).deck.state = .noCassette ∧ (deckIn .playing act).deck.state = .playing ∧ State.reset.stn.strapDeck = false ∧
      (deckIn (.braking .playing .still) act).deck.state = .braking .playing .still ∧
      (deckIn (.braking (.windingRev true) .still) act).deck.state = .braking (.windingRev true) .still ∧
      (deckIn (.braking .pausedHold .forward) act).deck.state = .braking .pausedHold .forward ∧ act.deck.state.isBraking = false ∧
      act.deck.gateTimer = false ∧ { act.deck with gateTimer := true }.gateTimer = true ∧ act.deck.state ≠ .playing) ∧
    ((deckIn (.windingRev false) act).deck.state = .windingRev false ∧ (deckIn (.windingRev true) act).deck.state = .windingRev true ∧
      2 ≤ { act.deck with counter := 2 }.counter ∧ { act.deck with counter := 1 }.counter = 1 ∧ act.deck.state = .stopped) := by
  decide +kernel

/-- R125, R132, R131: the brake timer's expiry enters each pending mode, and the reel silence timer's ends each motion mode with its detail. -/
theorem test_deck_timers :
    [Pending.stopped, .playing, .pausedHold, .windingFwd, .windingRev false, .windingRev true].map
      (fun m => (after .brakeTimerExpiry (deckIn (.braking m .still) act)).deck.state) =
      [.stopped, .playing, .paused true, .windingFwd, .windingRev false, .stopped] ∧
    [DeckState.playing, .windingFwd, .windingRev false, .windingRev true].map
      (fun d => let t := after .reelSilenceExpiry (deckIn d act)
        (t.deck.state, (t.attn.get .tapeEnd).detail)) =
      [(.stopped, 1), (.stopped, 2), (.stopped, 3), (.stopped, 4)] := by decide +kernel

theorem test_meets_SoundTickStepsVolume :
    act.power = .running ∧ act.deck.ramp.running = false ∧ (⟨20, 24, 100, 99, .ofShow, true⟩ : Ramp).running = true ∧
    (⟨20, 24, 100, 99, .ofShow, true⟩ : Ramp).count + 1 = (⟨20, 24, 100, 99, .ofShow, true⟩ : Ramp).length ∧
    (inState .active .held act).stn.showState = .held := by decide +kernel

theorem test_meets_PeriodsAndSamples :
    ((decoding .hunting act).dec.state ≠ .closed ∧ (decoding .hunting act).dec.timing = true) ∧
    { (decoding .hunting act).dec with timing := false }.timing = false ∧ act.dec.state = .closed ∧
    ((decoding .hunting act).dec.state = .hunting ∧ { act.dec with lastPeriod := some .space }.lastPeriod = some .space) ∧
    (decoding .hunting act).dec.lastPeriod ≠ some .space ∧
    (let s := { decoding (.reading 51) act with dec := { (decoding (.reading 51) act).dec with lastPeriod := some .space } }
     s.power = .running ∧ true = decide (s.dec.lastPeriod = some .space ∧ 2000 ≤ 2000) ∧
     false = decide (s.dec.lastPeriod = some .space ∧ 2001 ≤ 2000) ∧ s.dec.state = .reading 51) ∧
    (decoding (.starting 0) act).dec.state = .starting 0 ∧ (decoding (.starting 1) act).dec.state = .starting 1 ∧
    ((decoding (.reading 50) act).dec.state = .reading 50 ∧ 50 % 5 ≠ 1 ∧ 2 % 5 ≠ 1) ∧
    ((decoding (.reading 41) act).dec.state = .reading (6 + 5 * 7) ∧ (decoding (.reading 6) act).dec.state = .reading (6 + 5 * 0)) ∧
    (decoding (.reading 46) act).dec.state = .reading 46 := by decide +kernel

/-- One sample, recent, of a period class, in a decoder state with a shift word and a burst length. -/
def sampled (d : DecoderState) (data : Byte) (burst : Nat) (c : PeriodClass) : State :=
  let s := decoding d act
  after (.cueTrackSample 0) { s with dec := { s.dec with data := data, burst := burst, nonMark := 2, lastPeriod := some c } }

/-- R143, R144, R145: a space begins a start bit, a mark ends one, the sample s0 + 7 is data bit 0, a stop bit of 1 completes the word, and one of 0 is a
framing failure. -/
theorem test_sample_in_word_mode :
    ((sampled .hunting 0#8 0 .space).dec.state, (sampled (.starting 1) 0#8 0 .mark).dec.state, (sampled (.reading 6) 4#8 0 .mark).dec.data,
      (sampled (.reading 51) 1#8 0 .neither).dec.candidate, ((sampled (.reading 51) 1#8 0 .space).attn.get .tapeCueFault).detail) =
      (.starting 0, .hunting, 5#8, some 1#8, 513) := by decide +kernel

theorem test_meets_TapeWordsRead :
    (decoding (.reading 2) act).dec.state = .reading 2 ∧ (decoding (.reading 2) act).dec.data = 0#8 ∧ parityPasses 17#8 true = true ∧
    parityPasses 17#8 false = false ∧ (decoding (.reading 2) act).dec.candidate = none ∧
    { act.dec with candidate := some 17#8 }.candidate = some 17#8 ∧ (17#8 : Byte) ≠ 18#8 ∧ parityPasses 18#8 true = true ∧ { act.dec with guardWord := some 17#8 }.guardWord = some 17#8 ∧
    (decoding (.reading 2) act).dec.guardWord ≠ some 17#8 := by decide +kernel

theorem test_meets_CandidateExpires :
    let s : State := { decoding (.reading 2) act with dec := { (decoding (.reading 2) act).dec with candidate := some 17#8 } }
    s.power = .running ∧ s.dec.candidate = some 17#8 ∧ act.dec.candidate = none ∧ s.dec.state = .reading 2 ∧ s.dec.data = 0#8 ∧
    s.dec.guardWord ≠ some 17#8 ∧ parityPasses 17#8 true = true ∧ parityPasses 3#8 false = false := by decide +kernel

theorem test_meets_BurstsGiveCues :
    ((decoding .burst act).dec.state = .burst ∧ { act.dec with nonMark := 2 }.nonMark = 2) ∧ { act.dec with burst := 524 }.burst = 524 ∧
    (decoding .spent act).dec.state = .spent ∧
    (let s := { decoding .burst act with dec := { (decoding .burst act).dec with lastPeriod := some .mark, burst := 523, nonMark := 1 } }
     s.power = .running ∧ true = decide (s.dec.lastPeriod = some .mark ∧ 2000 ≤ 2000) ∧
     false = decide (s.dec.lastPeriod = some .mark ∧ 2001 ≤ 2000) ∧ s.dec.state = .burst ∧ s.dec.burst < 524 ∧ s.dec.nonMark < 2) ∧
    (decoding .pulseIdle act).dec.state = .pulseIdle := by decide +kernel

/-- R149: a MARK sample begins or lengthens a burst, and the third non-MARK in a row ends it, with cue 248 from 53 samples on. -/
theorem test_sample_in_pulse_mode :
    ((sampled .pulseIdle 0#8 0 .mark).dec.burst, (sampled .burst 0#8 52 .mark).dec.burst, (sampled .burst 0#8 53 .space).dec.state,
      (sampled .burst 0#8 53 .space).disp.lastCue, (sampled .burst 0#8 52 .space).disp.lastCue) = (1, 53, .pulseIdle, 248, 0) := by
  decide +kernel

theorem test_meets_KeysAct :
    (∀ k ∈ [Key.fwd, .rev, .dark], (act.remote.put k ⟨false, 0, false, false⟩).get k = ⟨false, 0, false, false⟩) ∧
    (act.stn.items.remotePolicy = .localKeys ∧ act.stn.state = .active ∧ act.tray.queue = [] ∧ act.lamp.burning = true ∧
      State.reset.lamp.state = .off ∧ act.cool.tripped = false ∧ { act.cool with cutout := true }.tripped = true ∧
      { act.lamp with state := .failed }.state = .failed) ∧
    ((act.remote.put .dark ⟨false, 0, false, false⟩).get .dark = ⟨false, 0, false, false⟩ ∧
      { act.stn.items with remotePolicy := .relay }.remotePolicy = .relay ∧ stationNumber act ≠ 0 ∧ act.loop.origQueue.length < 4) ∧
    ((inState .standby .none act).stn.state = .standby ∧ (act.remote.get .fwd).pressed = true) ∧
    (∀ k ∈ allKeys, (act.remote.get k).run < 3) ∧
    (∀ k ∈ [Key.hold, .focusIn, .focusOut], (act.remote.put k ⟨false, 0, false, false⟩).get k = ⟨false, 0, false, false⟩) ∧
    (act.stn.showState = .running ∧ (inState .active .held act).stn.showState = .held ∧ (inState .active .held act).disp.schedule = [] ∧
      conf.stn.state = .configuring ∧ { act.stn.items with remotePolicy := .off }.remotePolicy = .off ∧
      (inState .coolingDown .none act).stn.state = .coolingDown ∧ (inState .mainsLoss .none act).stn.state = .mainsLoss) ∧
    (((act.remote.put .fwd ⟨false, 0, true, false⟩).get .fwd).pressed = false ∧
      ((act.remote.put .fwd ⟨false, 0, true, false⟩).get .fwd).consumed = true) ∧
    (((act.remote.put .fwd ⟨false, 3, false, false⟩).get .fwd).run = 3 ∧
      sampleOf .fwd ⟨true, true, true, true, true, true⟩ ≠ ((act.remote.put .fwd ⟨false, 3, false, false⟩).get .fwd).pressed ∧
      (∀ j ∈ allKeys, j ≠ .fwd → ((act.remote.put .fwd ⟨false, 3, false, false⟩).get j).run < 3) ∧
      (∀ j ∈ allKeys, (act.remote.put .fwd ⟨false, 0, false, false⟩).get j =
        { (act.remote.put .fwd ⟨false, 3, false, false⟩).get j with
          run := if j = .fwd ∨ sampleOf j ⟨true, true, true, true, true, true⟩ =
              ((act.remote.put .fwd ⟨false, 3, false, false⟩).get j).pressed then 0
            else ((act.remote.put .fwd ⟨false, 3, false, false⟩).get j).run + 1 })) ∧
    ({ act.remote with focus := .inward }.focus = .inward ∧ ((act.remote.put .focusOut ⟨false, 0, false, false⟩).get .focusOut).drives = false ∧
      act.remote.focus = .stopped) := by decide +kernel

/-- R156, R99: in CONFIGURING a DARK press lights an OFF lamp, toward position 4096 (log 31). -/
theorem test_dark_key :
    let s : State := { conf with remote := conf.remote.put .dark ⟨false, 0, false, false⟩ }
    ((after (.keyPress .dark) s).lamp.state, (after (.keyPress .dark) s).lamp.ramp.target) = (.warming, 4096) := by decide +kernel

/-- The laws a step keeps, at a state with a command in front that answers next. -/
theorem test_meets_StepKeepsLaws :
    let s : State := { act with pending := [.showTick], disp := { act.disp with schedule := [⟨3, .lamp, 255, 20, 17⟩] } }
    (∃ t, step s = .next t) ∧ ScheduleLaw s ∧ TrayLaw s ∧ CycleLaw s ∧ QueueLaw s ∧ PositionLaw s ∧ DriveLaw s ∧ HeatLaw s ∧ TripsLaw s ∧
    FanLaw s ∧ DeckLaw s ∧ StationLaw s ∧ ItemsLaw s ∧ LoopLaw s ∧ ProvisionalLaw s := by
  refine ⟨⟨_, rfl⟩, ?_, ?_, ?_, trivial, ?_, ?_, ?_, ?_, ?_, ?_, ?_, ?_, ?_, provisionalLaw_of_none rfl rfl⟩
  · unfold ScheduleLaw Record.sound; decide +kernel
  · unfold TrayLaw; decide +kernel
  · unfold CycleLaw; decide +kernel
  · unfold PositionLaw Ramp.within; decide +kernel
  · unfold DriveLaw; decide +kernel
  · unfold HeatLaw; decide +kernel
  · unfold TripsLaw; decide +kernel
  · unfold FanLaw; decide +kernel
  · unfold DeckLaw Ramp.within; decide +kernel
  · unfold StationLaw; decide +kernel
  · unfold ItemsLaw; decide +kernel
  · exact ⟨by decide, by decide, by decide, by decide, by decide, by decide, by decide, by decide, by decide, by decide, by decide,
      by decide, by decide, by decide, nofun⟩

theorem test_meets_StepKeepsAttentionLaw :
    let s : State := { act with pending := [.showTick], attn := { act.attn with held := some .restarted } }
    (∃ t, step s = .next t) ∧ AttentionLaw s ∧ CountersLaw s := by
  refine ⟨⟨_, rfl⟩, ?_, ?_⟩
  · intro c h
    cases (Option.some.inj h : Source.restarted = c)
    decide +kernel
  · intro k
    cases k <;> decide +kernel

theorem test_meets_StagesStayBetween :
    (⟨1000, 1003, 10, 9, .ofShow, true⟩ : Ramp).count < (⟨1000, 1003, 10, 9, .ofShow, true⟩ : Ramp).length ∧ 4095 < 4096 ∧
    Items.default.preheat ≤ 1023 ∧ Items.default.heatWarn < Items.default.heatMax ∧ Items.default.heatMax ≤ 52000 ∧
    40000 ≤ Items.default.heatWarn := by decide

end Sys2Proof.Tests
end

-- ==== Sys2Proof/Proofs/LoopLaw.lean ====
/-! PROOF. The law of provisional rewrites is not kept from every state that meets it: it speaks of a frame that is not stripped, but
nothing in it, nor in the law of the lines, says that only a CUE or REMOTE frame is stripped. -/

namespace Sys2Proof.Machine

open Sys2Proof (Byte Frame)

/-- A POLL in passage up to its MINLEVEL byte, marked as stripped. No run reaches it, since R14 strips CUE and REMOTE frames
alone, but both laws admit it while nothing is held provisionally. -/
def strippedPoll : Passage :=
  { got := [0x22#8, 31#8, 0#8, 0#8, 7#8, 2#8]
    rxCheck := 0#8
    txCheck := 0#8
    stripped := true
    reply := []
    result := none
    resetTaken := false }

/-- The frame whose STATION byte, 0 for an empty slot, is the one byte that comes next (R180). -/
def stationByteFrame : Frame :=
  { gap := 0, skip := 7, take := some 1, bits := 0, target := 31#8, origin := 0#8, hop := 0#8, check := 0#8
    result := 0#8, resultComplement := 0#8 }

/-- Station 1 right after a power-on, RESTARTED pending, in the middle of a stripped POLL. -/
def inStrippedPoll : State :=
  { State.reset with
    loop := { LoopPort.atPowerOn with rx := .frame strippedPoll, assigned := some 1 }
    pending := [.poll stationByteFrame [2#8, 0#8]] }

/-- The state the STATION byte leaves: the slot is taken up, and RESTARTED is held provisionally (R181). -/
def afterStationByte : State :=
  whenRunning (knownFrame .poll stationByteFrame [2#8, 0#8]) { inStrippedPoll with pending := [] }

/-- The frame in passage, if any, is stripped. -/
def Rx.stripped : Rx → Bool
  | .frame p => p.stripped
  | .quiet => false
  | .stray _ => false

theorem inStrippedPoll_loopLaw : LoopLaw inStrippedPoll := by
  refine ⟨by decide, by decide, by decide, by decide, by decide, by decide, by decide, by decide, by decide, by decide, by decide,
    by decide, by decide, by decide, nofun⟩

theorem inStrippedPoll_provisionalLaw : ProvisionalLaw inStrippedPoll := provisionalLaw_of_none rfl rfl

/-- A source that is held provisionally stands beside a frame that is not stripped (R181). -/
theorem ProvisionalLaw.not_stripped {s : State} (h : ProvisionalLaw s) (hp : s.attn.prov ≠ none) :
    s.loop.rx.stripped = false := by
  obtain ⟨p, hrx, -, -, hs⟩ := h.1 hp
  rw [hrx]
  exact hs

/-- Refutes O59: at the STATION byte of a POLL whose passage is marked as stripped a source is held provisionally, and the mark stays. -/
theorem not_stepKeepsLoopLaw : ¬ Obligations.StepKeepsLoopLaw := by
  unfold Obligations.StepKeepsLoopLaw
  intro h
  have hlaw : LoopLaw afterStationByte ∧ ProvisionalLaw afterStationByte :=
    h inStrippedPoll afterStationByte ⟨inStrippedPoll_loopLaw, inStrippedPoll_provisionalLaw⟩ rfl
  have hprov : afterStationByte.attn.prov = some .restarted := by decide +kernel
  have hstripped : afterStationByte.loop.rx.stripped = true := by decide +kernel
  have := hlaw.2.not_stripped (by simp [hprov])
  simp [hstripped] at this

end Sys2Proof.Machine

-- ==== Sys2Proof/Proofs/SilenceAndResets.lean ====
/-! PROOF. The expiry of the loop-silence timer (R21), and the values each of the four resets leaves (R22, R174 and the blocks' reset
tables). -/

namespace Sys2Proof.Machine

open Sys2Proof (Byte Frame Straps Readings)

/-! ### The loop-silence timer -/

theorem exec_loopSilenceExpiry (s : State) (h : s.power = .running) : exec .loopSilenceExpiry s = .next (expireSilence s) := by
  show Host.Outcome.next (whenRunning expireSilence s) = _
  simp [whenRunning, h]

/-- Nothing the policy sets going touches the Loop Port again (R21). -/
theorem expireSilence_loop (s : State) (h : s.loop.silence = .running) :
    (expireSilence s).loop = { s.loop with silence := .expired } := by
  unfold expireSilence
  simp only [h, if_true]
  split <;> simp

/-- Settles O17, by the timer's two branches. -/
theorem loopSilenceAppliesPolicy : Obligations.LoopSilenceAppliesPolicy := by
  unfold Obligations.LoopSilenceAppliesPolicy
  intro s hp
  rw [exec_loopSilenceExpiry s hp]
  refine ⟨fun h => ?_, fun h => ⟨_, rfl, expireSilence_loop s h, ?_⟩⟩
  · simp [expireSilence, h]
  · exact if_pos h

/-! ### The sources and counters after a reset -/

/-- A reset clears every source (R184). -/
theorem Attn.atReset_get (a : Attn) (powerOn : Bool) (c : Source) :
    ((a.atReset powerOn).get c).flag = false ∧ ((a.atReset powerOn).get c).again = false := by
  cases powerOn
  · simp [Attn.atReset, Attn.get]
  · cases c <;> exact ⟨rfl, rfl⟩

theorem Attn.atReset_counter (a : Attn) (powerOn : Bool) (k : Counter) : (a.atReset powerOn).counter k = 0 := by
  simp [Attn.atReset, Attn.counter]

/-- A source raised out of a clear state has its flag and its detail, and no again mark (R178). -/
theorem Attn.raise_get_of_clear (a : Attn) (c : Source) (detail : Nat) (h : (a.get c).flag = false) :
    (a.raise c detail).get c = { a.get c with flag := true, detail := detail } := by
  rw [(a.raise_spec c detail).1, h]
  rfl

theorem Attn.raise_get_of_ne (a : Attn) {c d : Source} (detail : Nat) (h : d ≠ c) : (a.raise c detail).get d = a.get d :=
  (a.raise_spec c detail).2.1 d h

/-- The trip causes that are active are raised, and no other source changes (R121, R184). -/
theorem raiseActiveTrips_cases (s : State) :
    (∀ c, c ≠ .thermalTrip → c ≠ .cutoutOpen → (raiseActiveTrips s).attn.get c = s.attn.get c) ∧
    ((raiseActiveTrips s).attn.get .thermalTrip).flag = (s.cool.thermal || (s.attn.get .thermalTrip).flag) ∧
    ((raiseActiveTrips s).attn.get .cutoutOpen).flag = (s.cool.cutout || (s.attn.get .cutoutOpen).flag) := by
  have hne : Source.cutoutOpen ≠ .thermalTrip := by decide
  unfold raiseActiveTrips
  cases ht : s.cool.thermal <;> cases hc : s.cool.cutout <;>
    simp +contextual [hc, raise, Attn.raise_get_of_ne, hne, hne.symm]

/-- Raising the active trip causes touches the sources alone. -/
theorem raiseActiveTrips_frame (s : State) :
    ∃ a, raiseActiveTrips s = { s with attn := a } ∧ a.held = s.attn.held ∧ a.prov = s.attn.prov ∧ a.counters = s.attn.counters := by
  unfold raiseActiveTrips
  cases ht : s.cool.thermal <;> cases hc : s.cool.cutout <;> simp [hc] <;> exact ⟨_, rfl, rfl, rfl, rfl⟩

/-- The fan's choice at a reset is within the Cooling Controller, and leaves its trip causes and counts (R121). -/
theorem fanAtReset_frame (kind : ResetKind) (cutoutBefore : Bool) (s : State) :
    ∃ c, fanAtReset kind cutoutBefore s = { s with cool := c } ∧ c.thermal = s.cool.thermal ∧ c.fanStall = s.cool.fanStall ∧
      c.cutout = s.cool.cutout ∧ c.gateCount = s.cool.gateCount ∧ c.lastTach = s.cool.lastTach ∧ c.ceiling = s.cool.ceiling ∧
      c.derateArmed = s.cool.derateArmed := by
  unfold fanAtReset
  split
  · exact ⟨s.cool.setStage (fanWanted s), rfl, by simp⟩
  · exact ⟨s.cool, rfl, rfl, rfl, rfl, rfl, rfl, rfl, rfl⟩

/-! ### The blocks after a reset -/

theorem Dispatcher.atReset_cleared (d : Dispatcher) (powerOn : Bool) :
    (d.atReset powerOn).mirrorBusy = false ∧ (d.atReset powerOn).deferred = false ∧ (d.atReset powerOn).schedule = [] ∧
    (d.atReset powerOn).lastCue = 0 ∧ (d.atReset powerOn).lastSource = .none := by
  unfold Dispatcher.atReset
  cases powerOn
  · cases hb : d.mirrorBusy <;> simp [hb, Dispatcher.finishMirror]
  · simp [Dispatcher.atPowerOn]

theorem Transport.atReset_cleared (t : Transport) (loopReset : Bool) :
    (t.atReset loopReset).queue = [] ∧ (t.atReset loopReset).darkTimer = false ∧ (t.atReset loopReset).demand = .opened := by
  unfold Transport.atReset
  dsimp only
  (repeat' split) <;> exact ⟨rfl, rfl, rfl⟩

/-- A reset of any kind read with no mains warning: the blocks' values, the fan chosen, and the sources with RESTARTED and the active
trip causes raised. -/
theorem resetWith_eq (kind : ResetKind) (x : Station) (r : Readings) (s : State) (hw : r.mainsWarn = false) :
    ∃ c a, resetWith kind x r s = { resetBlocks kind x r s with cool := c, attn := a } ∧
      (c.thermal = (resetBlocks kind x r s).cool.thermal ∧ c.fanStall = false ∧ c.cutout = r.cutoutOpen ∧ c.gateCount = 0 ∧
        c.lastTach = 0 ∧ c.ceiling = 1023 ∧ c.derateArmed = true) ∧
      (a.held = none ∧ a.prov = none ∧ (∀ k, a.counter k = 0)) ∧
      ((a.get .restarted).flag = true ∧ (a.get .restarted).again = false ∧
        (a.get .restarted).detail = restartedDetail kind (resetBlocks kind x r s).stn.valid) ∧
      (∀ d, d ≠ .restarted → d ≠ .thermalTrip → d ≠ .cutoutOpen → (a.get d).flag = false) ∧
      (a.get .thermalTrip).flag = c.thermal ∧ (a.get .cutoutOpen).flag = c.cutout := by
  let s1 := resetBlocks kind x r s
  let s2 := raise .restarted (restartedDetail kind s1.stn.valid) s1
  have hclear : ∀ d, (s1.attn.get d).flag = false ∧ (s1.attn.get d).again = false := s.attn.atReset_get (kind == .powerOn)
  have hrestarted : s2.attn.get .restarted = { s1.attn.get .restarted with
      flag := true, detail := restartedDetail kind s1.stn.valid } :=
    s1.attn.raise_get_of_clear .restarted _ (hclear .restarted).1
  have hothers : ∀ d, d ≠ .restarted → (s2.attn.get d).flag = false := fun d hd => by
    rw [show s2.attn.get d = s1.attn.get d from s1.attn.raise_get_of_ne _ hd]
    exact (hclear d).1
  obtain ⟨hkept, hthermal, hcutout⟩ := raiseActiveTrips_cases s2
  obtain ⟨a, htrips, hheld, hprov, hcounters⟩ := raiseActiveTrips_frame s2
  obtain ⟨c, hfan, hc⟩ := fanAtReset_frame kind s.cool.cutout (raiseActiveTrips s2)
  rw [htrips] at hkept hthermal hcutout hfan hc
  obtain ⟨hct, hcs, hcc, hcg, hcl, hck, hcd⟩ := hc
  refine ⟨c, a, ?_, ⟨hct, hcs, hcc, hcg, hcl, hck, hcd⟩, ⟨hheld, hprov, fun k => ?_⟩, ?_, fun d h1 h2 h3 => ?_, ?_, ?_⟩
  · show readMainsWarn r.mainsWarn (fanAtReset kind s.cool.cutout (raiseActiveTrips s2)) = _
    rw [hw, htrips, hfan]
    rfl
  · rw [Attn.counter, hcounters]
    exact s.attn.atReset_counter (kind == .powerOn) k
  · rw [hkept .restarted (by decide) (by decide), hrestarted]
    exact ⟨rfl, (hclear .restarted).2, rfl⟩
  · rw [hkept d h2 h3]
    exact hothers d h1
  · rw [hthermal, hothers _ (by decide), Bool.or_false, hct]
  · rw [hcutout, hothers _ (by decide), Bool.or_false, hcc]

/-- What a reset leaves, whatever its kind, the straps and the record that were taken, and the state it finds. -/
theorem resetWith_leftByReset (kind : ResetKind) (x : Station) (r : Readings) (s : State) (hw : r.mainsWarn = false) :
    LeftByReset kind r.cassette s (resetWith kind x r s) ∧ (resetWith kind x r s).cool.cutout = r.cutoutOpen ∧
    (kind ≠ .powerOn → (resetWith kind x r s).stn.valid = false) := by
  obtain ⟨c, a, heq, ⟨-, hstall, hcutout, hgate, htach, hceiling, hderate⟩, ⟨hheld, hprov, hcounters⟩, ⟨hflag, hagain, hdetail⟩,
    hothers, hthermal, hopen⟩ := resetWith_eq kind x r s hw
  obtain ⟨hbusy, hdeferred, hschedule, hcue, hsource⟩ := s.disp.atReset_cleared (kind == .powerOn)
  have htray : (resetBlocks kind x r s).tray.queue = [] ∧ (resetBlocks kind x r s).tray.darkTimer = false ∧
      (resetBlocks kind x r s).tray.demand = .opened := by
    show Transport.queue (if kind = .powerOn then _ else _) = [] ∧ _
    by_cases hk : kind = .powerOn
    · subst hk
      exact ⟨rfl, rfl, rfl⟩
    · simp only [resetBlocks, hk, if_false]
      exact s.tray.atReset_cleared _
  obtain ⟨hqueue, hdark, hdemand⟩ := htray
  have hdeck : (resetBlocks kind x r s).deck.state = if x.strapDeck = true ∧ r.cassette = true then .stopped else .noCassette := by
    simp [resetBlocks, Deck.atReset]
  rw [heq]
  refine ⟨⟨rfl, rfl, rfl, hbusy, hdeferred, hschedule, hcue, hsource, hqueue, hdark, hdemand, rfl, rfl, rfl, rfl, rfl, rfl, rfl, rfl, rfl,
    hgate, htach, hstall, hceiling, hderate, rfl, rfl, rfl, hdeck, rfl, rfl, rfl, rfl, rfl, rfl, hheld, hprov, hcounters, hflag, hagain,
    hdetail, hothers, hthermal, hopen⟩, hcutout, fun hk => ?_⟩
  simp [resetBlocks, Station.atReset, hk]

/-- Settles O28: each of the four commands is a `resetWith` of its kind, where the part takes it. -/
theorem everyResetLeavesItsValues : Obligations.EveryResetLeavesItsValues := by
  unfold Obligations.EveryResetLeavesItsValues
  intro st r s hw
  have hleft : ∀ kind x, LeftByReset kind r.cassette s (resetWith kind x r s) ∧ (resetWith kind x r s).cool.cutout = r.cutoutOpen ∧
      (kind ≠ .powerOn → (resetWith kind x r s).stn.valid = false) := fun kind x => resetWith_leftByReset kind x r s hw
  refine ⟨?_, fun hp => ?_, fun hp hdue => ?_, fun hp hdue => ?_⟩
  · obtain ⟨hl, hcutout, -⟩ := hleft .powerOn ((s.stn.latch st).readRetained s.retained)
    exact ⟨_, rfl, hl, hcutout⟩
  · obtain ⟨hl, -, hvalid⟩ := hleft .pin (s.stn.latch st)
    exact ⟨_, congrArg Host.Outcome.next (if_neg hp), hl, hvalid (by decide)⟩
  · obtain ⟨hl, -, hvalid⟩ := hleft .loop s.stn
    refine ⟨_, congrArg Host.Outcome.next ?_, hl, hvalid (by decide)⟩
    simp [whenRunning, hp, loopResetDue, hdue, loopReset]
  · obtain ⟨hl, -, hvalid⟩ := hleft .brownout (s.stn.latch st)
    refine ⟨_, congrArg Host.Outcome.next ?_, hl, hvalid (by decide)⟩
    simp [whenRunning, hp, hdue, brownoutRestart]

end Sys2Proof.Machine

-- ==== Sys2Proof/Proofs/Passage.lean ====
/-! PROOF. A whole frame on free lines, byte by byte, for every kind: what a payload byte may rewrite, and what the CHECK and the trailer
leave on the lines. -/

namespace Sys2Proof.Machine

open Sys2Proof (Byte Frame)

/-! ### The lines beside the rest of the part -/

/-- LOOP OUT with nothing waiting, in the middle of a frame: the bytes sent so far behind its SYNC. -/
def lineOut (left : Nat) (sent : List Byte) (resetAhead : Option Nat) : LoopOut :=
  { buffer := [], originating := [], left := left, idle := 0, cut := false, resetAhead := resetAhead, sent := Config.sync :: sent }

/-- The part with LOOP IN receiving `rx` right after a byte, and LOOP OUT as given. -/
def onLine (s : State) (rx : Rx) (o : LoopOut) : State :=
  { s with loop := { s.loop with rx := rx, inIdle := 0, bits := 0, space := 0 }, out := o }

theorem passing_eq_onLine (s : State) (p : Passage) (sent : List Byte) :
    passing s p sent = onLine s (.frame p) (lineOut 10 sent (s.out.rest.resetAhead.map (· - sent.length))) := rfl

theorem passingFree_eq_onLine (s : State) (p : Passage) (sent : List Byte) :
    passingFree s p sent = onLine s (.frame p) (lineOut 0 sent (s.out.rest.resetAhead.map (· - (sent.length + 1)))) := rfl

@[simp] theorem onLine_offLine (s : State) (rx : Rx) (o : LoopOut) : (onLine s rx o).offLine = s.offLine := rfl

@[simp] theorem onLine_out (s : State) (rx : Rx) (o : LoopOut) : (onLine s rx o).out = o := rfl

@[simp] theorem onLine_loop (s : State) (rx : Rx) (o : LoopOut) :
    (onLine s rx o).loop = { s.loop with rx := rx, inIdle := 0, bits := 0, space := 0 } := rfl

@[simp] theorem noteByte_onLine (s : State) (rx : Rx) (o : LoopOut) : noteByte (onLine s rx o) = onLine s rx o := rfl

@[simp] theorem setRx_onLine (s : State) (rx rx' : Rx) (o : LoopOut) : setRx rx' (onLine s rx o) = onLine s rx' o := rfl

/-- A state whose lines stand so is `onLine` of itself. -/
theorem eq_onLine {g : State} {rx : Rx} {o : LoopOut} (ho : g.out = o)
    (hl : g.loop = { g.loop with rx := rx, inIdle := 0, bits := 0, space := 0 }) : g = onLine g rx o := by
  show g = { g with loop := { g.loop with rx := rx, inIdle := 0, bits := 0, space := 0 }, out := o }
  rw [← hl, ← ho]

/-- The byte on the line goes out whole in a byte time. -/
theorem lineOut_ticks (sent : List Byte) (r : Option Nat) : (lineOut 10 sent r).ticks 10 = lineOut 0 sent (r.map (· - 1)) :=
  (LoopOut.ticks_left 9 (lineOut 10 sent r) rfl rfl rfl).trans rfl

theorem rxByte_onLine (b : Byte) (s : State) (p : Passage) (o : LoopOut) :
    rxByte b (onLine s (.frame p) o) = noteByte (frameByte p b (onLine s (.frame p) (o.ticks 10))) := rfl

/-- A byte to be repeated is sent at once on a free line (R4). -/
theorem emit_lineOut (b : Byte) (s : State) (rx : Rx) (sent : List Byte) (r : Option Nat) :
    emit b false (onLine s rx (lineOut 0 sent r)) = onLine s rx (lineOut 10 (sent ++ [b]) r) := by
  simp [emit, onLine, lineOut, LoopOut.freeFor, LoopOut.send, Config.byteTime]

/-! ### What a payload byte may rewrite (R8) -/

/-- All that passing on a payload can have done to the rest of the part: a provisional hold, a provisional number, and a look at a
mirror in progress (R181, R19, R32). -/
def Rewritten (k : FrameKind) (s s' : State) : Prop :=
  ∃ prov number copied values,
    s' = { s with
      attn := { s.attn with prov := prov }
      loop := { s.loop with provNumber := number }
      disp := { s.disp with mirrorCopied := copied }
      openValues := values } ∧
    ((k = .query → s.disp.mirrorBusy = false) → copied = s.disp.mirrorCopied ∧ values = s.openValues)

theorem Rewritten.refl (k : FrameKind) (s : State) : Rewritten k s s :=
  ⟨s.attn.prov, s.loop.provNumber, s.disp.mirrorCopied, s.openValues, rfl, fun _ => ⟨rfl, rfl⟩⟩

theorem Rewritten.trans {k : FrameKind} {s t u : State} (h : Rewritten k s t) (h' : Rewritten k t u) : Rewritten k s u := by
  obtain ⟨prov, number, copied, values, rfl, hlook⟩ := h
  obtain ⟨prov', number', copied', values', rfl, hlook'⟩ := h'
  refine ⟨prov', number', copied', values', rfl, fun hk => ?_⟩
  obtain ⟨hc, hv⟩ := hlook' hk
  exact ⟨hc.trans (hlook hk).1, hv.trans (hlook hk).2⟩

/-- A frame of this kind and LENGTH passes with its payload as it is, whatever it holds (R8, R13). -/
def NeverRewritten (k : FrameKind) (length : Nat) : Prop :=
  match k with
  | .cue => True | .command => True | .load => True | .remote => True
  | .poll => length ≠ 7
  | .assign => length ≠ 1
  | .query => False

/-- A fixed kind of another LENGTH is never rewritten (R13). -/
theorem neverRewritten_of_wrongLength {k : FrameKind} {n length : Nat} (h : k.fixedLength = some n) (hne : length ≠ n) :
    NeverRewritten k length := by
  cases k <;> simp_all [FrameKind.fixedLength, NeverRewritten]

/-- What one payload byte leaves: the passage pushed on, its byte as sent, and nothing else of the part but what a rewrite holds. -/
def PayloadPassed (k : FrameKind) (p : Passage) (b : Byte) (s : State) (sent : List Byte) (t : State) : Prop :=
  ∃ s' x reply, noteByte t = passing s' ({ p with reply := reply }.push b x) (sent ++ [x]) ∧ Rewritten k s s' ∧
    (p.reply = [] → NeverRewritten k p.length → s' = s ∧ x = b ∧ reply = [])

/-- A byte passed on as it came. -/
theorem payloadPassed_asGiven (k : FrameKind) (p : Passage) (b : Byte) (s : State) (sent : List Byte) (hs : p.stripped = false) :
    PayloadPassed k p b s sent (passOn p b b (passingFree s p sent)) :=
  ⟨s, b, p.reply, passOn_passingFree p b b s p sent hs, .refl k s, fun hr _ => ⟨rfl, rfl, hr⟩⟩

theorem pollByte_passed (p : Passage) (b : Byte) (s : State) (sent : List Byte) (hs : p.stripped = false) (h7 : p.length = 7) :
    PayloadPassed .poll p b s sent (pollByte p b (passingFree s p sent)) := by
  unfold pollByte
  split
  · exact payloadPassed_asGiven _ p b s sent hs
  · next c _ =>
    let bytes := slotBytes (stationNumber s) c s.attn
    let s' : State := { s with attn := s.attn.holdProvisionally c }
    refine ⟨s', bytes.headD b, bytes.drop 1, passOn_passingFree { p with reply := bytes.drop 1 } b (bytes.headD b) s' p sent hs, ?_,
      fun _ hn => absurd h7 hn⟩
    show Rewritten _ s { s with attn := s.attn.holdProvisionally c }
    unfold Attn.holdProvisionally
    split
    · exact .refl _ s
    · exact ⟨some c, s.loop.provNumber, s.disp.mirrorCopied, s.openValues, rfl, fun _ => ⟨rfl, rfl⟩⟩

theorem assignByte_passed (p : Passage) (b : Byte) (s : State) (sent : List Byte) (hs : p.stripped = false) (h1 : p.length = 1) :
    PayloadPassed .assign p b s sent (assignByte p b (passingFree s p sent)) := by
  unfold assignByte
  split
  · let s' : State := { s with loop := { s.loop with provNumber := some b.toNat } }
    exact ⟨s', b + 1#8, p.reply, passOn_passingFree p b (b + 1#8) s' p sent hs,
      ⟨s.attn.prov, some b.toNat, s.disp.mirrorCopied, s.openValues, rfl, fun _ => ⟨rfl, rfl⟩⟩, fun _ hn => absurd h1 hn⟩
  · exact payloadPassed_asGiven _ p b s sent hs

/-- A look at the mirror changes nothing where none is in progress, and else its progress alone (R32). -/
theorem lookAtMirror_rewritten (s : State) : Rewritten .query s (lookAtMirror s) := by
  unfold lookAtMirror
  split
  · next hb => exact ⟨s.attn.prov, s.loop.provNumber, _, _, rfl, fun h => absurd (h rfl) (by simp [hb])⟩
  · exact .refl _ s

theorem lookAtMirror_onLine (s : State) (rx : Rx) (o : LoopOut) : lookAtMirror (onLine s rx o) = onLine (lookAtMirror s) rx o := by
  simp only [lookAtMirror, show (onLine s rx o).disp = s.disp from rfl]
  split <;> rfl

/-- An answer leaves the part as it was, but for a look at the mirror (R185). -/
theorem answerQuery_state (fields : List Byte) (area : Nat) (s : State) :
    (answerQuery fields area s).2 = s ∨ (answerQuery fields area s).2 = lookAtMirror s := by
  unfold answerQuery
  split
  · split <;> exact .inl rfl
  · split
    · split
      · dsimp only
        split_ifs
        all_goals first | exact .inl rfl | exact .inr rfl
      · exact .inl rfl
    · exact .inl rfl
  · exact .inl rfl

theorem queryByte_passed (p : Passage) (b : Byte) (s : State) (sent : List Byte) (hs : p.stripped = false) :
    PayloadPassed .query p b s sent (queryByte p b (passingFree s p sent)) := by
  unfold queryByte
  dsimp only
  split
  · rcases answerQuery_state (p.payload ++ [b]) (p.length - (p.payload ++ [b]).length) (passingFree s p sent) with h | h <;> rw [h]
    · exact ⟨s, b, _, passOn_passingFree _ b b s p sent hs, .refl _ s, fun _ hn => hn.elim⟩
    · rw [passingFree_eq_onLine, lookAtMirror_onLine]
      have hout : (lookAtMirror s).out = s.out := by simp
      rw [← hout, ← passingFree_eq_onLine]
      exact ⟨_, b, _, passOn_passingFree _ b b _ p sent hs, lookAtMirror_rewritten s, fun _ hn => hn.elim⟩
  · exact payloadPassed_asGiven _ p b s sent hs

/-- All that a payload byte of a known kind can do (R8). -/
theorem payloadByte_passed (k : FrameKind) (p : Passage) (b : Byte) (s : State) (sent : List Byte) (hk : p.kind = some k)
    (hs : p.stripped = false) : PayloadPassed k p b s sent (payloadByte p b (passingFree s p sent)) := by
  unfold payloadByte
  split
  · next r rest hr => exact ⟨s, r, rest, passOn_passingFree _ b r s p sent hs, .refl k s, fun h => absurd (hr.symm.trans h) nofun⟩
  · rw [hk]
    cases k with
    | poll =>
      dsimp only
      split
      · next h => exact pollByte_passed p b s sent hs h.1
      · exact payloadPassed_asGiven _ p b s sent hs
    | assign =>
      dsimp only
      split
      · next h => exact assignByte_passed p b s sent hs h
      · exact payloadPassed_asGiven _ p b s sent hs
    | query => exact queryByte_passed p b s sent hs
    | cue => exact payloadPassed_asGiven _ p b s sent hs
    | command => exact payloadPassed_asGiven _ p b s sent hs
    | load => exact payloadPassed_asGiven _ p b s sent hs
    | remote => exact payloadPassed_asGiven _ p b s sent hs

/-! ### A payload -/

/-- The passage after payload bytes `bs` that went out as `xs`. -/
def Passage.rewritten (p : Passage) (bs xs reply : List Byte) : Passage :=
  { p with
    got := p.got ++ bs
    rxCheck := bs.foldl crcByte p.rxCheck
    txCheck := xs.foldl crcByte p.txCheck
    reply := reply }

/-- Bytes behind the header leave its fields as they are. -/
theorem Passage.header_of_append {p q : Passage} {bs : List Byte} (h : q.got = p.got ++ bs) (h5 : 5 ≤ p.got.length) :
    q.kind = p.kind ∧ q.target = p.target ∧ q.origin = p.origin ∧ q.hop = p.hop ∧ q.length = p.length := by
  have hget : ∀ i, i < 5 → q.got.getD i 0#8 = p.got.getD i 0#8 := fun i hi => by
    simp [h, List.getD_eq_getElem?_getD, List.getElem?_append_left (show i < p.got.length by omega)]
  refine ⟨congrArg FrameKind.ofByte (hget 0 (by decide)), hget 1 (by decide), hget 2 (by decide), hget 3 (by decide),
    congrArg BitVec.toNat (hget 4 (by decide))⟩

/-- A place within the payload is a payload byte's (R3). -/
theorem frameByte_payload (p : Passage) (b : Byte) (s : State) (h5 : 5 ≤ p.got.length) (h : p.got.length < 5 + p.length) :
    frameByte p b s = payloadByte p b s := by
  obtain ⟨n, hn⟩ : ∃ n, p.got.length = n + 5 := ⟨p.got.length - 5, by omega⟩
  simp only [frameByte, hn, show n < p.length by omega, if_true]

/-- The payload of a frame of a known kind that is not stripped passes, byte by byte, as it is or rewritten (R4, R8). -/
theorem rxBytes_payload (k : FrameKind) (bs : List Byte) (p : Passage) (sent : List Byte) (s : State) (hk : p.kind = some k)
    (hs : p.stripped = false) (h5 : 5 ≤ p.got.length) (hlen : p.got.length + bs.length ≤ 5 + p.length) :
    ∃ s' xs reply, rxBytes bs (passing s p sent) = passing s' (p.rewritten bs xs reply) (sent ++ xs) ∧ xs.length = bs.length ∧
      Rewritten k s s' ∧ (p.reply = [] → NeverRewritten k p.length → s' = s ∧ xs = bs ∧ reply = []) := by
  induction bs generalizing p sent s with
  | nil => exact ⟨s, [], p.reply, by simp [Passage.rewritten], rfl, .refl k s, fun hr _ => ⟨rfl, rfl, hr⟩⟩
  | cons b bs ih =>
    rw [List.length_cons] at hlen
    obtain ⟨s1, x, reply1, hbyte, hr1, hn1⟩ := payloadByte_passed k p b s sent hk hs
    let q : Passage := { p with reply := reply1 }.push b x
    obtain ⟨hkind, -, -, -, hlength⟩ := Passage.header_of_append (p := p) (q := q) rfl h5
    have hgot : q.got.length = p.got.length + 1 := List.length_append
    obtain ⟨s', xs, reply, hrest, hxs, hr, hn⟩ :=
      ih q (sent ++ [x]) s1 (hkind.trans hk) hs (by omega) (by rw [hlength, hgot]; omega)
    refine ⟨s', x :: xs, reply, ?_, congrArg (· + 1) hxs, hr1.trans hr, fun hreply hnever => ?_⟩
    · rw [rxBytes_cons, rxByte_passing, frameByte_payload p b _ h5 (by omega), hbyte, hrest]
      simp [q, Passage.rewritten, Passage.push]
    · obtain ⟨rfl, rfl, rfl⟩ := hn1 hreply hnever
      obtain ⟨rfl, rfl, rfl⟩ := hn rfl (by rwa [hlength])
      exact ⟨rfl, rfl, rfl⟩

end Sys2Proof.Machine

-- ==== Sys2Proof/Proofs/WholeFrame.lean ====
/-! PROOF. A whole frame of a known kind: what stands on the lines at its CHECK, what a good or a bad CHECK and the trailer leave there,
and what of the Loop Port a good frame can change. -/

namespace Sys2Proof.Machine

open Sys2Proof (Byte Frame)

/-! ### A frame up to its CHECK -/

theorem payload_length_le {f : Frame} {payload : List Byte} {s : State} (h : ArrivesWhole f payload s) :
    payload.length ≤ Config.maxLength := by
  obtain ⟨-, -, -, -, -, -, -, -, -, -, hlen⟩ := h
  exact hlen

theorem FrameKind.ofByte_code (k : FrameKind) : FrameKind.ofByte k.code = some k := by cases k <;> rfl

theorem byteOf_toNat {n : Nat} (h : n ≤ Config.maxLength) : (byteOf n).toNat = n := by
  have : n < 256 := Nat.lt_of_le_of_lt h (by decide)
  simp [byteOf, BitVec.toNat_ofNat, Nat.mod_eq_of_lt this]

/-- The five header bytes behind SYNC as they go out (R5). -/
def sentHeader (k : FrameKind) (f : Frame) (length : Nat) : List Byte := [k.code, f.target, f.origin, nextHop f.hop, byteOf length]

theorem sentBytes_eq (k : FrameKind) (f : Frame) (payload : List Byte) :
    sentBytes f k payload =
      Config.sync :: (sentHeader k f payload.length ++ payload ++ [crc (sentHeader k f payload.length ++ payload)]) := rfl

/-- The passage of a whole frame that is not stripped, its payload having gone out as `xs`, right before its CHECK. -/
def wholePassage (k : FrameKind) (f : Frame) (payload xs reply : List Byte) : Passage :=
  (headerPassage k.code f.target f.origin f.hop (byteOf payload.length)).rewritten payload xs reply

theorem wholePassage_kind (k : FrameKind) (f : Frame) (payload xs reply : List Byte) :
    (wholePassage k f payload xs reply).kind = some k := k.ofByte_code

theorem wholePassage_length (k : FrameKind) (f : Frame) (payload xs reply : List Byte) (h : payload.length ≤ Config.maxLength) :
    (wholePassage k f payload xs reply).length = payload.length := byteOf_toNat h

theorem wholePassage_got_length (k : FrameKind) (f : Frame) (payload xs reply : List Byte) (h : payload.length ≤ Config.maxLength) :
    (wholePassage k f payload xs reply).got.length = 5 + (wholePassage k f payload xs reply).length := by
  rw [wholePassage_length k f payload xs reply h]
  exact (List.length_append).trans rfl

theorem wholePassage_rxCheck (k : FrameKind) (f : Frame) (payload xs reply : List Byte) :
    (wholePassage k f payload xs reply).rxCheck = goodCheck f k.code payload := by
  simp [wholePassage, Passage.rewritten, headerPassage, goodCheck, crc]

theorem wholePassage_txCheck (k : FrameKind) (f : Frame) (payload xs reply : List Byte) :
    (wholePassage k f payload xs reply).txCheck = crc (sentHeader k f payload.length ++ xs) := by
  simp [wholePassage, Passage.rewritten, headerPassage, sentHeader, crc]

/-- A whole frame of a known kind that is not stripped, up to its last payload byte, on free lines (R3 to R5, R8). -/
theorem rxBytes_upToCheck (k : FrameKind) (f : Frame) (payload : List Byte) (s : State) (hlen : payload.length ≤ Config.maxLength)
    (hown : k = .cue ∨ k = .remote → ownOrigin f s = false) :
    ∃ s' xs reply,
      rxBytes ([Config.sync, k.code, f.target, f.origin, f.hop, byteOf payload.length] ++ payload) (freeLine s) =
        passing s' (wholePassage k f payload xs reply) (sentHeader k f payload.length ++ xs) ∧
      xs.length = payload.length ∧ Rewritten k s s' ∧ (NeverRewritten k payload.length → s' = s ∧ xs = payload ∧ reply = []) := by
  have hl := byteOf_toNat hlen
  have hheader := rxBytes_header k f.target f.origin f.hop (byteOf payload.length) s (by rwa [hl]) (fun hc ⟨hn, he⟩ => by
    simpa [ownOrigin, hn, he] using hown hc)
  let p := headerPassage k.code f.target f.origin f.hop (byteOf payload.length)
  obtain ⟨s', xs, reply, hrx, hxs, hr, hn⟩ := rxBytes_payload k payload p (sentHeader k f payload.length) s k.ofByte_code rfl
    (Nat.le_refl 5) (by show 5 + payload.length ≤ 5 + (byteOf payload.length).toNat; rw [hl])
  refine ⟨s', xs, reply, ?_, hxs, hr, fun hnever => hn rfl (by rwa [show p.length = payload.length from hl])⟩
  rw [rxBytes_append, hheader]
  exact hrx

/-- The command of a frame kind brings the frame's bytes, on free lines where it arrives whole. -/
theorem exec_frameInstr (k : FrameKind) (f : Frame) (payload : List Byte) (s : State) (h : ArrivesWhole f payload s) :
    exec (frameInstr k f payload) s = .next (rxBytes (frameBytes f k.code payload k.hasTrailer) (freeLine s)) := by
  have hexec : exec (frameInstr k f payload) s = .next (whenRunning (knownFrame k f payload) s) := by cases k <;> rfl
  rw [hexec]
  exact congrArg Host.Outcome.next (frameArrives_whole f payload Config.sync _ s h)

/-! ### The CHECK and the trailer -/

/-- How the bytes ahead of a loop reset stand once a frame has ended: an accepted RESET waits for the byte on the line (R173). -/
def resetAfter (taken : Bool) (r : Option Nat) : Option Nat := if taken = true ∧ r = none then some 1 else r

/-- A frame that has gone by frees LOOP IN (R3, R173). -/
theorem endFrame_onLine (p : Passage) (s : State) (rx : Rx) (sent : List Byte) (r : Option Nat) :
    endFrame p (onLine s rx (lineOut 10 sent r)) = onLine s .quiet (lineOut 10 sent (resetAfter p.resetTaken r)) := by
  simp only [endFrame, setRx_onLine, scheduleReset, resetAfter, onLine_out, show (lineOut 10 sent r).resetAhead = r from rfl]
  split <;> rfl

/-- The trailer as it goes out: the RESULT and its complement, or as received (R10). -/
def trailerOut (result : Option Byte) (b1 b2 : Byte) : List Byte :=
  match result with
  | some r => [r, ~~~r]
  | none => [b1, b2]

/-- A trailer byte by its place (R3). -/
theorem frameByte_trailer (p : Passage) (b : Byte) (second : Bool) (s : State)
    (h : p.got.length = p.length + (if second then 7 else 6)) : frameByte p b s = trailerByte p second b s := by
  cases second
  · simp [frameByte, h]
  · have : (p.length + 1 != p.length) = true := by simp
    simp [frameByte, h, this]

/-- The two trailer bytes go out behind the CHECK, and the frame ends (R3, R10). -/
theorem rxBytes_trailer (p : Passage) (b1 b2 : Byte) (s : State) (sent : List Byte) (r : Option Nat) (h : p.got.length = p.length + 6)
    (h5 : 5 ≤ p.got.length) :
    rxBytes [b1, b2] (onLine s (.frame p) (lineOut 10 sent r)) =
      onLine s .quiet (lineOut 10 (sent ++ trailerOut p.result b1 b2)
        (resetAfter p.resetTaken ((r.map (· - 1)).map (· - 1)))) := by
  let q : Passage := { p with got := p.got ++ [b1] }
  obtain ⟨-, -, -, -, hlength⟩ := Passage.header_of_append (p := p) (q := q) rfl h5
  have hgot : q.got.length = q.length + 7 := by
    rw [hlength, show q.got.length = p.got.length + 1 from List.length_append, h]
  have hq : q.result = p.result := rfl
  rw [rxBytes_cons, rxByte_onLine, lineOut_ticks, frameByte_trailer p b1 false _ h]
  simp only [trailerByte, emit_lineOut, setRx_onLine, noteByte_onLine, Bool.false_eq_true, if_false]
  rw [rxBytes_cons, rxByte_onLine, lineOut_ticks, frameByte_trailer q b2 true _ hgot]
  simp only [trailerByte, emit_lineOut, endFrame_onLine, noteByte_onLine, if_true, rxBytes_nil, hq]
  cases p.result <;> simp [trailerOut, q]

/-- The bytes behind a payload as they arrive: CHECK, and the trailer of a COMMAND or LOAD (R3). -/
def endBytes (k : FrameKind) (check b1 b2 : Byte) : List Byte := check :: (if k.hasTrailer then [b1, b2] else [])

/-- The lines from the CHECK to a frame's last byte, where the CHECK leaves the part as `g`, the passage as `q`, and goes out as `c`. -/
theorem rxBytes_end (k : FrameKind) (p q : Passage) (check c b1 b2 : Byte) (s g : State) (sent : List Byte)
    (hp : p.got.length = 5 + p.length) (hgot : q.got = p.got)
    (hcheck : checkByte p check (passingFree s p sent) = afterCheck k q check (emit c false g))
    (hout : g.out = (passingFree s p sent).out)
    (hloop : g.loop = { g.loop with rx := .frame p, inIdle := 0, bits := 0, space := 0 }) :
    ∃ r, rxBytes (endBytes k check b1 b2) (passing s p sent) =
      onLine g .quiet (lineOut 10 (sent ++ [c] ++ (if k.hasTrailer then trailerOut q.result b1 b2 else [])) r) := by
  let q' : Passage := { q with got := q.got ++ [check] }
  obtain ⟨-, -, -, -, hlength⟩ := Passage.header_of_append (p := p) (q := q') (by rw [← hgot]) (by omega)
  have hq' : q'.got.length = q'.length + 6 := by
    rw [hlength, show q'.got.length = q.got.length + 1 from List.length_append, hgot, hp]
    omega
  have hemit := (congrArg (emit c false) (eq_onLine hout hloop)).trans (emit_lineOut ..)
  rw [endBytes, rxBytes_cons, rxByte_passing, frameByte_check p check _ hp, hcheck, hemit, afterCheck]
  cases k.hasTrailer
  · exact ⟨_, by simpa using congrArg noteByte (endFrame_onLine q' g (.frame p) (sent ++ [c]) _)⟩
  · exact ⟨_, rxBytes_trailer q' b1 b2 g (sent ++ [c]) _ hq' (by omega)⟩

/-! ### What a good frame does to the Loop Port -/

theorem restartSilence_loop (s : State) :
    (restartSilence s).loop =
      { s.loop with silence := if s.stn.state = .active ∧ s.stn.items.silenceTimeout ≠ 0 then .running else s.loop.silence } := by
  unfold restartSilence
  split <;> rfl

theorem takePosition_loop (p : Passage) (s : State) :
    (takePosition p s).loop = { s.loop with position := if p.origin = 0#8 then p.hop else s.loop.position } := by
  unfold takePosition
  split <;> rfl

theorem takePosition_stn (p : Passage) (s : State) : (takePosition p s).stn = s.stn := by
  unfold takePosition
  split <;> rfl

@[simp] theorem restartSilence_offLine (s : State) : (restartSilence s).offLine = s.offLine := by
  unfold restartSilence
  split <;> rfl

@[simp] theorem takePosition_offLine (p : Passage) (s : State) : (takePosition p s).offLine = s.offLine := by
  unfold takePosition
  split <;> rfl

theorem enterActive_loop (s : State) : ∃ z, (enterActive s).loop = { s.loop with silence := z } := by
  unfold enterActive
  rw [restartSilence_loop]
  exact ⟨_, rfl⟩

theorem closeConfiguration_loop (s : State) : ∃ z, (closeConfiguration s).loop = { s.loop with silence := z } :=
  enterActive_loop (lockConfiguration s)

theorem takeStandby_loop (s : State) : ∃ z, (takeStandby s).loop = { s.loop with silence := z } := by
  refine ⟨.stopped, ?_⟩
  unfold takeStandby enterCoolingDown
  split <;> simp [stopSilence]

theorem takeWake_loop (s : State) : ∃ z, (takeWake s).loop = { s.loop with silence := z } := by
  unfold takeWake
  split
  · rw [(chooseFan_frame _).2.1]
    exact enterActive_loop s
  · exact ⟨s.loop.silence, rfl⟩

/-- A command can start or stop the silence timer, and changes nothing else of the Loop Port (R20). -/
theorem runCommand_loop (c : Cmd) (args : List Byte) (s : State) :
    ∃ z, (runCommand c args s).1.loop = { s.loop with silence := z } := by
  cases c
  case configClose => cases args with
    | nil => exact closeConfiguration_loop s
    | cons => exact ⟨s.loop.silence, rfl⟩
  case standby => cases args with
    | nil => exact takeStandby_loop s
    | cons => exact ⟨s.loop.silence, rfl⟩
  case wake => cases args with
    | nil => exact takeWake_loop s
    | cons => exact ⟨s.loop.silence, rfl⟩
  all_goals
    refine ⟨s.loop.silence, ?_⟩
    rcases args with _ | ⟨a, _ | ⟨b, _ | ⟨d, _ | ⟨e, t⟩⟩⟩⟩ <;> dsimp only [runCommand] <;> (repeat' split) <;> simp

/-- Judging a COMMAND can start or stop the silence timer, and changes nothing else of the Loop Port (R20). -/
theorem judgeCommand_loop (payload : List Byte) (s : State) :
    ∃ z, (judgeCommand payload s).1.loop = { s.loop with silence := z } := by
  have hnotice : ∀ c : Cmd, (if c.configClass then noticeConfig s else s).loop = s.loop := fun c => by split <;> simp
  unfold judgeCommand
  split
  · exact ⟨s.loop.silence, rfl⟩
  · split
    · exact ⟨s.loop.silence, rfl⟩
    · next c _ =>
      dsimp only
      have hu := hnotice c
      generalize (if c.configClass = true then noticeConfig s else s) = u at hu ⊢
      split
      · obtain ⟨z, hz⟩ := runCommand_loop c _ u
        exact ⟨z, by rw [hz, hu]⟩
      · exact ⟨s.loop.silence, hu⟩

/-- The notice of an ASSIGN, and its number taken where one is held provisionally (R19, R164). -/
theorem takeAssign_eq (s : State) :
    takeAssign s = { noticeConfig s with loop := { s.loop with
      assigned := match s.loop.provNumber with | some n => some n | none => s.loop.assigned
      provNumber := none } } := by
  have hloop : (noticeConfig s).loop = s.loop := by simp
  unfold takeAssign
  simp only [hloop]
  cases h : s.loop.provNumber
  · simp only [← h, ← hloop]
  · rfl

theorem takeCue_loop (payload : List Byte) (s : State) : (takeCue payload s).loop = s.loop := by
  unfold takeCue
  (repeat' split) <;> simp

/-- What a frame's own action can change of the Loop Port: the station's number, and by a COMMAND the silence timer (R19, R20). -/
theorem actOn_loop (k : FrameKind) (p : Passage) (s : State) :
    ∃ z assigned number, (actOn k p s).1.loop = { s.loop with silence := z, assigned := assigned, provNumber := number } ∧
      (k ≠ .command → z = s.loop.silence) := by
  have hsame : ∀ t : State, t.loop = s.loop →
      ∃ z assigned number, t.loop = { s.loop with silence := z, assigned := assigned, provNumber := number } ∧
        (k ≠ .command → z = s.loop.silence) := fun t ht => ⟨s.loop.silence, s.loop.assigned, s.loop.provNumber, ht, fun _ => rfl⟩
  cases k with
  | cue => exact hsame _ (takeCue_loop p.payload s)
  | poll => exact hsame _ rfl
  | query => exact hsame _ rfl
  | remote => exact hsame _ rfl
  | assign =>
    simp only [actOn]
    split
    · rw [takeAssign_eq]
      exact ⟨s.loop.silence, _, none, rfl, fun _ => rfl⟩
    · exact hsame _ rfl
  | command =>
    simp only [actOn]
    split
    · obtain ⟨z, hz⟩ := judgeCommand_loop p.payload s
      exact ⟨z, s.loop.assigned, s.loop.provNumber, hz, fun h => absurd rfl h⟩
    · exact hsame _ rfl
  | load =>
    simp only [actOn]
    split
    · exact hsame _ (by simp)
    · exact hsame _ rfl

/-- What a good frame does to the Loop Port: its position, its silence timer, and the station's number (R5, R19, R20). -/
theorem goodFrame_loop (k : FrameKind) (p : Passage) (s : State) :
    ∃ z assigned number,
      (goodFrame k p s).1.loop = { s.loop with
        position := if p.origin = 0#8 then p.hop else s.loop.position
        silence := z
        assigned := assigned
        provNumber := number } ∧
      (k ≠ .command →
        z = if s.stn.state = .active ∧ s.stn.items.silenceTimeout ≠ 0 then .running else s.loop.silence) := by
  have hloop : (restartSilence (takePosition p s)).loop = { s.loop with
      position := if p.origin = 0#8 then p.hop else s.loop.position
      silence := if s.stn.state = .active ∧ s.stn.items.silenceTimeout ≠ 0 then .running else s.loop.silence } := by
    rw [restartSilence_loop, takePosition_loop, takePosition_stn]
  unfold goodFrame
  dsimp only
  split
  · obtain ⟨z, assigned, number, h, hz⟩ := actOn_loop k p (restartSilence (takePosition p s))
    rw [hloop] at h hz
    exact ⟨z, assigned, number, h, hz⟩
  · exact ⟨_, s.loop.assigned, s.loop.provNumber, hloop, fun _ => rfl⟩

/-- Acting on a frame changes of its passage what its trailer needs alone (R10, R173). -/
theorem goodFrame_passage (k : FrameKind) (p : Passage) (s : State) :
    ∃ result taken, (goodFrame k p s).2 = { p with result := result, resetTaken := taken } := by
  have hsame : ∃ result taken, p = { p with result := result, resetTaken := taken } := ⟨p.result, p.resetTaken, rfl⟩
  unfold goodFrame
  dsimp only
  split
  · cases k <;> simp only [actOn]
    case command => split; exacts [⟨_, _, rfl⟩, hsame]
    case load => split; exacts [⟨_, p.resetTaken, rfl⟩, hsame]
    all_goals exact hsame
  · exact hsame

/-! ### A whole frame -/

theorem checkByte_known (k : FrameKind) (p : Passage) (b : Byte) (s : State) (hk : p.kind = some k) (hs : p.stripped = false) :
    checkByte p b s = knownCheck k p b s := by
  simp [checkByte, hk, hs]

/-- A frame whose CHECK is good: the part as `goodFrame` leaves it, and on the lines the outgoing check behind the bytes sent, then the
trailer (R3, R6, R7, R10). -/
theorem rxBytes_goodEnd (k : FrameKind) (p : Passage) (b1 b2 : Byte) (s : State) (sent : List Byte) (hk : p.kind = some k)
    (hs : p.stripped = false) (hp : p.got.length = 5 + p.length) :
    ∃ r, rxBytes (endBytes k p.rxCheck b1 b2) (passing s p sent) =
      onLine (goodFrame k p (passingFree s p sent)).1 .quiet (lineOut 10 (sent ++ [p.txCheck] ++
        (if k.hasTrailer then trailerOut (goodFrame k p (passingFree s p sent)).2.result b1 b2 else [])) r) := by
  obtain ⟨result, taken, hq⟩ := goodFrame_passage k p (passingFree s p sent)
  obtain ⟨z, assigned, number, hloop, -⟩ := goodFrame_loop k p (passingFree s p sent)
  refine rxBytes_end k p _ p.rxCheck p.txCheck b1 b2 s _ sent hp (by rw [hq]) ?_ (goodFrame_frame k p _).2.1 (by rw [hloop]; rfl)
  rw [checkByte_known k p _ _ hk hs]
  exact if_pos rfl

/-- A frame whose CHECK is bad: CHECK_FAIL counted, what was provisional undone, and on the lines the complement of the outgoing check
behind the bytes sent, then the trailer as received (R6, R8). -/
theorem rxBytes_badEnd (k : FrameKind) (p : Passage) (check b1 b2 : Byte) (s : State) (sent : List Byte) (hk : p.kind = some k)
    (hs : p.stripped = false) (hp : p.got.length = 5 + p.length) (hbad : check ≠ p.rxCheck) (hresult : p.result = none) :
    ∃ r, rxBytes (endBytes k check b1 b2) (passing s p sent) =
      onLine (undoProvisional (count .checkFail s)) .quiet
        (lineOut 10 (sent ++ [~~~p.txCheck] ++ (if k.hasTrailer then [b1, b2] else [])) r) := by
  have hcheck : checkByte p check (passingFree s p sent) =
      afterCheck k p check (emit (~~~p.txCheck) false (undoProvisional (count .checkFail (passingFree s p sent)))) := by
    rw [checkByte_known k p _ _ hk hs]
    exact if_neg hbad
  obtain ⟨r, h⟩ := rxBytes_end k p p check (~~~p.txCheck) b1 b2 s _ sent hp rfl hcheck rfl rfl
  exact ⟨r, by rw [h, hresult]; rfl⟩

theorem frameBytes_eq (k : FrameKind) (f : Frame) (payload : List Byte) :
    frameBytes f k.code payload k.hasTrailer =
      ([Config.sync, k.code, f.target, f.origin, f.hop, byteOf payload.length] ++ payload) ++
        endBytes k f.check f.result f.resultComplement := by
  simp [frameBytes, endBytes]

/-- The command of a frame whose bytes up to the CHECK bring the part to `t`, whatever the CHECK is. -/
theorem exec_of_upToCheck {k : FrameKind} {f : Frame} {payload : List Byte} {s t : State} (h : ArrivesWhole f payload s)
    (hrx : rxBytes ([Config.sync, k.code, f.target, f.origin, f.hop, byteOf payload.length] ++ payload) (freeLine s) = t)
    (check : Byte) :
    exec (frameInstr k { f with check := check } payload) s = .next (rxBytes (endBytes k check f.result f.resultComplement) t) := by
  have h' : ArrivesWhole { f with check := check } payload s := h
  rw [exec_frameInstr k _ payload s h', frameBytes_eq, rxBytes_append]
  exact congrArg (fun t => Host.Outcome.next (rxBytes _ t)) hrx

/-- A good frame whose payload has gone out as `xs`, the part then standing as `s'`: it is left as `goodFrame` leaves it (R3 to R8). -/
theorem exec_goodFrame_of_upToCheck {k : FrameKind} {f : Frame} {payload xs reply : List Byte} {s s' : State}
    (h : ArrivesWhole f payload s) (hgood : CheckGood f k payload)
    (hrx : rxBytes ([Config.sync, k.code, f.target, f.origin, f.hop, byteOf payload.length] ++ payload) (freeLine s) =
      passing s' (wholePassage k f payload xs reply) (sentHeader k f payload.length ++ xs)) :
    ∃ r, let p := wholePassage k f payload xs reply
      let sent := sentHeader k f payload.length ++ xs
      let a := goodFrame k p (passingFree s' p sent)
      exec (frameInstr k f payload) s = .next (onLine a.1 .quiet (lineOut 10 (sent ++ [crc sent] ++
        (if k.hasTrailer then trailerOut a.2.result f.result f.resultComplement else [])) r)) := by
  obtain ⟨r, hend⟩ := rxBytes_goodEnd k (wholePassage k f payload xs reply) f.result f.resultComplement s'
    (sentHeader k f payload.length ++ xs) (wholePassage_kind ..) rfl (wholePassage_got_length k f payload xs reply (payload_length_le h))
  rw [wholePassage_rxCheck, ← hgood, wholePassage_txCheck] at hend
  exact ⟨r, (exec_of_upToCheck h hrx f.check).trans (congrArg Host.Outcome.next hend)⟩

end Sys2Proof.Machine

-- ==== Sys2Proof/Proofs/KnownFrames.lean ====
/-! PROOF. Whole frames of the known kinds: what a good one leaves on the line (R3, R5, R20), a fixed kind of a wrong LENGTH (R13), a bad
check (R6, R8), and the numbering of a station (R19). -/

namespace Sys2Proof.Machine

open Sys2Proof (Byte Frame)

/-- The part beside the lines is that of `goodFrame` before the frame, where it is counted (R13). -/
theorem count_offLine (c : Counter) {s t : State} (h : s.offLine = t.offLine) : (count c s).offLine = (count c t).offLine :=
  congrArg (count c) h

theorem goodFrame_wrongLength {k : FrameKind} {p : Passage} (h : p.lengthRight k = false) (s : State) :
    goodFrame k p s = (count .framingFail (restartSilence (takePosition p s)), p) := by
  simp [goodFrame, h]

theorem goodFrame_rightLength {k : FrameKind} {p : Passage} (h : p.lengthRight k = true) (s : State) :
    goodFrame k p s = actOn k p (restartSilence (takePosition p s)) := by
  simp [goodFrame, h]

/-- A fixed kind has no trailer. -/
theorem hasTrailer_of_fixedLength {k : FrameKind} {n : Nat} (h : k.fixedLength = some n) : k.hasTrailer = false := by
  cases k <;> simp_all [FrameKind.fixedLength, FrameKind.hasTrailer]

/-- A rewrite leaves the loop position, the silence timer and the Station Controller as they are (R8). -/
theorem Rewritten.line {k : FrameKind} {s s' : State} (h : Rewritten k s s') :
    s'.loop.position = s.loop.position ∧ s'.loop.silence = s.loop.silence ∧ s'.stn = s.stn := by
  obtain ⟨prov, number, copied, values, rfl, -⟩ := h
  exact ⟨rfl, rfl, rfl⟩

/-- A good frame of a known kind leaves free lines, its HOP as the position where the show computer sent it, and the silence timer
afresh (R3, R5, R20). -/
theorem exec_goodFrame_line (k : FrameKind) (f : Frame) (payload : List Byte) (s : State) (h : ArrivesWhole f payload s)
    (hgood : CheckGood f k payload) (hown : k = .cue ∨ k = .remote → ownOrigin f s = false) :
    ∃ t, exec (frameInstr k f payload) s = .next t ∧
      t.loop.rx = .quiet ∧ t.out.originating = [] ∧ t.out.buffer = [] ∧
      t.loop.position = (if f.origin = 0#8 then f.hop else s.loop.position) ∧
      (k ≠ .command → t.loop.silence =
        if s.stn.state = .active ∧ s.stn.items.silenceTimeout ≠ 0 then .running else s.loop.silence) := by
  obtain ⟨s', xs, reply, hrx, -, hr, -⟩ := rxBytes_upToCheck k f payload s (payload_length_le h) hown
  obtain ⟨r, hexec⟩ := exec_goodFrame_of_upToCheck h hgood hrx
  obtain ⟨hposition, hsilence, hstn⟩ := hr.line
  obtain ⟨z, assigned, number, hloop, hz⟩ := goodFrame_loop k (wholePassage k f payload xs reply)
    (passingFree s' (wholePassage k f payload xs reply) (sentHeader k f payload.length ++ xs))
  refine ⟨_, hexec, rfl, rfl, rfl, ?_, fun hk => ?_⟩
  · rw [← hposition, onLine_loop, hloop]
    rfl
  · rw [← hsilence, ← hstn, onLine_loop, hloop]
    exact hz hk

/-- Settles O5: the payload passes unrewritten, and the good check finds the wrong LENGTH. -/
theorem wrongFixedLengthCountsFramingFail : Obligations.WrongFixedLengthCountsFramingFail := by
  unfold Obligations.WrongFixedLengthCountsFramingFail
  intro k n f payload s hfixed hne h hgood hown
  have hlen := payload_length_le h
  obtain ⟨s', xs, reply, hrx, -, -, hplain⟩ := rxBytes_upToCheck k f payload s hlen hown
  obtain ⟨rfl, rfl, rfl⟩ := hplain (neverRewritten_of_wrongLength hfixed hne)
  obtain ⟨r, hexec⟩ := exec_goodFrame_of_upToCheck h hgood hrx
  have hwrong : (wholePassage k f xs xs []).lengthRight k = false := by
    simp [Passage.lengthRight, hfixed, wholePassage_length k f xs xs [] hlen, hne]
  refine ⟨_, hexec, ?_, ?_⟩
  · simp [lineOut, sentBytes_eq, hasTrailer_of_fixedLength hfixed]
  · rw [goodFrame_wrongLength hwrong, onLine_offLine]
    exact count_offLine _ (by simp only [restartSilence_offLine, takePosition_offLine]; rfl)

/-! ### Frames with a bad check -/

/-- With nothing provisional before it, and the mirror not looked at, a frame whose check is bad leaves nothing but its count (R6, R8). -/
theorem Rewritten.undone {k : FrameKind} {s s' : State} (h : Rewritten k s s') (hlook : k = .query → s.disp.mirrorBusy = false)
    (hprov : s.attn.prov = none) (hnumber : s.loop.provNumber = none) :
    (undoProvisional (count .checkFail s')).offLine = (count .checkFail s).offLine := by
  obtain ⟨prov, number, copied, values, rfl, hsame⟩ := h
  obtain ⟨rfl, rfl⟩ := hsame hlook
  simp [undoProvisional, count, State.offLine, Attn.count, Attn.counter, Attn.drop, hprov, hnumber]

/-- On a quiet LOOP IN nothing is provisional (R8, R19, R181). -/
theorem ProvisionalLaw.none_of_quiet {s : State} (h : ProvisionalLaw s) (hq : s.loop.rx = .quiet) :
    s.attn.prov = none ∧ s.loop.provNumber = none := by
  constructor
  · by_contra hne
    obtain ⟨p, hp, -⟩ := h.1 hne
    simp [hq] at hp
  · by_contra hne
    obtain ⟨p, hp, -⟩ := h.2 hne
    simp [hq] at hp

theorem neverRewritten_of_plain {k : FrameKind} {length : Nat} (h : k = .cue ∨ k = .remote ∨ k = .command ∨ k = .load) :
    NeverRewritten k length := by
  rcases h with rfl | rfl | rfl | rfl <;> trivial

/-- The last byte a bad frame sends is the complement of the check that a good one sends (R6). -/
theorem sentBytes_spoilt (k : FrameKind) (f : Frame) (payload : List Byte) :
    (sentBytes f k payload).dropLast ++ [~~~((sentBytes f k payload).getLastD 0#8)] =
      Config.sync :: (sentHeader k f payload.length ++ payload ++ [~~~crc (sentHeader k f payload.length ++ payload)]) := by
  rw [sentBytes_eq, ← List.cons_append, List.dropLast_concat, List.getLastD_concat]
  simp

/-- The bytes between header and check, taken out of what a frame has sent. -/
theorem sent_payload (k : FrameKind) (f : Frame) (n : Nat) (xs trailer : List Byte) (c : Byte) :
    ((Config.sync :: (sentHeader k f n ++ xs ++ [c] ++ trailer)).drop 6).take xs.length = xs := by
  simp [sentHeader]

/-- The bytes up to the check, taken out of what a frame has sent. -/
theorem sent_upToCheck (k : FrameKind) (f : Frame) (n : Nat) (xs trailer : List Byte) (c : Byte) :
    (Config.sync :: (sentHeader k f n ++ xs ++ [c] ++ trailer)).take (7 + xs.length) = Config.sync :: (sentHeader k f n ++ xs ++ [c]) :=
  List.take_left' (l₁ := Config.sync :: (sentHeader k f n ++ xs ++ [c])) (by simp [sentHeader]; omega)

/-- Settles O7: the bad frame and the good one come to the CHECK in one passage, with the same bytes sent. -/
theorem badCheckNotActedOn : Obligations.BadCheckNotActedOn := by
  unfold Obligations.BadCheckNotActedOn
  intro k f payload s h hbad hown hlaw hlook
  obtain ⟨hprov, hnumber⟩ := hlaw.none_of_quiet h.2.1
  obtain ⟨s', xs, reply, hrx, hxs, hr, hplain⟩ := rxBytes_upToCheck k f payload s (payload_length_le h) hown
  have hexec := exec_of_upToCheck h hrx
  let p := wholePassage k f payload xs reply
  let sent := sentHeader k f payload.length ++ xs
  have hcheck : p.rxCheck = goodCheck f k.code payload := wholePassage_rxCheck ..
  have hgot : p.got.length = 5 + p.length := wholePassage_got_length k f payload xs reply (payload_length_le h)
  have htx : p.txCheck = crc sent := wholePassage_txCheck ..
  obtain ⟨r, hend⟩ := rxBytes_badEnd k p f.check f.result f.resultComplement s' sent (wholePassage_kind ..) rfl hgot
    (by rw [hcheck]; exact hbad) rfl
  obtain ⟨r', hgood⟩ := rxBytes_goodEnd k p f.result f.resultComplement s' sent (wholePassage_kind ..) rfl hgot
  rw [htx] at hend hgood
  rw [hcheck] at hgood
  have hsent : sentBytes f k xs = Config.sync :: (sent ++ [crc sent]) := by rw [sentBytes_eq, hxs]
  have hbytes : Config.sync :: (sent ++ [~~~crc sent] ++ (if k.hasTrailer then [f.result, f.resultComplement] else [])) =
      (sentBytes f k xs).dropLast ++ [~~~((sentBytes f k xs).getLastD 0#8)] ++ (if k.hasTrailer then sentTrailer f none else []) := by
    rw [sentBytes_spoilt, hxs]
    rfl
  refine ⟨_, (hexec f.check).trans (congrArg Host.Outcome.next hend), hr.undone hlook hprov hnumber, hr.line.1, hr.line.2.1,
    fun hk => ?_, ?_⟩
  · obtain ⟨-, rfl, -⟩ := hplain (neverRewritten_of_plain hk)
    exact hbytes
  · have hpassed : ((Config.sync :: (sent ++ [~~~crc sent] ++
        (if k.hasTrailer then [f.result, f.resultComplement] else []))).drop 6).take payload.length = xs := by
      rw [← hxs, sent_payload]
    refine ⟨(congrArg List.length hpassed).trans hxs, hbytes.trans (by rw [← hpassed]; rfl), _,
      (hexec _).trans (congrArg Host.Outcome.next hgood), Eq.trans ?_ (hsent.symm.trans (congrArg (sentBytes f k) hpassed.symm))⟩
    rw [← hxs]
    exact sent_upToCheck ..

/-! ### ASSIGN -/

/-- A frame is addressed by the number and the group set alone (R12). -/
theorem matchesTarget_congr {s t : State} (hstn : s.stn = t.stn) (hassigned : s.loop.assigned = t.loop.assigned) (target : Nat) :
    matchesTarget s target = matchesTarget t target := by
  simp only [matchesTarget, stationNumber, inGroup, hstn, hassigned]

/-- Whether the station puts its number into an ASSIGN of this NEXT (R19). -/
def takesNumber (f : Frame) (next : Byte) (s : State) : Prop :=
  s.stn.state = .configuring ∧ s.stn.strapStation = 0 ∧ stationNumber s = 0 ∧ matchesTarget s f.target.toNat = true ∧
    1 ≤ next.toNat ∧ next.toNat ≤ 30

/-- The NEXT byte of an ASSIGN passes with NEXT + 1 in its place, and NEXT held provisionally, at a station that is eligible; at any
other it passes as it is (R19). -/
theorem rxBytes_assign (f : Frame) (next : Byte) (s : State) :
    ∃ s' x, rxBytes ([Config.sync, FrameKind.assign.code, f.target, f.origin, f.hop, byteOf [next].length] ++ [next]) (freeLine s) =
        passing s' (wholePassage .assign f [next] [x] []) (sentHeader .assign f [next].length ++ [x]) ∧
      (takesNumber f next s → s' = { s with loop := { s.loop with provNumber := some next.toNat } } ∧ x = next + 1#8) ∧
      (¬ takesNumber f next s → s' = s ∧ x = next) := by
  let p := headerPassage FrameKind.assign.code f.target f.origin f.hop (byteOf 1)
  let sent := sentHeader .assign f 1
  have hheader : rxBytes [Config.sync, FrameKind.assign.code, f.target, f.origin, f.hop, byteOf [next].length] (freeLine s) =
      passing s p sent :=
    rxBytes_header .assign f.target f.origin f.hop (byteOf 1) s (by decide) (fun h => by simp at h)
  have hbyte : rxBytes [next] (passing s p sent) = noteByte (assignByte p next (passingFree s p sent)) := by
    rw [rxBytes_cons, rxByte_passing, frameByte_payload p next _ (Nat.le_refl 5) (by decide : 5 < 5 + 1)]
    rfl
  have heligible : (eligible p (passingFree s p sent) = true ∧ 1 ≤ next.toNat ∧ next.toNat ≤ 30) ↔ takesNumber f next s := by
    have htarget : matchesTarget (passingFree s p sent) p.target.toNat = matchesTarget s f.target.toNat :=
      matchesTarget_congr rfl rfl _
    have hnumber : stationNumber (passingFree s p sent) = stationNumber s := rfl
    simp [eligible, takesNumber, htarget, hnumber, and_assoc, show (passingFree s p sent).stn = s.stn from rfl]
  by_cases ht : takesNumber f next s
  · let s' : State := { s with loop := { s.loop with provNumber := some next.toNat } }
    refine ⟨s', next + 1#8, ?_, fun _ => ⟨rfl, rfl⟩, fun h => absurd ht h⟩
    rw [rxBytes_append, hheader, hbyte, assignByte, if_pos (heligible.2 ht)]
    exact passOn_passingFree p next (next + 1#8) s' p sent rfl
  · refine ⟨s, next, ?_, fun h => absurd h ht, fun _ => ⟨rfl, rfl⟩⟩
    rw [rxBytes_append, hheader, hbyte, assignByte, if_neg (mt heligible.1 ht)]
    exact passOn_passingFree p next next s p sent rfl

/-- Taking an ASSIGN does not look at the lines. -/
theorem takeAssign_offLine {s t : State} (h : s.offLine = t.offLine) : (takeAssign s).offLine = (takeAssign t).offLine := by
  have hcomm : ∀ u : State, (takeAssign u).offLine = (takeAssign u.offLine).offLine := fun u => by
    rw [takeAssign_eq, takeAssign_eq]
    unfold noticeConfig
    simp only [show u.offLine.stn = u.stn from rfl]
    split <;> rfl
  rw [hcomm s, h, ← hcomm t]

/-- A good ASSIGN goes out with the NEXT it was given or NEXT + 1, and one that is addressed to the station is noticed and makes a
provisional number firm (R19, R164). -/
theorem exec_assign (f : Frame) (next : Byte) (s : State) (h : ArrivesWhole f [next] s) (hgood : CheckGood f .assign [next]) :
    ∃ t s' x, exec (.assign f [next]) s = .next t ∧ t.out.sent = sentBytes f .assign [x] ∧
      t.offLine = (if matchesTarget s f.target.toNat = true then takeAssign s' else s').offLine ∧
      (takesNumber f next s → s' = { s with loop := { s.loop with provNumber := some next.toNat } } ∧ x = next + 1#8) ∧
      (¬ takesNumber f next s → s' = s ∧ x = next) := by
  obtain ⟨s', x, hrx, hyes, hno⟩ := rxBytes_assign f next s
  obtain ⟨r, hexec⟩ := exec_goodFrame_of_upToCheck h hgood hrx
  refine ⟨_, s', x, hexec, rfl, ?_, hyes, hno⟩
  let p := wholePassage .assign f [next] [x] []
  let u := restartSilence (takePosition p (passingFree s' p (sentHeader .assign f 1 ++ [x])))
  have hu : u.offLine = s'.offLine := by simp only [u, restartSilence_offLine, takePosition_offLine]; rfl
  have hsame : s'.stn = s.stn ∧ s'.loop.assigned = s.loop.assigned := by
    by_cases ht : takesNumber f next s
    · rw [(hyes ht).1]
      exact ⟨rfl, rfl⟩
    · rw [(hno ht).1]
      exact ⟨rfl, rfl⟩
  have htarget : matchesTarget u p.target.toNat = matchesTarget s f.target.toNat :=
    matchesTarget_congr ((congrArg State.stn hu).trans hsame.1) ((congrArg (·.loop.assigned) hu).trans hsame.2) _
  have hact : (goodFrame .assign p (passingFree s' p (sentHeader .assign f 1 ++ [x]))).1 =
      if matchesTarget s f.target.toNat = true then takeAssign u else u := by
    rw [goodFrame_rightLength (by rfl), ← htarget]
    rfl
  rw [onLine_offLine]
  refine (congrArg State.offLine hact).trans ?_
  split
  · exact takeAssign_offLine hu
  · exact hu

/-- Settles O13, by whether the station is eligible and NEXT a number (R19). -/
theorem assignNumbersStation : Obligations.AssignNumbersStation := by
  unfold Obligations.AssignNumbersStation
  refine ⟨fun f next s h hgood hstate hstrap hnumber htarget h1 h30 => ?_, fun f next s h hgood hlaw hnot => ?_⟩
  · obtain ⟨t, s', x, hexec, hsent, hoff, hyes, -⟩ := exec_assign f next s h hgood
    obtain ⟨rfl, rfl⟩ := hyes ⟨hstate, hstrap, hnumber, htarget, h1, h30⟩
    rw [if_pos htarget, takeAssign_eq] at hoff
    have hresult : t.offLine =
        { noticeConfig s with loop := { s.loop with assigned := some next.toNat, provNumber := none } }.offLine := by
      rw [hoff]
      unfold noticeConfig
      dsimp only
      split <;> rfl
    refine ⟨t, hexec, hsent, ?_, hresult⟩
    have hstn : t.stn.strapStation = s.stn.strapStation := by
      rw [show t.stn.strapStation = (noticeConfig s).stn.strapStation from congrArg (·.stn.strapStation) hresult]
      unfold noticeConfig
      split <;> rfl
    have hassigned : t.loop.assigned = some next.toNat := congrArg (·.loop.assigned) hresult
    simp [stationNumber, hstn, hstrap, hassigned]
  · obtain ⟨t, s', x, hexec, hsent, hoff, -, hno⟩ := exec_assign f next s h hgood
    obtain ⟨rfl, rfl⟩ := hno (fun ⟨h1, h2, h3, h4, h5, h6⟩ => by
      rcases hnot with hn | hn | hn | hn | hn | hn
      · exact hn h1
      · exact hn h2
      · exact hn h3
      · simp [h4] at hn
      · omega
      · omega)
    refine ⟨t, hexec, hsent, hoff.trans ?_⟩
    split
    · rw [takeAssign_eq, (hlaw.none_of_quiet h.2.1).2]
      have hloop : (noticeConfig s').loop = s'.loop := by simp
      congr 1
      rw [show ({ s'.loop with assigned := s'.loop.assigned, provNumber := none } : LoopPort) = s'.loop by
        rw [← (hlaw.none_of_quiet h.2.1).2], ← hloop]
    · rfl

end Sys2Proof.Machine

-- ==== Sys2Proof/Proofs/OtherFrames.lean ====
/-! PROOF. Frames that are not acted on by their kind: those of an unknown KIND (R11), the station's own (R14), and those with a LENGTH
above 32 (R9). -/

namespace Sys2Proof.Machine

open Sys2Proof (Byte Frame)

/-! ### LOOP OUT with nothing to send -/

/-- On a line with nothing to send, time begins no byte. -/
theorem LoopOut.ticks_silent (n : Nat) (o : LoopOut) (ho : o.originating = []) (hb : o.buffer = []) :
    (o.ticks n).originating = [] ∧ (o.ticks n).buffer = [] ∧ (o.ticks n).sent = o.sent := by
  induction n generalizing o with
  | zero => exact ⟨ho, hb, rfl⟩
  | succ n ih =>
    have hbit : o.bitTime.originating = [] ∧ o.bitTime.buffer = [] ∧ o.bitTime.sent = o.sent := by
      unfold LoopOut.bitTime
      split <;> exact ⟨ho, hb, rfl⟩
    obtain ⟨h1, h2, h3⟩ := hbit
    rw [LoopOut.ticks, o.tick_empty ho hb, ← h3]
    exact ih o.bitTime h1 h2

/-! ### The header, byte by byte -/

/-- The passage right before ORIGIN. -/
def kindTarget (kind target : Byte) : Passage := (Passage.start.push kind kind).push target target

theorem rxBytes_kindTarget (kind target : Byte) (s : State) :
    rxBytes [Config.sync, kind, target] (freeLine s) = passing s (kindTarget kind target) [kind, target] := by
  have hkind : ∀ t, frameByte Passage.start kind t = passOn Passage.start kind kind t := fun _ => rfl
  have htarget : ∀ t, frameByte (Passage.start.push kind kind) target t = passOn (Passage.start.push kind kind) target target t :=
    fun _ => rfl
  rw [rxBytes_cons, rxByte_sync, rxBytes_cons, rxByte_passing, hkind, passOn_passingFree _ _ _ _ _ _ rfl, rxBytes_cons, rxByte_passing,
    htarget, passOn_passingFree _ _ _ _ _ _ rfl]
  rfl

/-- A frame is stripped if it is a CUE or REMOTE of the station's own (R14). -/
theorem strips_eq (p : Passage) (f : Frame) (s : State) :
    strips p f.origin s = ((p.kind == some .cue || p.kind == some .remote) && ownOrigin f s) := by
  simp [strips, ownOrigin, Bool.and_assoc]

/-- HOP as it goes out: a frame of an unknown kind keeps it (R5, R11). -/
def hopOut (kind hop : Byte) : Byte := if FrameKind.ofByte kind = none then hop else nextHop hop

/-- A frame that is not stripped, up to its HOP, on free lines (R4, R5, R11, R14). -/
theorem rxBytes_upToHop (f : Frame) (kind : Byte) (s : State)
    (hown : FrameKind.ofByte kind = some .cue ∨ FrameKind.ofByte kind = some .remote → ownOrigin f s = false) :
    rxBytes [Config.sync, kind, f.target, f.origin, f.hop] (freeLine s) =
      passing s (((kindTarget kind f.target).push f.origin f.origin).push f.hop (hopOut kind f.hop))
        [kind, f.target, f.origin, hopOut kind f.hop] := by
  have horigin : ∀ sent, frameByte (kindTarget kind f.target) f.origin (passingFree s (kindTarget kind f.target) sent) =
      passOn (kindTarget kind f.target) f.origin f.origin (passingFree s (kindTarget kind f.target) sent) := fun sent => by
    have hno : strips (kindTarget kind f.target) f.origin (passingFree s (kindTarget kind f.target) sent) = false := by
      rw [strips_eq]
      by_cases hc : FrameKind.ofByte kind = some .cue ∨ FrameKind.ofByte kind = some .remote
      · rw [show ownOrigin f (passingFree s (kindTarget kind f.target) sent) = ownOrigin f s from rfl, hown hc, Bool.and_false]
      · rw [not_or] at hc
        rw [show (kindTarget kind f.target).kind = FrameKind.ofByte kind from rfl]
        simp [hc]
    show originByte _ _ _ = _
    rw [originByte, hno]
    rfl
  have hhop : ∀ t, frameByte ((kindTarget kind f.target).push f.origin f.origin) f.hop t =
      passOn ((kindTarget kind f.target).push f.origin f.origin) f.hop (hopOut kind f.hop) t := fun t => by
    show hopByte _ _ _ = _
    unfold hopByte hopOut
    rw [show ((kindTarget kind f.target).push f.origin f.origin).kind = FrameKind.ofByte kind from rfl]
    split <;> rfl
  rw [show [Config.sync, kind, f.target, f.origin, f.hop] = [Config.sync, kind, f.target] ++ [f.origin, f.hop] from rfl, rxBytes_append,
    rxBytes_kindTarget, rxBytes_cons, rxByte_passing, horigin, passOn_passingFree _ _ _ _ _ _ rfl, rxBytes_cons, rxByte_passing, hhop,
    passOn_passingFree _ _ _ _ _ _ rfl]
  rfl

/-- The passage of a frame after its header, HOP having gone out as `hop'`. -/
def passageWith (kind : Byte) (f : Frame) (hop' length : Byte) (stripped : Bool) : Passage :=
  { got := [kind, f.target, f.origin, f.hop, length]
    rxCheck := crc [kind, f.target, f.origin, f.hop, length]
    txCheck := crc [kind, f.target, f.origin, hop', length]
    stripped := stripped
    reply := []
    result := none
    resetTaken := false }

/-- The bytes of a frame of an unknown kind, or of a stripped one, are taken as they come (R11, R14). -/
theorem frameByte_asGiven (p : Passage) (b : Byte) (t : State) (hk : p.kind = none ∨ p.kind = some .cue ∨ p.kind = some .remote)
    (hr : p.reply = []) (h5 : 5 ≤ p.got.length) (hlt : p.got.length < 5 + p.length) : frameByte p b t = passOn p b b t := by
  rw [frameByte_payload p b t h5 hlt, payloadByte, hr]
  rcases hk with h | h | h <;> rw [h]

/-- The CHECK agrees with the whole of what was received (R6). -/
theorem pushAll_rxCheck (kind : Byte) (f : Frame) (hop' : Byte) (payload : List Byte) (stripped : Bool) :
    ((passageWith kind f hop' (byteOf payload.length) stripped).pushAll payload).rxCheck = goodCheck f kind payload := by
  simp [Passage.pushAll, passageWith, goodCheck, crc]

theorem pushAll_got_length (kind : Byte) (f : Frame) (hop' : Byte) (payload : List Byte) (stripped : Bool)
    (h : payload.length ≤ Config.maxLength) :
    ((passageWith kind f hop' (byteOf payload.length) stripped).pushAll payload).got.length =
      5 + ((passageWith kind f hop' (byteOf payload.length) stripped).pushAll payload).length := by
  show ([_, _, _, _, _] ++ payload).length = 5 + (byteOf payload.length).toNat
  rw [byteOf_toNat h, List.length_append]
  rfl

/-! ### Frames of an unknown kind -/

theorem rxBytes_unknownPayload (bs : List Byte) (p : Passage) (sent : List Byte) (s : State) (hk : p.kind = none)
    (hs : p.stripped = false) (hr : p.reply = []) (h5 : 5 ≤ p.got.length) (hlen : p.got.length + bs.length ≤ 5 + p.length) :
    rxBytes bs (passing s p sent) = passing s (p.pushAll bs) (sent ++ bs) := by
  induction bs generalizing p sent with
  | nil => simp [Passage.pushAll_nil]
  | cons b bs ih =>
    rw [List.length_cons] at hlen
    obtain ⟨hkind, -, -, -, hlength⟩ := Passage.header_of_append (p := p) (q := p.push b b) rfl h5
    have hgot : (p.push b b).got.length = p.got.length + 1 := List.length_append
    rw [rxBytes_cons, rxByte_passing, frameByte_asGiven p b _ (.inl hk) hr h5 (by omega), passOn_passingFree _ _ _ _ _ _ hs,
      ih (p.push b b) (sent ++ [b]) (hkind.trans hk) hs hr (by omega) (by rw [hlength, hgot]; omega), Passage.push_pushAll]
    simp

theorem restartSilence_onLine (s : State) (rx : Rx) (o : LoopOut) : restartSilence (onLine s rx o) = onLine (restartSilence s) rx o := by
  simp only [restartSilence, show (onLine s rx o).stn = s.stn from rfl]
  split <;> rfl

/-- The CHECK of a frame of an unknown kind goes out as received, and is counted whatever it is; a good one restarts the silence timer
(R11, R20). -/
theorem unknownCheck_onLine (p : Passage) (b : Byte) (s : State) (rx : Rx) (sent : List Byte) (r : Option Nat)
    (hreset : p.resetTaken = false) :
    unknownCheck p b (onLine s rx (lineOut 0 sent r)) =
      onLine (count .unknownKind (if b = p.rxCheck then restartSilence s else s)) .quiet (lineOut 10 (sent ++ [b]) r) := by
  have hend : ∀ t : State, endFrame p (count .unknownKind (onLine t rx (lineOut 10 (sent ++ [b]) r))) =
      onLine (count .unknownKind t) .quiet (lineOut 10 (sent ++ [b]) r) := fun t =>
    (endFrame_onLine p (count .unknownKind t) rx (sent ++ [b]) r).trans (by simp [resetAfter, hreset])
  rw [unknownCheck, emit_lineOut, restartSilence_onLine]
  split <;> exact hend _

/-- The header bytes behind SYNC of a frame of an unknown kind, the same in and out (R11). -/
def unknownHeader (f : Frame) (kind : Byte) (length : Nat) : List Byte := [kind, f.target, f.origin, f.hop, byteOf length]

/-- A whole frame of an unknown kind, up to its last payload byte, on free lines (R4, R11). -/
theorem rxBytes_unknownUpToCheck (f : Frame) (kind : Byte) (payload : List Byte) (s : State) (hlen : payload.length ≤ Config.maxLength)
    (hk : FrameKind.ofByte kind = none) :
    rxBytes (Config.sync :: (unknownHeader f kind payload.length ++ payload)) (freeLine s) =
      passing s ((passageWith kind f f.hop (byteOf payload.length) false).pushAll payload)
        (unknownHeader f kind payload.length ++ payload) := by
  have hl := byteOf_toNat hlen
  let q := ((kindTarget kind f.target).push f.origin f.origin).push f.hop f.hop
  have hlength : ∀ t, frameByte q (byteOf payload.length) t = passOn q (byteOf payload.length) (byteOf payload.length) t := fun t =>
    if_neg (by rw [hl]; omega)
  have hheader : rxBytes (Config.sync :: unknownHeader f kind payload.length) (freeLine s) =
      passing s (passageWith kind f f.hop (byteOf payload.length) false) (unknownHeader f kind payload.length) := by
    rw [show Config.sync :: unknownHeader f kind payload.length =
      [Config.sync, kind, f.target, f.origin, f.hop] ++ [byteOf payload.length] from rfl, rxBytes_append,
      rxBytes_upToHop f kind s (by simp [hk]), show hopOut kind f.hop = f.hop from if_pos hk, rxBytes_cons, rxByte_passing, hlength,
      passOn_passingFree _ _ _ _ _ _ rfl]
    rfl
  rw [← List.cons_append, rxBytes_append, hheader]
  exact rxBytes_unknownPayload payload _ _ s hk rfl rfl (Nat.le_refl 5) (by show 5 + _ ≤ 5 + (byteOf payload.length).toNat; rw [hl])

/-- A whole frame of an unknown kind crosses as it came, and is counted; at a good CHECK the silence timer restarts (R11, R20). -/
theorem exec_unknownKind (f : Frame) (kind : Byte) (payload : List Byte) (s : State) (h : ArrivesWhole f payload s)
    (hk : FrameKind.ofByte kind = none) :
    ∃ r, exec (.unknownKind f kind payload) s = .next (onLine
        (count .unknownKind (if f.check = goodCheck f kind payload then restartSilence s else s)) .quiet
        (lineOut 10 (unknownHeader f kind payload.length ++ payload ++ [f.check]) r)) := by
  let p := (passageWith kind f f.hop (byteOf payload.length) false).pushAll payload
  have hcheck : ∀ t, frameByte p f.check t = unknownCheck p f.check t := fun t => by
    rw [frameByte_check _ _ t (pushAll_got_length kind f f.hop payload false (payload_length_le h)), checkByte,
      show p.kind = none from hk]
  have hbytes : frameBytes f kind payload false = Config.sync :: (unknownHeader f kind payload.length ++ payload) ++ [f.check] :=
    List.append_nil _
  have hexec : exec (.unknownKind f kind payload) s = .next (rxBytes (frameBytes f kind payload false) (freeLine s)) :=
    congrArg Host.Outcome.next (frameArrives_whole f payload Config.sync _ s h)
  rw [hexec, hbytes, rxBytes_append, rxBytes_unknownUpToCheck f kind payload s (payload_length_le h) hk, rxBytes_cons, rxByte_passing,
    hcheck, passingFree_eq_onLine, unknownCheck_onLine _ _ _ _ _ _ rfl, pushAll_rxCheck]
  exact ⟨_, rfl⟩

/-! ### The station's own frames -/

/-- A byte of a stripped frame is received, and nothing is sent (R14). -/
theorem passOn_stripped (p : Passage) (b x : Byte) (s : State) (rx : Rx) (o : LoopOut) (hs : p.stripped = true) :
    passOn p b x (onLine s rx o) = onLine s (.frame (p.push b x)) o := by
  simp [passOn, hs]

theorem rxBytes_strippedPayload (bs : List Byte) (p : Passage) (s : State) (o : LoopOut)
    (hk : p.kind = some .cue ∨ p.kind = some .remote) (hs : p.stripped = true) (hr : p.reply = []) (h5 : 5 ≤ p.got.length)
    (hlen : p.got.length + bs.length ≤ 5 + p.length) :
    rxBytes bs (onLine s (.frame p) o) = onLine s (.frame (p.pushAll bs)) (o.ticks (10 * bs.length)) := by
  induction bs generalizing p o with
  | nil => rw [Passage.pushAll_nil]; rfl
  | cons b bs ih =>
    rw [List.length_cons] at hlen
    obtain ⟨hkind, -, -, -, hlength⟩ := Passage.header_of_append (p := p) (q := p.push b b) rfl h5
    have hgot : (p.push b b).got.length = p.got.length + 1 := List.length_append
    rw [rxBytes_cons, rxByte_onLine, frameByte_asGiven p b _ (.inr hk) hr h5 (by omega), passOn_stripped _ _ _ _ _ _ hs, noteByte_onLine,
      ih (p.push b b) _ (by rwa [hkind]) hs hr (by omega) (by rw [hlength, hgot]; omega), Passage.push_pushAll, ← LoopOut.ticks_add]
    congr 2
    rw [List.length_cons]
    omega

/-- A CUE or REMOTE frame of the station's own, up to its last payload byte: nothing goes out behind TARGET (R14). -/
theorem rxBytes_strippedUpToCheck (k : FrameKind) (f : Frame) (payload : List Byte) (s : State) (hk : k = .cue ∨ k = .remote)
    (hlen : payload.length ≤ Config.maxLength) (hown : ownOrigin f s = true) :
    ∃ o, rxBytes (Config.sync :: ([k.code, f.target, f.origin, f.hop, byteOf payload.length] ++ payload)) (freeLine s) =
        onLine s (.frame ((passageWith k.code f (nextHop f.hop) (byteOf payload.length) true).pushAll payload)) o ∧
      o.originating = [] ∧ o.buffer = [] ∧ o.sent = [Config.sync, k.code, f.target] := by
  have hl := byteOf_toNat hlen
  have hkind : FrameKind.ofByte k.code = some .cue ∨ FrameKind.ofByte k.code = some .remote := by
    rcases hk with rfl | rfl
    · exact .inl rfl
    · exact .inr rfl
  let p2 := kindTarget k.code f.target
  let p3 : Passage := { p2 with stripped := true }.push f.origin f.origin
  let p4 := p3.push f.hop (nextHop f.hop)
  have horigin : ∀ o, frameByte p2 f.origin (onLine s (.frame p2) o) = onLine s (.frame p3) o := fun o => by
    have hyes : strips p2 f.origin (onLine s (.frame p2) o) = true := by
      rw [strips_eq, show ownOrigin f (onLine s (.frame p2) o) = ownOrigin f s from rfl, hown, show p2.kind = FrameKind.ofByte k.code from rfl]
      rcases hkind with h | h <;> rw [h] <;> rfl
    show originByte _ _ _ = _
    rw [originByte, hyes]
    exact passOn_stripped _ _ _ _ _ _ rfl
  have hhop : ∀ o, frameByte p3 f.hop (onLine s (.frame p3) o) = onLine s (.frame p4) o := fun o => by
    show hopByte _ _ _ = _
    rw [hopByte, if_neg (by rw [show p3.kind = FrameKind.ofByte k.code from rfl]; rcases hkind with h | h <;> simp [h])]
    exact passOn_stripped _ _ _ _ _ _ rfl
  have hlength : ∀ o, frameByte p4 (byteOf payload.length) (onLine s (.frame p4) o) =
      onLine s (.frame (p4.push (byteOf payload.length) (byteOf payload.length))) o := fun o => by
    show lengthByte _ _ _ = _
    rw [lengthByte, if_neg (by rw [hl]; omega)]
    exact passOn_stripped _ _ _ _ _ _ rfl
  have hpayload := fun o => rxBytes_strippedPayload payload (passageWith k.code f (nextHop f.hop) (byteOf payload.length) true) s o hkind
    rfl rfl (Nat.le_refl 5) (by show 5 + _ ≤ 5 + (byteOf payload.length).toNat; rw [hl])
  let o2 := lineOut 10 [k.code, f.target] (s.out.rest.resetAhead.map (· - [k.code, f.target].length))
  have hall : rxBytes (Config.sync :: ([k.code, f.target, f.origin, f.hop, byteOf payload.length] ++ payload)) (freeLine s) =
      onLine s (.frame ((passageWith k.code f (nextHop f.hop) (byteOf payload.length) true).pushAll payload))
        (o2.ticks (10 + 10 + 10 + 10 * payload.length)) := by
    rw [show Config.sync :: ([k.code, f.target, f.origin, f.hop, byteOf payload.length] ++ payload) =
      [Config.sync, k.code, f.target] ++ (f.origin :: f.hop :: byteOf payload.length :: payload) from rfl, rxBytes_append,
      rxBytes_kindTarget, passing_eq_onLine, rxBytes_cons, rxByte_onLine, horigin, noteByte_onLine, rxBytes_cons, rxByte_onLine, hhop,
      noteByte_onLine, rxBytes_cons, rxByte_onLine, hlength, noteByte_onLine, ← LoopOut.ticks_add, ← LoopOut.ticks_add]
    refine (hpayload _).trans ?_
    rw [← LoopOut.ticks_add]
  obtain ⟨h1, h2, h3⟩ := o2.ticks_silent (10 + 10 + 10 + 10 * payload.length) rfl rfl
  exact ⟨_, hall, h1, h2, h3⟩

theorem strippedCheck_onLine (p : Passage) (b : Byte) (s : State) (rx : Rx) (o : LoopOut) (hreset : p.resetTaken = false) :
    strippedCheck p b (onLine s rx o) = onLine (if b = p.rxCheck then restartSilence s else s) .quiet o := by
  rw [strippedCheck, restartSilence_onLine]
  split <;> simp [endFrame, scheduleReset, hreset]

/-- A CUE or REMOTE frame of the station's own is cut off after TARGET, and leaves nothing but a silence timer restarted at a good check
(R14, R20). -/
theorem exec_ownFrame (k : FrameKind) (f : Frame) (payload : List Byte) (s : State) (hk : k = .cue ∨ k = .remote)
    (h : ArrivesWhole f payload s) (hown : ownOrigin f s = true) :
    ∃ o, exec (frameInstr k f payload) s =
        .next (onLine (if f.check = goodCheck f k.code payload then restartSilence s else s) .quiet o) ∧
      o.buffer = [] ∧ o.sent = [Config.sync, k.code, f.target] := by
  have hlen := payload_length_le h
  have htrailer : k.hasTrailer = false := by rcases hk with rfl | rfl <;> rfl
  let p := (passageWith k.code f (nextHop f.hop) (byteOf payload.length) true).pushAll payload
  obtain ⟨o, hrx, ho, hb, hsent⟩ := rxBytes_strippedUpToCheck k f payload s hk hlen hown
  obtain ⟨-, hb', hsent'⟩ := o.ticks_silent 10 ho hb
  have hcheck : ∀ t, frameByte p f.check t = strippedCheck p f.check t := fun t => by
    rw [frameByte_check _ _ t (pushAll_got_length k.code f _ payload true hlen), checkByte, show p.kind = some k from k.ofByte_code]
    exact if_pos rfl
  have hbytes : frameBytes f k.code payload k.hasTrailer =
      Config.sync :: ([k.code, f.target, f.origin, f.hop, byteOf payload.length] ++ payload) ++ [f.check] := by
    rw [htrailer]
    exact List.append_nil _
  refine ⟨o.ticks 10, ?_, hb', hsent'.trans hsent⟩
  rw [exec_frameInstr k f payload s h, hbytes, rxBytes_append, hrx, rxBytes_cons, rxByte_onLine, hcheck, strippedCheck_onLine _ _ _ _ _ rfl,
    pushAll_rxCheck, noteByte_onLine, rxBytes_nil]

/-- Settles O6: off the line nothing but the part itself stands, whatever the check. -/
theorem ownFrameStripped : Obligations.OwnFrameStripped := by
  unfold Obligations.OwnFrameStripped
  intro k f payload s hk h hown
  obtain ⟨o, hexec, hb, hsent⟩ := exec_ownFrame k f payload s hk h hown
  refine ⟨_, hexec, hsent, ?_, ?_, rfl, hb, ?_⟩
  · rw [onLine_offLine]
    split <;> simp
  · rw [onLine_loop]
    split <;> simp [restartSilence_loop]
  · rw [onLine_loop]
    by_cases hc : f.check = goodCheck f k.code payload
    · simp [CheckGood, hc, restartSilence_loop]
    · simp [CheckGood, hc]

/-! ### A LENGTH above 32 -/

theorem rxByte_stray (counts : Bool) (b : Byte) (s : State) (o : LoopOut) :
    rxByte b (onLine s (.stray counts) o) = onLine s (.stray counts) (o.ticks 10) := by
  have hpass : passByte (onLine s (.stray counts) o) = onLine s (.stray counts) (o.ticks 10) := rfl
  simp only [rxByte, hpass, onLine_loop, noteByte_onLine]

/-- Bytes behind a frame with a LENGTH above 32, or of a run of stray bytes, are not repeated (R2, R9). -/
theorem rxBytes_stray (counts : Bool) (bs : List Byte) (s : State) (o : LoopOut) :
    rxBytes bs (onLine s (.stray counts) o) = onLine s (.stray counts) (o.ticks (10 * bs.length)) := by
  induction bs generalizing o with
  | nil => rfl
  | cons b bs ih =>
    rw [rxBytes_cons, rxByte_stray, ih, ← LoopOut.ticks_add]
    congr 2
    rw [List.length_cons]
    omega

/-- A LENGTH above 32 is sent on, and the frame has failed (R9). -/
theorem lengthByte_overlong (p : Passage) (b : Byte) (s : State) (rx : Rx) (sent : List Byte) (r : Option Nat)
    (hb : Config.maxLength < b.toNat) (hs : p.stripped = false) (hreset : p.resetTaken = false) :
    lengthByte p b (onLine s rx (lineOut 0 sent r)) =
      onLine (undoProvisional (count .framingFail s)) (.stray false) (lineOut 10 (sent ++ [b]) r) := by
  have hpass : passOn p b b (onLine s rx (lineOut 0 sent r)) = onLine s (.frame (p.push b b)) (lineOut 10 (sent ++ [b]) r) := by
    rw [passOn, hs, setRx_onLine, emit_lineOut]
    rfl
  rw [lengthByte, if_pos hb, hpass, failFrame, scheduleReset, if_neg (by simp [hreset])]
  rfl

/-- A frame with a LENGTH above 32 goes out up to its LENGTH, and is counted (R9). -/
theorem exec_overlong (f : Frame) (kind length : Byte) (following : List Byte) (s : State) (h : ArrivesWhole f [] s)
    (hlength : 32 < length.toNat)
    (hown : FrameKind.ofByte kind = some .cue ∨ FrameKind.ofByte kind = some .remote → ownOrigin f s = false) :
    ∃ o, exec (.lengthAbove32 f kind length following) s =
        .next (onLine (undoProvisional (count .framingFail s)) (.stray false) o) ∧
      o.sent = [Config.sync, kind, f.target, f.origin, hopOut kind f.hop, length] := by
  let q := ((kindTarget kind f.target).push f.origin f.origin).push f.hop (hopOut kind f.hop)
  have hexec : exec (.lengthAbove32 f kind length following) s =
      .next (rxBytes (overlongBytes f kind length following) (freeLine s)) :=
    congrArg Host.Outcome.next (frameArrives_whole f [] Config.sync _ s h)
  have hbyte : ∀ t, frameByte q length t = lengthByte q length t := fun _ => rfl
  have hsplit : overlongBytes f kind length following =
      [Config.sync, kind, f.target, f.origin, f.hop] ++ (length :: following) := rfl
  rw [hexec, hsplit, rxBytes_append, rxBytes_upToHop f kind s hown, rxBytes_cons, rxByte_passing, hbyte, passingFree_eq_onLine,
    lengthByte_overlong _ _ _ _ _ _ hlength rfl rfl, noteByte_onLine, rxBytes_stray]
  exact ⟨_, rfl, (LoopOut.ticks_silent _ _ rfl rfl).2.2⟩

/-- On a quiet LOOP IN nothing provisional is there to be undone (R8). -/
theorem undoProvisional_of_quiet {s : State} (hlaw : ProvisionalLaw s) (hq : s.loop.rx = .quiet) (c : Counter) :
    undoProvisional (count c s) = count c s := by
  obtain ⟨hprov, hnumber⟩ := hlaw.none_of_quiet hq
  have hattn : (count c s).attn.drop = (count c s).attn := by
    simp [Attn.drop, count, Attn.count, ← hprov]
  have hloop : ({ (count c s).loop with provNumber := none } : LoopPort) = (count c s).loop := by
    rw [← hnumber]
    rfl
  rw [undoProvisional, hattn, hloop]

/-- Settles O8: HOP and CHECK pass as received, and the frame leaves nothing off the line but its count. -/
theorem unknownKindRepeatedUnchanged : Obligations.UnknownKindRepeatedUnchanged := by
  unfold Obligations.UnknownKindRepeatedUnchanged
  refine ⟨fun f kind payload s h hk => ?_, fun f kind length following s h hk hlength hlaw => ?_⟩
  · obtain ⟨r, hexec⟩ := exec_unknownKind f kind payload s h hk
    refine ⟨_, hexec, by simp [lineOut, unknownHeader, frameBytes], ?_, rfl⟩
    rw [onLine_offLine]
    exact count_offLine _ (by split <;> simp)
  · obtain ⟨o, hexec, hsent⟩ := exec_overlong f kind length following s h hlength (by simp [hk])
    refine ⟨_, hexec, ?_, ?_⟩
    · rw [onLine_out, hsent, hopOut, if_pos hk]
    · rw [onLine_offLine, undoProvisional_of_quiet hlaw h.2.1]

/-- Settles O4, from the line a good frame leaves, and a frame of an unknown kind. -/
theorem goodFrameLeavesLine : Obligations.GoodFrameLeavesLine := by
  unfold Obligations.GoodFrameLeavesLine
  refine ⟨exec_goodFrame_line, fun f kind payload s h hk => ?_⟩
  obtain ⟨r, hexec⟩ := exec_unknownKind f kind payload s h hk
  refine ⟨_, hexec, ?_, ?_⟩
  all_goals
    rw [onLine_loop]
    by_cases hc : f.check = goodCheck f kind payload
    · simp [hc, restartSilence_loop]
    · simp [hc]

end Sys2Proof.Machine

-- ==== Sys2Proof/Proofs/FramingFailures.lean ====
/-! PROOF. Idle time on LOOP IN, and the framing failures (R1, R2, R9). -/

namespace Sys2Proof.Machine

open Sys2Proof (Byte Frame)

/-! ### Time on the lines -/

/-- The part with the times of LOOP IN and all of LOOP OUT as given. -/
def lineAt (s : State) (idle bits space : Nat) (o : LoopOut) : State :=
  { s with loop := { s.loop with inIdle := idle, bits := bits, space := space }, out := o }

@[simp] theorem lineAt_offLine (s : State) (idle bits space : Nat) (o : LoopOut) : (lineAt s idle bits space o).offLine = s.offLine := rfl

@[simp] theorem lineAt_loop (s : State) (idle bits space : Nat) (o : LoopOut) :
    (lineAt s idle bits space o).loop = { s.loop with inIdle := idle, bits := bits, space := space } := rfl

@[simp] theorem lineAt_out (s : State) (idle bits space : Nat) (o : LoopOut) : (lineAt s idle bits space o).out = o := rfl

@[simp] theorem lineReady_offLine (s : State) : (lineReady s).offLine = s.offLine := rfl

/-- The longest idle time that ends nothing of what LOOP IN receives (R2). -/
def Rx.idleLimit : Rx → Nat
  | .quiet => 20
  | .stray _ => 19
  | .frame _ => 10

theorem endByIdle_within (s : State) (h : s.loop.inIdle ≤ s.loop.rx.idleLimit) : endByIdle s = s := by
  unfold endByIdle
  cases hrx : s.loop.rx with
  | quiet => rfl
  | stray =>
    simp only [hrx, Rx.idleLimit] at h
    exact if_neg (by simp only [Config.frameGap]; omega)
  | frame =>
    simp only [hrx, Rx.idleLimit] at h
    exact if_neg (by simp only [Config.byteTime]; omega)

theorem Rx.idleLimit_le (r : Rx) : r.idleLimit ≤ 20 := by
  cases r <;> simp [Rx.idleLimit]

/-- One more bit time of idle on a line at the mark level, no byte arriving (R1, R2). -/
theorem idleTick_mark (s : State) (hb : s.loop.bits = 0) (h0 : s.loop.space = 0) :
    idleTick s = endByIdle (lineAt s (min 20 (s.loop.inIdle + 1)) s.loop.bits s.loop.space s.out.tick) := by
  rw [idleTick, if_neg (by simp [h0]), if_pos hb]
  rfl

theorem idleTick_space (s : State) (h0 : s.loop.space ≠ 0) :
    idleTick s = lineAt s s.loop.inIdle s.loop.bits (s.loop.space - 1) s.out.tick := if_pos h0

/-- Idle time that ends nothing; what is left of a hold at the space level passes first (R1, R2). -/
theorem idleFor_within (n : Nat) (s : State) (hb : s.loop.bits = 0)
    (h : s.loop.inIdle + (n - s.loop.space) ≤ s.loop.rx.idleLimit) :
    idleFor n s = lineAt s (s.loop.inIdle + (n - s.loop.space)) s.loop.bits (s.loop.space - n) (s.out.ticks n) := by
  induction n generalizing s with
  | zero =>
    rw [Nat.zero_sub]
    rfl
  | succ n ih =>
    have hlimit := s.loop.rx.idleLimit_le
    by_cases h0 : s.loop.space = 0
    · have hmin : min 20 (s.loop.inIdle + 1) = s.loop.inIdle + 1 := by omega
      rw [idleFor, idleTick_mark s hb h0, hmin, endByIdle_within _ (by simp only [lineAt_loop]; omega),
        ih _ (by exact hb) (by simp only [lineAt_loop]; omega)]
      simp only [lineAt_loop, lineAt_out, h0]
      rw [show s.loop.inIdle + 1 + (n - 0) = s.loop.inIdle + (n + 1 - 0) by omega, Nat.zero_sub, Nat.zero_sub]
      rfl
    · rw [idleFor, idleTick_space s h0, ih _ (by exact hb) (by simp only [lineAt_loop]; omega)]
      simp only [lineAt_loop, lineAt_out]
      rw [show n - (s.loop.space - 1) = n + 1 - s.loop.space by omega, show s.loop.space - 1 - n = s.loop.space - (n + 1) by omega]
      rfl

/-- Time in which a quiet LOOP IN brings no byte is time on LOOP OUT, and no more than that is idle time (R1, R2). -/
theorem idleFor_lineAt (n : Nat) (s : State) (hq : s.loop.rx = .quiet) :
    ∃ idle bits space m, idleFor n s = lineAt s idle bits space (s.out.ticks m) ∧ idle ≤ s.loop.inIdle + n ∧ space ≤ s.loop.space := by
  have htick : ∀ s : State, s.loop.rx = .quiet → ∃ idle bits space m,
      idleTick s = lineAt s idle bits space (s.out.ticks m) ∧ idle ≤ s.loop.inIdle + 1 ∧ space ≤ s.loop.space := fun s hq => by
    by_cases h0 : s.loop.space = 0
    · by_cases hb : s.loop.bits = 0
      · refine ⟨min 20 (s.loop.inIdle + 1), s.loop.bits, s.loop.space, 1, ?_, by omega, Nat.le_refl _⟩
        rw [idleTick_mark s hb h0]
        exact endByIdle_within _ (by simp only [lineAt_loop, hq, Rx.idleLimit]; omega)
      · rw [idleTick, if_neg (by simp [h0]), if_neg hb, byteTick]
        split
        · exact ⟨s.loop.inIdle, s.loop.bits + 1, s.loop.space, 1, rfl, by omega, Nat.le_refl _⟩
        · exact ⟨s.loop.inIdle, s.loop.bits, s.loop.space, 0, rfl, by omega, Nat.le_refl _⟩
    · exact ⟨s.loop.inIdle, s.loop.bits, s.loop.space - 1, 1, idleTick_space s h0, by omega, by omega⟩
  induction n generalizing s with
  | zero => exact ⟨s.loop.inIdle, s.loop.bits, s.loop.space, 0, rfl, Nat.le_refl _, Nat.le_refl _⟩
  | succ n ih =>
    obtain ⟨idle, bits, space, m, h, hi, hs⟩ := htick s hq
    obtain ⟨idle', bits', space', m', h', hi', hs'⟩ := ih (lineAt s idle bits space (s.out.ticks m)) hq
    simp only [lineAt_loop, lineAt_out] at hi' hs' h'
    refine ⟨idle', bits', space', m + m', ?_, by omega, by omega⟩
    rw [idleFor, h, h', LoopOut.ticks_add]
    rfl

/-! ### Framing failures -/

/-- A framing failure leaves nothing off the line but its count, what was provisional being undone (R9). -/
theorem failFrame_offLine {s t : State} (p : Passage) (r : Rx) (h : s.offLine = t.offLine) :
    (failFrame p r s).offLine = (undoProvisional (count .framingFail t)).offLine := by
  have hline : (failFrame p r s).offLine = undoProvisional (count .framingFail s.offLine) := by
    unfold failFrame scheduleReset
    split <;> rfl
  rw [hline, h]
  rfl

theorem failFrame_loop (p : Passage) (r : Rx) (s : State) :
    (failFrame p r s).loop = { s.loop with rx := r, provNumber := none } := by
  unfold failFrame scheduleReset
  split <;> rfl

/-- A framing failure sends nothing (R9). -/
theorem failFrame_out (p : Passage) (r : Rx) (s : State) :
    (failFrame p r s).out.originating = s.out.originating ∧ (failFrame p r s).out.buffer = s.out.buffer ∧
    (failFrame p r s).out.sent = s.out.sent := by
  unfold failFrame scheduleReset
  split <;> exact ⟨rfl, rfl, rfl⟩

/-- A command that brings LOOP IN idle time or bytes begins, on lines with nothing to send, with nothing sent. -/
theorem lineReady_silent (s : State) (ho : s.out.originating = []) (hb : s.out.buffer = []) :
    (lineReady s).out.originating = [] ∧ (lineReady s).out.buffer = [] ∧ (lineReady s).out.sent = [] :=
  LoopOut.ticks_silent _ _ ho hb

theorem whenRunning_eq (g : State → State) {s : State} (h : s.power = .running) : whenRunning g s = g s := if_pos h

/-- A broken byte ends the frame in passage (R1, R9). -/
theorem exec_brokenByte (p : Passage) (s : State) (hp : s.power = .running) (hrx : s.loop.rx = .frame p)
    (ho : s.out.originating = []) (hb : s.out.buffer = []) :
    ∃ t, exec .brokenByte s = .next t ∧ t.loop.rx = .quiet ∧ t.loop.inIdle = 0 ∧ t.out.sent = [] ∧
      t.offLine = { undoProvisional (count .framingFail s) with openValues := s.openValues + 1 }.offLine := by
  let s1 : State := passByte { lineReady s with openValues := s.openValues + 1 }
  let held := Config.spaceHeld s.openValues
  have hrx1 : s1.loop.rx = .frame p := hrx
  have hexec : exec .brokenByte s =
      .next { noteByte (failFrame p .quiet s1) with loop := { (noteByte (failFrame p .quiet s1)).loop with space := held } } := by
    show Host.Outcome.next (whenRunning _ s) = _
    rw [whenRunning_eq _ hp]
    simp only [takeBrokenByte, show passByte { lineReady s with openValues := s.openValues + 1 } = s1 from rfl, hrx1]
    rfl
  obtain ⟨h1, h2, h3⟩ := lineReady_silent s ho hb
  have hsilent : s1.out.sent = [] := (LoopOut.ticks_silent _ _ h1 h2).2.2.trans h3
  refine ⟨_, hexec, ?_, rfl, ((failFrame_out p .quiet s1).2.2).trans hsilent, ?_⟩
  · show (failFrame p .quiet s1).loop.rx = _
    rw [failFrame_loop]
  · exact failFrame_offLine (s := s1) (t := { s with openValues := s.openValues + 1 }) p .quiet rfl

/-- Idle time of more than one byte time ends the frame in passage (R2, R9). -/
theorem exec_frameEndedEarly (p : Passage) (s : State) (hp : s.power = .running) (hrx : s.loop.rx = .frame p)
    (ho : s.out.originating = []) (hb : s.out.buffer = []) (hi : s.loop.inIdle ≤ 10) (hbits : s.loop.bits = 0) :
    ∃ t, exec .frameEndedEarly s = .next t ∧ t.loop.rx = .quiet ∧ t.out.sent = [] ∧
      t.offLine = (undoProvisional (count .framingFail s)).offLine := by
  obtain ⟨h1, h2, h3⟩ := lineReady_silent s ho hb
  let n := 10 - s.loop.inIdle
  let s1 : State := lineAt (lineReady s) 10 s.loop.bits 0 ((lineReady s).out.ticks n)
  let s2 : State := lineAt s1 11 s.loop.bits 0 s1.out.tick
  have hin : idleFor n (lineReady s) = s1 := by
    rw [idleFor_within n (lineReady s) hbits (by simp only [lineReady_loop, hrx, Rx.idleLimit]; omega)]
    simp only [lineReady_loop, Nat.sub_zero, Nat.zero_sub]
    rw [show s.loop.inIdle + n = 10 by omega]
  have hend : idleTick s1 = failFrame p .quiet s2 := by
    rw [idleTick_mark s1 hbits rfl, endByIdle]
    simp only [show (lineAt s1 (min 20 (s1.loop.inIdle + 1)) s1.loop.bits s1.loop.space s1.out.tick).loop.rx = .frame p from hrx]
    exact if_pos (Nat.lt_succ_self 10)
  have hloop := failFrame_loop p .quiet s2
  obtain ⟨idle, bits, space, m, hrest, -, -⟩ := idleFor_lineAt s.loop.inIdle (failFrame p .quiet s2) (by rw [hloop])
  have hexec : exec .frameEndedEarly s = .next (idleFor s.loop.inIdle (failFrame p .quiet s2)) := by
    show Host.Outcome.next (whenRunning _ s) = _
    rw [whenRunning_eq _ hp, Function.comp, show Config.byteTime + 1 = n + (1 + s.loop.inIdle) by simp only [Config.byteTime]; omega,
      idleFor_add, hin, idleFor_add]
    exact congrArg (fun t => Host.Outcome.next (idleFor s.loop.inIdle t)) hend
  obtain ⟨ho1, hb1, hs1⟩ := LoopOut.ticks_silent n _ h1 h2
  obtain ⟨ho2, hb2, hs2⟩ := LoopOut.ticks_silent 1 _ ho1 hb1
  obtain ⟨ho3, hb3, hs3⟩ := failFrame_out p .quiet s2
  rw [hrest] at hexec
  refine ⟨_, hexec, ?_, ?_, ?_⟩
  · rw [lineAt_loop, hloop]
  · obtain ⟨-, -, hs4⟩ := LoopOut.ticks_silent m _ (ho3.trans ho2) (hb3.trans hb2)
    exact hs4.trans (hs3.trans (hs2.trans (hs1.trans h3)))
  · rw [lineAt_offLine]
    exact failFrame_offLine p .quiet rfl

/-- Bytes that begin with no SYNC, or with one after less than two byte times of idle, are not repeated (R2). -/
theorem rxByte_quietStray (b : Byte) (s : State) (idle bits space : Nat) (o : LoopOut) (hq : s.loop.rx = .quiet)
    (h0 : space = 0) (hstray : b ≠ Config.sync ∨ idle < 20) :
    rxByte b (lineAt s idle bits space o) = onLine s (.stray true) (o.ticks (10 - bits)) := by
  subst h0
  have hpass : passByte (lineAt s idle bits 0 o) = lineAt s idle bits 0 (o.ticks (10 - bits)) := rfl
  have hno : ¬ (b = Config.sync ∧ Config.frameGap ≤ idle) := fun ⟨h1, h2⟩ =>
    hstray.elim (fun h => h h1) (fun h => absurd h2 (by simp only [Config.frameGap]; omega))
  simp only [rxByte, hpass, lineAt_loop, hq, quietByte, if_neg hno]
  rfl

/-- The second byte time of idle ends a run of stray bytes, and counts it (R2). -/
theorem idleTick_strayEnd (s : State) (o₀ o o' : LoopOut) (ho : o.tick = o') :
    idleTick (lineAt (onLine s (.stray true) o₀) 19 0 0 o) = lineAt (setRx .quiet (count .framingFail s)) 20 0 0 o' := by
  rw [idleTick_mark _ rfl rfl, endByIdle]
  simp only [lineAt_out, ho]
  rfl

/-- A run of stray bytes is counted once two byte times of idle have followed it (R2). -/
theorem idleFor_strayEnd (s : State) (o : LoopOut) :
    idleFor 20 (onLine s (.stray true) o) = lineAt (setRx .quiet (count .framingFail s)) 20 0 0 (o.ticks 20) := by
  have hidle : idleFor 19 (onLine s (.stray true) o) = lineAt (onLine s (.stray true) o) 19 0 0 (o.ticks 19) :=
    idleFor_within 19 _ rfl (Nat.le_refl 19)
  have hlast : idleFor 20 (onLine s (.stray true) o) = idleTick (idleFor 19 (onLine s (.stray true) o)) := idleFor_add 19 1 _
  rw [hlast, hidle]
  exact idleTick_strayEnd s _ _ _ (o.ticks_add 19 1).symm

/-- A run of stray bytes, ended by idle time, is not repeated, and is counted (R2). -/
theorem exec_strayByteRun (gap : Nat) (b : Byte) (bytes : List Byte) (s : State) (hp : s.power = .running)
    (hq : s.loop.rx = .quiet) (ho : s.out.originating = []) (hb : s.out.buffer = [])
    (hstray : b ≠ Config.sync ∨ s.loop.inIdle + gap < 20) :
    ∃ t, exec (.strayByteRun gap (b :: bytes)) s = .next t ∧ t.out.sent = [] ∧ t.loop.rx = .quiet ∧
      t.offLine = (count .framingFail s).offLine := by
  obtain ⟨h1, h2, h3⟩ := lineReady_silent s ho hb
  obtain ⟨idle, bits, space, m, hgap, hidle, hspace⟩ := idleFor_lineAt gap (lineReady s) hq
  simp only [lineReady_loop] at hidle hspace
  have hbyte := rxByte_quietStray b (lineReady s) idle bits space ((lineReady s).out.ticks m) hq (by simpa using hspace)
    (hstray.imp_right fun h => by omega)
  have hexec : exec (.strayByteRun gap (b :: bytes)) s = .next (idleFor 20 (rxBytes (b :: bytes) (idleFor gap (lineReady s)))) :=
    congrArg Host.Outcome.next (whenRunning_eq _ hp)
  rw [hgap, rxBytes_cons, hbyte, rxBytes_stray, idleFor_strayEnd, ← LoopOut.ticks_add, ← LoopOut.ticks_add, ← LoopOut.ticks_add] at hexec
  exact ⟨_, hexec, (LoopOut.ticks_silent _ _ h1 h2).2.2.trans h3, rfl, count_offLine _ (lineReady_offLine s)⟩

/-- Settles O15, one lemma for each of the failures. -/
theorem framingFailuresCount : Obligations.FramingFailuresCount := by
  unfold Obligations.FramingFailuresCount
  refine ⟨fun f kind length following s h hlength hlaw hown => ?_, fun n p s hp hrx ho hb hi hbits => ⟨?_, ?_, fun hn => ?_⟩,
    fun gap b bytes s hp hq ho hb hstray => exec_strayByteRun gap b bytes s hp hq ho hb hstray⟩
  · obtain ⟨o, hexec, hsent⟩ := exec_overlong f kind length following s h hlength hown
    refine ⟨_, hexec, hsent, rfl, ?_⟩
    rw [onLine_offLine, undoProvisional_of_quiet hlaw h.2.1]
  · exact exec_brokenByte p s hp hrx ho hb
  · exact exec_frameEndedEarly p s hp hrx ho hb hi hbits
  · have hidle := idleFor_within n (clearSent s) hbits (by
      rw [show (clearSent s).loop = s.loop from rfl, hrx]
      simp only [Rx.idleLimit]
      omega)
    exact ⟨_, congrArg Host.Outcome.next ((whenRunning_eq _ hp).trans hidle), hrx, rfl⟩

end Sys2Proof.Machine

-- ==== Sys2Proof/Proofs/Arbiter.lean ====
/-! PROOF. What LOOP OUT sends, and in which order: originated frames, and the bytes of the delay buffer (R16, R17, R18). -/

namespace Sys2Proof.Machine

open Sys2Proof (Byte Frame)

/-! ### One bit time of LOOP OUT -/

theorem LoopOut.bitTime_spec (o : LoopOut) :
    o.bitTime.left = o.left - 1 ∧ o.bitTime.idle = (if o.left = 0 then min 20 (o.idle + 1) else 0) ∧
    o.bitTime.originating = o.originating ∧ o.bitTime.buffer = o.buffer ∧ o.bitTime.sent = o.sent := by
  unfold LoopOut.bitTime
  split
  · next h => exact ⟨by simp [h], rfl, rfl, rfl, rfl⟩
  · exact ⟨rfl, rfl, rfl, rfl, rfl⟩

/-- All that can begin on LOOP OUT: nothing, the next byte of the originated frame, or the next byte of the delay buffer (R17, R18). -/
theorem LoopOut.next_cases (o : LoopOut) :
    (o.next = o ∧ (o.left = 0 → o.originating = [] ∧ (o.buffer ≠ [] → o.idle < 20))) ∨
    (∃ b rest, o.left = 0 ∧ o.originating = b :: rest ∧ o.next = { o.send b with originating := rest }) ∨
    (∃ d rest, o.left = 0 ∧ o.originating = [] ∧ o.buffer = d :: rest ∧ o.next = { o.send d.byte with buffer := rest }) := by
  unfold LoopOut.next
  by_cases h0 : o.left = 0
  · rw [if_neg (by simp [h0])]
    cases horig : o.originating with
    | cons b rest => exact .inr (.inl ⟨b, rest, h0, rfl, rfl⟩)
    | nil => cases hbuf : o.buffer with
      | nil => exact .inl ⟨rfl, fun _ => ⟨rfl, fun h => absurd rfl h⟩⟩
      | cons d rest =>
        by_cases hw : d.first = true ∧ o.idle < Config.frameGap
        · exact .inl ⟨if_pos hw, fun _ => ⟨rfl, fun _ => hw.2⟩⟩
        · exact .inr (.inr ⟨d, rest, h0, rfl, rfl, if_neg hw⟩)
  · exact .inl ⟨if_pos h0, fun h => absurd h h0⟩

/-! ### No byte is lost or added -/

/-- The bytes that have begun in this command or wait on LOOP OUT, in their order. -/
def LoopOut.bytes (o : LoopOut) : List Byte := o.sent ++ o.originating ++ o.buffer.map Delayed.byte

theorem LoopOut.tick_bytes (o : LoopOut) : o.tick.bytes = o.bytes := by
  obtain ⟨-, -, horig, hbuf, hsent⟩ := o.bitTime_spec
  have hbit : o.bitTime.bytes = o.bytes := by rw [LoopOut.bytes, horig, hbuf, hsent, LoopOut.bytes]
  rw [← hbit]
  rcases o.bitTime.next_cases with ⟨h, -⟩ | ⟨b, rest, -, ho, h⟩ | ⟨d, rest, -, ho, hb, h⟩
  · rw [LoopOut.tick, h]
  · simp [LoopOut.tick, h, LoopOut.bytes, LoopOut.send, ho]
  · simp [LoopOut.tick, h, LoopOut.bytes, LoopOut.send, ho, hb]

/-- Time on LOOP OUT loses and adds no byte (R18). -/
theorem LoopOut.ticks_bytes (n : Nat) (o : LoopOut) : (o.ticks n).bytes = o.bytes := by
  induction n generalizing o with
  | zero => rfl
  | succ n ih => rw [LoopOut.ticks, ih, o.tick_bytes]

/-- An empty delay buffer stays empty (R18). -/
theorem LoopOut.ticks_buffer (n : Nat) (o : LoopOut) (hb : o.buffer = []) : (o.ticks n).buffer = [] := by
  induction n generalizing o with
  | zero => exact hb
  | succ n ih =>
    refine ih o.tick ?_
    obtain ⟨-, -, -, hbuf, -⟩ := o.bitTime_spec
    rcases o.bitTime.next_cases with ⟨h, -⟩ | ⟨b, rest, -, -, h⟩ | ⟨d, rest, -, -, hd, -⟩
    · rw [LoopOut.tick, h, hbuf, hb]
    · rw [LoopOut.tick, h, ← hb, ← hbuf]
      rfl
    · simp [← hbuf, hd] at hb

/-! ### How long LOOP OUT is taken -/

/-- The bit times an originated frame takes LOOP OUT yet go by one at a time (R17). -/
theorem LoopOut.ticks_originating (n : Nat) (o : LoopOut) :
    o.left + 10 * o.originating.length ≤ (o.ticks n).left + 10 * (o.ticks n).originating.length + n := by
  induction n generalizing o with
  | zero => exact Nat.le_refl _
  | succ n ih =>
    have hrest := ih o.tick
    have htick : o.left + 10 * o.originating.length ≤ o.tick.left + 10 * o.tick.originating.length + 1 := by
      obtain ⟨hleft, -, horig, -, -⟩ := o.bitTime_spec
      rcases o.bitTime.next_cases with ⟨h, -⟩ | ⟨b, rest, h0, ho, h⟩ | ⟨d, rest, h0, ho, -, h⟩
      · rw [LoopOut.tick, h, hleft, horig]
        omega
      · simp only [LoopOut.tick, h, ← horig, ho, List.length_cons, LoopOut.send, Config.byteTime]
        omega
      · simp only [LoopOut.tick, h, ← horig, ho, LoopOut.send, Config.byteTime, List.length_nil]
        omega
    rw [LoopOut.ticks]
    omega

/-- LOOP OUT as a bit time leaves it: an originated frame goes on at once, and a delayed byte waits for two byte times of idle at most
(R17, R18). -/
def LoopOut.Settled (o : LoopOut) : Prop :=
  (o.left = 0 → o.originating = []) ∧ (o.left = 0 → o.buffer ≠ [] → o.idle < 20)

/-- The most bit times LOOP OUT may need until all that waits is sent: each delayed byte its own ten, and twenty of idle before it. -/
def LoopOut.work (o : LoopOut) : Nat :=
  o.left + 10 * o.originating.length + 30 * o.buffer.length - (if o.left = 0 ∧ o.buffer ≠ [] then o.idle else 0)

theorem LoopOut.tick_settled (o : LoopOut) : o.tick.Settled := by
  rcases o.bitTime.next_cases with ⟨h, hfree⟩ | ⟨b, rest, -, -, h⟩ | ⟨d, rest, -, -, -, h⟩
  · rw [LoopOut.tick, h]
    exact ⟨fun h0 => (hfree h0).1, fun h0 => (hfree h0).2⟩
  all_goals
    rw [LoopOut.tick, h]
    exact ⟨fun h0 => absurd h0 (by simp [LoopOut.send, Config.byteTime]), fun h0 => absurd h0 (by simp [LoopOut.send, Config.byteTime])⟩

/-- The first bit time takes one off the bytes that wait, at the most they can need. -/
theorem LoopOut.work_tick_le (o : LoopOut) (hl : o.left ≤ 10) :
    o.tick.work + 1 ≤ 10 + 10 * o.originating.length + 30 * o.buffer.length := by
  obtain ⟨hleft, -, horig, hbuf, -⟩ := o.bitTime_spec
  rw [← horig, ← hbuf, LoopOut.tick]
  rcases o.bitTime.next_cases with ⟨h, -⟩ | ⟨b, rest, h0, ho, h⟩ | ⟨d, rest, h0, ho, hb, h⟩
  · rw [h, LoopOut.work]
    omega
  · simp only [h, LoopOut.work, LoopOut.send, Config.byteTime, ho, List.length_cons]
    omega
  · simp only [h, LoopOut.work, LoopOut.send, Config.byteTime, ho, hb, List.length_cons]
    omega

/-- Each bit time that follows takes one off the work. -/
theorem LoopOut.work_tick (o : LoopOut) (hs : o.Settled) : o.tick.work ≤ o.work - 1 := by
  obtain ⟨horiginated, hdelayed⟩ := hs
  obtain ⟨hleft, hidle, horig, hbuf, -⟩ := o.bitTime_spec
  have hpos : o.buffer ≠ [] → 0 < o.buffer.length := List.length_pos_iff.2
  have hlen : o.left = 0 → o.originating.length = 0 := fun h0 => by rw [horiginated h0, List.length_nil]
  rw [LoopOut.tick]
  rcases o.bitTime.next_cases with ⟨h, -⟩ | ⟨b, rest, h0, ho, h⟩ | ⟨d, rest, h0, ho, hb, h⟩
  · rw [h]
    simp only [LoopOut.work, hleft, hidle, horig, hbuf]
    by_cases hb : o.buffer = []
    · simp only [hb, List.length_nil, ne_eq, not_true, and_false, if_false]
      omega
    · have := hpos hb
      by_cases h0 : o.left = 0
      · have := hdelayed h0 hb
        have := hlen h0
        simp [h0, hb]
        omega
      · simp only [h0, false_and, if_false, ite_self]
        omega
  · rw [horig] at ho
    have h1 : o.left ≠ 0 := fun hz => by simp [horiginated hz] at ho
    simp only [LoopOut.work, h, LoopOut.send, Config.byteTime, hbuf, ho, h1, List.length_cons, false_and, if_false]
    omega
  · rw [hbuf] at hb
    rw [horig] at ho
    simp only [LoopOut.work, h, LoopOut.send, Config.byteTime, horig, ho, hb, List.length_cons, List.length_nil]
    by_cases hz : o.left = 0
    · have := hdelayed hz (by simp [hb])
      simp [hz]
      omega
    · simp [hz]
      omega

/-- Once no work is left, nothing waits and the line is free. -/
theorem LoopOut.done_of_work (o : LoopOut) (hs : o.Settled) (h : o.work = 0) :
    o.originating = [] ∧ o.buffer = [] ∧ o.left = 0 := by
  have hbuf : o.buffer = [] := by
    by_contra hne
    have hpos := List.length_pos_iff.2 hne
    have hwait := hs.2
    unfold LoopOut.work at h
    split at h
    · next hw => have := hwait hw.1 hne; omega
    · omega
  have hleft : o.left = 0 := by
    simp only [LoopOut.work, hbuf, ne_eq, not_true, and_false, if_false] at h
    omega
  exact ⟨hs.1 hleft, hbuf, hleft⟩

/-- All that waits on LOOP OUT is sent in the time its bytes need (R17, R18). -/
theorem LoopOut.ticks_done (n : Nat) (o : LoopOut) (hl : o.left ≤ 10)
    (hn : 10 + 10 * o.originating.length + 30 * o.buffer.length ≤ n) :
    (o.ticks n).originating = [] ∧ (o.ticks n).buffer = [] ∧ (o.ticks n).left = 0 := by
  have hrun : ∀ m (o : LoopOut), o.Settled → (o.ticks m).Settled ∧ (o.ticks m).work ≤ o.work - m := by
    intro m
    induction m with
    | zero => exact fun o hs => ⟨hs, Nat.le_refl _⟩
    | succ m ih =>
      intro o hs
      obtain ⟨hsettled, hwork⟩ := ih o.tick o.tick_settled
      have := o.work_tick hs
      exact ⟨hsettled, by rw [LoopOut.ticks]; omega⟩
  obtain ⟨m, rfl⟩ : ∃ m, n = m + 1 := ⟨n - 1, by omega⟩
  obtain ⟨hsettled, hwork⟩ := hrun m o.tick o.tick_settled
  have hfirst := o.work_tick_le hl
  exact LoopOut.done_of_work (o.tick.ticks m) hsettled (by omega)

/-! ### Originated frames -/

theorem exec_originatedFrameStart (idle : Nat) (s : State) (hp : s.power = .running) :
    exec (.originatedFrameStart idle) s = .next (startOriginated (idleFor idle (clearSent s))) :=
  congrArg Host.Outcome.next (whenRunning_eq _ hp)

/-- On a line that is taken, or idle for less than two byte times, or while a frame is in passage, no frame begins (R17). -/
theorem mayOriginate_false (s : State)
    (h : s.out.left ≠ 0 ∨ s.out.idle < 20 ∨ s.out.buffer ≠ [] ∨ s.out.originating ≠ [] ∨ s.loop.rx.noFrame = false) :
    mayOriginate s = false := by
  rcases h with h | h | h | h | h
  · simp [mayOriginate, LoopOut.freeFor, h]
  · simp [mayOriginate, LoopOut.freeFor, Config.frameGap, Nat.not_le.2 h]
  · simp [mayOriginate, LoopOut.freeFor, h]
  · simp [mayOriginate, LoopOut.freeFor, h]
  · simp [mayOriginate, h]

theorem startOriginated_of_not (s : State) (h : mayOriginate s = false) : startOriginated s = s := by
  simp [startOriginated, h]

theorem startOriginated_of_empty (s : State) (h : s.loop.origQueue = []) : startOriginated s = s := by
  unfold startOriginated
  rw [h]
  split <;> rfl

/-- LOOP OUT free for two byte times, nothing sent yet in this command (R17). -/
structure LoopOut.Free (o : LoopOut) : Prop where
  left : o.left = 0
  idle : 20 ≤ o.idle
  originating : o.originating = []
  buffer : o.buffer = []
  sent : o.sent = []

/-- The time that goes before an originated frame brings LOOP OUT to rest, or finds it so (R1, R17). -/
theorem idleFor_free (idle : Nat) (s : State) (ho : s.out.originating = []) (hb : s.out.buffer = [])
    (h : (s.loop.rx = .quiet ∧ s.loop.bits = 0 ∧ s.out.left ≤ 10 ∧ 30 ≤ idle) ∨
      (s.loop.rx.noFrame = true ∧ s.out.left = 0 ∧ 20 ≤ s.out.idle ∧ idle = 0)) :
    ∃ i o, idleFor idle (clearSent s) = lineAt s i s.loop.bits (s.loop.space - idle) o ∧ o.Free ∧ s.loop.rx.noFrame = true := by
  rcases h with ⟨hq, hbits, hl, hn⟩ | ⟨hrx, hl, hi, rfl⟩
  · refine ⟨if idle ≤ s.loop.space then s.loop.inIdle else min 20 (s.loop.inIdle + (idle - s.loop.space)),
      ({ s.out with sent := [] } : LoopOut).rest, ?_, ⟨rfl, Nat.le_refl 20, ho, hb, rfl⟩, by rw [hq]; rfl⟩
    rw [idleFor_held idle (clearSent s) hq hbits, ← LoopOut.ticks_rest idle _ (by exact ho) (by exact hb) (by exact hl) hn]
    rfl
  · exact ⟨s.loop.inIdle, { s.out with sent := [] }, rfl, ⟨hl, hi, ho, hb, rfl⟩, hrx⟩

/-- The bytes of an originated frame behind its SYNC (R16). -/
def originatedTail (x : OrigFrame) (s : State) : List Byte :=
  let body := match x with
    | .cue n => [0x11#8, 0#8, byteOf (stationNumber s), nextHop s.loop.position, 2#8, 255#8, byteOf n]
    | .remote k => [0x66#8, 0#8, byteOf (stationNumber s), nextHop s.loop.position, 2#8, byteOf (keyCode k), byteOf (stationNumber s)]
  body ++ [crc body]

theorem originatedBytes_eq (x : OrigFrame) (s : State) : originatedBytes x s = Config.sync :: originatedTail x s := by
  cases x <;> rfl

theorem originatedTail_length (x : OrigFrame) (s : State) : (originatedTail x s).length = 8 := by
  cases x <;> rfl

/-- LOOP OUT with the first byte of an originated frame on it (R17). -/
def LoopOut.originate (o : LoopOut) (tail : List Byte) : LoopOut :=
  { o with originating := tail, left := 10, idle := 0, sent := [Config.sync] }

/-- The head of the queue begins on a free LOOP OUT (R16, R17). -/
theorem startOriginated_free (x : OrigFrame) (rest : List OrigFrame) (s : State) (i b sp : Nat) (o : LoopOut) (ho : o.Free)
    (hrx : s.loop.rx.noFrame = true) (hqueue : s.loop.origQueue = x :: rest) :
    startOriginated (lineAt s i b sp o) =
      lineAt { s with loop := { s.loop with origQueue := rest } } i b sp (o.originate (originatedTail x s)) := by
  have hmay : mayOriginate (lineAt s i b sp o) = true := by
    simp [mayOriginate, LoopOut.freeFor, hrx, ho.left, ho.originating, ho.buffer, ho.idle, Config.frameGap]
  have hbytes : originatedBytes x (lineAt s i b sp o) = Config.sync :: originatedTail x s := originatedBytes_eq x (lineAt s i b sp o)
  have hnext : ({ o with originating := Config.sync :: originatedTail x s } : LoopOut).next = o.originate (originatedTail x s) := by
    simp [LoopOut.next, ho.left, LoopOut.originate, LoopOut.send, ho.sent, Config.byteTime]
  rw [startOriginated, if_pos hmay]
  simp only [lineAt_loop, lineAt_out, hqueue, hbytes, hnext]
  rfl

/-- A byte of a frame that may not go out yet waits in the delay buffer (R18). -/
theorem emit_delayed (b : Byte) (first : Bool) (s : State) (hcut : s.out.cut = false) (hno : s.out.freeFor first = false)
    (hroom : s.out.buffer.length < Config.delayCapacity) :
    emit b first s = { s with out := { s.out with buffer := s.out.buffer ++ [⟨b, first⟩] } } := by
  simp [emit, hcut, hno, hroom]

/-- A SYNC that comes while an originated frame is being sent is taken, and waits behind that frame in the delay buffer (R17, R18). -/
theorem beginFrame_delayed (s : State) (hb : s.out.buffer = []) (htaken : s.out.left ≠ 0 ∨ s.out.originating ≠ []) :
    beginFrame s = { setRx (.frame Passage.start) s with
      out := { s.out with cut := false, buffer := [⟨Config.sync, true⟩] } } := by
  let s' : State := setRx (.frame Passage.start) { s with out := { s.out with cut := false } }
  have hno : s'.out.freeFor true = false := by
    rcases htaken with h | h <;> simp [s', setRx, LoopOut.freeFor, h]
  have hbuffer : s'.out.buffer = [] := hb
  have hemit := emit_delayed Config.sync true s' rfl hno (by rw [hbuffer]; decide)
  rw [hbuffer] at hemit
  exact hemit

/-- The SYNC of a passing frame, received whole within ten bit times of the start of an originated frame (R17, R18). -/
theorem exec_syncBehindOriginated (f : Frame) (payload tail : List Byte) (t : State) (o : LoopOut) (hp : t.power = .running)
    (hq : t.loop.rx = .quiet) (hi : 20 ≤ t.loop.inIdle) (h0 : t.loop.space = 0) (hb : o.buffer = [])
    (hout : t.out = o.originate tail) (htail : tail ≠ [])
    (hgap : f.gap = 0) (hskip : f.skip = 0) (htake : f.take = some 1) (hbits : f.bits = 0) :
    ∃ u, exec (.cueFrame f payload) t = .next u ∧ u.loop.rx = .frame Passage.start ∧
      u.out.buffer = [⟨Config.sync, true⟩] ∧ u.out.sent ++ u.out.originating = tail := by
  let o1 : LoopOut := { o.originate tail with sent := [] }
  let s1 : State := passByte (lineReady t)
  have hs1 : s1.out = o1.ticks (10 - t.loop.bits) := by
    show (LoopOut.ticks t.loop.space { t.out with sent := [] }).ticks _ = _
    rw [h0, hout]
    rfl
  have hexec : exec (.cueFrame f payload) t = .next (noteByte (beginFrame s1)) := by
    have hpart : framePart f (frameBytes f FrameKind.cue.code payload FrameKind.cue.hasTrailer) = [Config.sync] := by
      rw [framePart, htake, hskip]
      rfl
    have hquiet : s1.loop.rx = .quiet := hq
    have hbyte : quietByte Config.sync s1 = beginFrame s1 := if_pos ⟨rfl, hi⟩
    show Host.Outcome.next (whenRunning _ t) = _
    rw [whenRunning_eq _ hp, knownFrame, frameArrives, hpart, hgap, hbits]
    simp only [idleFor, rxBytes_cons, rxBytes_nil, byteFor, rxByte]
    rw [show (passByte (lineReady t)) = s1 from rfl, hquiet]
    exact congrArg (fun u => Host.Outcome.next (noteByte u)) hbyte
  have hbytes : s1.out.sent ++ s1.out.originating ++ s1.out.buffer.map Delayed.byte = tail := by
    have := o1.ticks_bytes (10 - t.loop.bits)
    rw [← hs1] at this
    refine this.trans ?_
    show [] ++ tail ++ o.buffer.map _ = tail
    simp [hb]
  have hbuffer : s1.out.buffer = [] := by rw [hs1]; exact LoopOut.ticks_buffer _ _ hb
  have htaken : s1.out.left ≠ 0 ∨ s1.out.originating ≠ [] := by
    have hwork := o1.ticks_originating (10 - t.loop.bits)
    rw [← hs1] at hwork
    have hpos : 0 < tail.length := List.length_pos_iff.2 htail
    by_contra hnone
    simp only [not_or, not_not] at hnone
    rw [hnone.1, hnone.2, List.length_nil] at hwork
    have : o1.left + 10 * o1.originating.length = 10 + 10 * tail.length := rfl
    omega
  rw [beginFrame_delayed s1 hbuffer htaken] at hexec
  refine ⟨_, hexec, rfl, rfl, ?_⟩
  rw [hbuffer] at hbytes
  simpa using hbytes

/-- Settles O16, from what may begin on LOOP OUT, and from what LOOP OUT does in time. -/
theorem loopOutSendsInOrder : Obligations.LoopOutSendsInOrder := by
  unfold Obligations.LoopOutSendsInOrder
  refine ⟨fun idle x rest f payload s hp ho hb hqueue h => ?_, fun s hp h => ?_, fun idle s hp hq => ?_⟩
  · obtain ⟨i, o, hidle, hfree, hrx⟩ := idleFor_free idle s ho hb h
    have hexec := exec_originatedFrameStart idle s hp
    rw [hidle, startOriginated_free x rest s i _ _ o hfree hrx hqueue] at hexec
    have htail : originatedTail x s ≠ [] := List.ne_nil_of_length_pos (by rw [originatedTail_length]; decide)
    exact ⟨_, hexec, rfl, hfree.buffer, rfl, rfl, rfl, rfl, rfl, rfl, fun hq hi h0 _ hgap hskip htake hbits =>
      exec_syncBehindOriginated f payload (originatedTail x s) _ o hp hq hi h0 hfree.buffer rfl htail hgap hskip htake hbits⟩
  · rw [exec_originatedFrameStart 0 s hp]
    refine congrArg Host.Outcome.next ?_
    by_cases hqueue : s.loop.origQueue = []
    · exact startOriginated_of_empty (clearSent s) hqueue
    · exact startOriginated_of_not (clearSent s) (mayOriginate_false (clearSent s) (by tauto))
  · have hexec : exec (.delayBufferSend idle) s = .next (idleFor idle (clearSent s)) :=
      congrArg Host.Outcome.next (whenRunning_eq _ hp)
    obtain ⟨i, b, sp, m, hline, -, -⟩ := idleFor_lineAt idle (clearSent s) hq
    refine ⟨_, hexec, ?_, fun hbits hl hn => ?_, ?_, ?_⟩
    · rw [hline]
      exact LoopOut.ticks_bytes m (clearSent s).out
    · rw [idleFor_held idle (clearSent s) hq hbits]
      exact LoopOut.ticks_done idle (clearSent s).out hl hn
    · rw [hline]
      exact hq
    · rw [hline]
      rfl

end Sys2Proof.Machine

-- ==== Sys2Proof/Proofs/ScheduleLaw.lean ====
/-! PROOF. Every step keeps the law of the scheduled list (R44): the operations that write the list keep it, every other one leaves the
list as it is, and a command is made of these. -/

namespace Sys2Proof.Machine

open Sys2Proof (Byte Key KeySamples Frame Instr Readings)

/-! ### Steps as they enter the list (R25, R26) -/

theorem clampArg_le (v : Verb) (a : Nat) : clampArg v a ≤ a := by
  cases v <;> simp [clampArg]

theorem clampArg_idem (v : Verb) (a : Nat) : clampArg v (clampArg v a) = clampArg v a := by
  cases v <;> simp [clampArg]

/-- A clamp never makes a step null, nor a null step not null. -/
theorem nullStep_clampArg (v : Verb) (a : Nat) : nullStep v (clampArg v a) = nullStep v a := by
  cases v
  case advance | reverse =>
    rw [Bool.eq_iff_iff]
    simp only [nullStep, clampArg, beq_iff_eq]
    omega
  all_goals rfl

/-- All that the bytes of a step can give (R25, R26). -/
theorem Step.ofBytes_spec (verb a b : Byte) :
    Step.ofBytes verb a b =
      match Verb.ofCode verb.toNat with
      | none => none
      | some v => if nullStep v a.toNat = true then none else some ⟨v, clampArg v a.toNat, b.toNat⟩ := rfl

/-- A step that bytes give is not null, its arguments are clamped, and each fits its byte (R25, R26). -/
theorem Step.sound_of_ofBytes {verb a b : Byte} {st : Step} (h : Step.ofBytes verb a b = some st) :
    nullStep st.verb st.a = false ∧ clampArg st.verb st.a = st.a ∧ st.a ≤ 255 ∧ st.b ≤ 255 := by
  rw [Step.ofBytes_spec] at h
  split at h
  · exact absurd h nofun
  · next v _ =>
    split at h
    · exact absurd h nofun
    · next hnull =>
      obtain rfl := Option.some.inj h
      have ha : clampArg v a.toNat ≤ a.toNat := clampArg_le v a.toNat
      have ha' := a.isLt
      have hb := b.isLt
      refine ⟨(nullStep_clampArg v a.toNat).trans (by simpa using hnull), clampArg_idem v a.toNat, ?_, ?_⟩ <;>
        dsimp only <;> omega

/-- The record with which a step of a cue enters the list is sound, whatever its delay (R39, R44). -/
theorem entryRecord_sound {verb a b : Byte} {st : Step} (h : Step.ofBytes verb a b = some st) (delay : Byte) (cue : Nat) :
    Record.sound ⟨entryTime st.verb delay.toNat, st.verb, st.a, st.b, cue⟩ := by
  obtain ⟨hnull, hclamp, ha, hb⟩ := Step.sound_of_ofBytes h
  have hdelay := delay.isLt
  refine ⟨hnull, hclamp, ha, hb, ?_⟩
  dsimp only [entryTime]
  split <;> omega

/-! ### The law from one state to another -/

/-- What leads from `s` to `t` keeps the law of the list. -/
def ScheduleKept (s t : State) : Prop := ScheduleLaw s → ScheduleLaw t

theorem ScheduleKept.refl (s : State) : ScheduleKept s s := id

theorem ScheduleKept.trans {s t u : State} (h : ScheduleKept s t) (h' : ScheduleKept t u) : ScheduleKept s u := h' ∘ h

/-- The law speaks of the list alone. -/
theorem ScheduleKept.of_schedule {s t : State} (h : t.disp.schedule = s.disp.schedule) : ScheduleKept s t := by
  intro hs
  rwa [ScheduleLaw, h]

theorem ScheduleKept.of_disp {s t : State} (h : t.disp = s.disp) : ScheduleKept s t := .of_schedule (by rw [h])

/-- The empty list meets the law. -/
theorem ScheduleKept.of_empty {s t : State} (h : t.disp.schedule = []) : ScheduleKept s t := by
  intro _
  simp [ScheduleLaw, h]

/-- A list whose records were there before, in the same order, meets the law. -/
theorem ScheduleKept.of_sublist {s t : State} (h : t.disp.schedule.Sublist s.disp.schedule) : ScheduleKept s t := by
  rintro ⟨hlen, hsorted, hsound⟩
  exact ⟨Nat.le_trans h.length_le hlen, hsorted.sublist h, fun r hr => hsound r (h.subset hr)⟩

theorem ScheduleKept.from_disp {s t u : State} (h : ScheduleKept t u) (ht : t.disp = s.disp) : ScheduleKept s u :=
  (ScheduleKept.of_disp ht).trans h

theorem ScheduleKept.ite {s t u : State} {c : Prop} [Decidable c] (ht : ScheduleKept s t) (hu : ScheduleKept s u) :
    ScheduleKept s (if c then t else u) := by
  split
  · exact ht
  · exact hu

theorem ScheduleKept.whenRunning {f : State → State} {s : State} (h : ScheduleKept s (f s)) :
    ScheduleKept s (whenRunning f s) := .ite h (.refl s)

/-- A fold keeps the law if each of its steps does. -/
theorem ScheduleKept.foldl {α : Type} {f : State → α → State} (h : ∀ s a, ScheduleKept s (f s a)) (l : List α) (s : State) :
    ScheduleKept s (l.foldl f s) := by
  induction l generalizing s with
  | nil => exact .refl s
  | cons a l ih => exact (h s a).trans (ih (f s a))

/-! ### The operations that write the list -/

/-- A sound record that enters the list keeps the law; a full list refuses it (R44, R45). -/
theorem schedule_kept {r : Record} (hr : r.sound) (s : State) : ScheduleKept s (schedule r s) := by
  rw [schedule_spec]
  split
  · exact .of_disp rfl
  · next hroom =>
    rintro ⟨-, hsorted, hsound⟩
    refine ⟨?_, insertRecord_sorted r _ hsorted, fun x hx => ?_⟩
    · rw [insertRecord_length]
      omega
    · rcases (mem_insertRecord r x _).1 hx with rfl | hx
      · exact hr
      · exact hsound x hx

/-- A tenth less on every record keeps their order (R46). -/
theorem tickRecords_kept (s : State) : ScheduleKept s (tickRecords s) := by
  rintro ⟨hlen, hsorted, hsound⟩
  refine ⟨by simpa [tickRecords] using hlen, List.pairwise_map.2 (hsorted.imp fun {x y} h => Nat.sub_le_sub_right h 1), fun x hx => ?_⟩
  obtain ⟨r, hr, rfl⟩ := List.mem_map.1 hx
  obtain ⟨hnull, hclamp, ha, hb, ht⟩ := hsound r hr
  exact ⟨hnull, hclamp, ha, hb, Nat.le_trans (Nat.sub_le _ _) ht⟩

theorem routeStep_kept (st : Step) (o : Origin) (s : State) : ScheduleKept s (routeStep st o s) := .of_disp (by simp)

theorem recordCue_kept (cue : Nat) (src : CueSource) (s : State) : ScheduleKept s (recordCue cue src s) := .of_schedule rfl

theorem expandStep_kept (cue : Nat) (s : State) (p : PoolStep) : ScheduleKept s (expandStep cue s p) := by
  unfold expandStep
  split
  · exact .refl s
  · next st hst => exact .ite (routeStep_kept st .ofShow s) (schedule_kept (entryRecord_sound hst p.delay cue) s)

theorem loadedCue_kept (cue : Nat) (src : CueSource) (s : State) : ScheduleKept s (loadedCue cue src s) :=
  .ite (.of_disp rfl) ((recordCue_kept cue src s).trans (.foldl (expandStep_kept cue) _ _))

theorem commitCue_kept (src : CueSource) (s : State) : ScheduleKept s (commitCue src s) :=
  .ite (.of_disp rfl) (.of_schedule rfl)

theorem stepCue_kept (cue : Nat) (v : Verb) (hv : v = .advance ∨ v = .reverse) (src : CueSource) (s : State) :
    ScheduleKept s (stepCue cue v src s) := by
  have hsound : Record.sound ⟨0, v, 1, 0, cue⟩ := by
    rcases hv with rfl | rfl <;> exact ⟨rfl, rfl, by simp, by simp, by simp⟩
  exact (recordCue_kept cue src s).trans (.ite (routeStep_kept _ .ofShow _) (schedule_kept hsound _))

theorem endOfShow_kept (s : State) : ScheduleKept s (endOfShow s) :=
  .of_empty (by simp [endOfShow, emptySchedule])

/-- A cue arrival keeps the law if what a RESUME does keeps it (R36 to R40). -/
theorem cueArrivalWith_kept {resume : State → State} (h : ∀ s, ScheduleKept s (resume s)) (cue : Nat) (src : CueSource) (s : State) :
    ScheduleKept s (cueArrivalWith resume cue src s) := by
  have hrecord := recordCue_kept cue src s
  have hcount : ∀ k, ScheduleKept s (count k s) := fun k => .of_disp rfl
  exact .ite (hcount _) <| .ite (hcount _) <| .ite (loadedCue_kept cue src s) <| .ite (hrecord.trans (.of_disp (by simp))) <|
    .ite (hrecord.trans (h _)) <| .ite (commitCue_kept src s) <| .ite (hrecord.trans (endOfShow_kept _)) <|
    .ite (hrecord.trans (routeStep_kept _ .ofShow _)) <| .ite (stepCue_kept cue .advance (.inl rfl) src s) <|
    .ite (stepCue_kept cue .reverse (.inr rfl) src s) (hcount _)

theorem routeRecord_kept (r : Record) (s : State) : ScheduleKept s (routeRecord r s) :=
  .ite (cueArrivalWith_kept .refl r.a .follow s) (routeStep_kept _ .ofShow s)

/-- A record that leaves the list leaves the law (R47). -/
theorem routeDueUpTo_kept (n : Nat) (s : State) : ScheduleKept s (routeDueUpTo n s) := by
  induction n generalizing s with
  | zero => exact .refl s
  | succ n ih =>
    unfold routeDueUpTo
    split
    · exact .refl s
    · next r rest hrest =>
      have htail : ScheduleKept s { s with disp := { s.disp with schedule := rest } } :=
        .of_sublist (by rw [hrest]; exact List.sublist_cons_self r rest)
      exact .ite (htail.trans ((routeRecord_kept r _).trans (ih _))) (.refl s)

theorem routeDue_kept (s : State) : ScheduleKept s (routeDue s) := routeDueUpTo_kept _ s

theorem resumeEvent_kept (s : State) : ScheduleKept s (resumeEvent s) :=
  .ite ((ScheduleKept.of_disp (by simp)).trans (routeDue_kept _)) (.refl s)

theorem cueArrival_kept (cue : Nat) (src : CueSource) (s : State) : ScheduleKept s (cueArrival cue src s) :=
  cueArrivalWith_kept resumeEvent_kept cue src s

theorem holdToggle_kept (s : State) : ScheduleKept s (holdToggle s) := .ite (resumeEvent_kept s) (.of_disp (by simp))

theorem showTick_kept (s : State) : ScheduleKept s (showTick s) :=
  .ite ((tickRecords_kept s).trans (routeDue_kept _)) (.refl s)

theorem directStep_kept (verb a b : Byte) (s : State) : ScheduleKept s (directStep verb a b s) := by
  unfold directStep
  split
  · exact .refl s
  · exact .ite (cueArrival_kept _ .follow s) (routeStep_kept _ .direct s)

/-! ### Banks: the list is no part of them -/

@[simp] theorem Dispatcher.setPending_schedule (d : Dispatcher) (b : Bank) : (d.setPending b).schedule = d.schedule := by
  unfold Dispatcher.setPending
  split <;> rfl

@[simp] theorem Dispatcher.closeCommit_schedule (d : Dispatcher) : d.closeCommit.schedule = d.schedule := by
  unfold Dispatcher.closeCommit
  split <;> rfl

@[simp] theorem Dispatcher.mirrorComplete_schedule (d : Dispatcher) : d.mirrorComplete.schedule = d.schedule := by
  unfold Dispatcher.mirrorComplete
  dsimp only
  (repeat' split) <;> simp [Dispatcher.finishMirror, Dispatcher.commit]

theorem judgeLoad_kept (payload : List Byte) (s : State) : ScheduleKept s (judgeLoad payload s).1 := by
  refine .of_schedule ?_
  have hwrite : ∀ e, (writeLoad e s).disp.schedule = s.disp.schedule := fun e => by cases e <;> simp [writeLoad]
  unfold judgeLoad
  (repeat' split) <;> simp [hwrite]

theorem lockConfiguration_kept (s : State) : ScheduleKept s (lockConfiguration s) :=
  .of_schedule s.disp.closeCommit_schedule

theorem closeConfiguration_kept (s : State) : ScheduleKept s (closeConfiguration s) :=
  (lockConfiguration_kept s).trans (.of_disp (enterActive_frame _).2.2.1)

/-! ### The entries into other station states, and the resets: the list is emptied (R49, R50) -/

theorem takeStandby_kept (s : State) : ScheduleKept s (takeStandby s) := .of_empty (by
  have hcooling : ∀ u, (standbyTest (enterCoolingDown u)).disp.schedule = [] := fun u => by simp [enterCoolingDown, emptySchedule]
  exact hcooling _)

theorem mainsWarnOn_kept (s : State) : ScheduleKept s (mainsWarnOn s) := by
  unfold mainsWarnOn
  exact .ite (.of_disp rfl) (.of_empty (by simp [enterMainsLoss, emptySchedule]))

theorem resetWith_kept (kind : ResetKind) (x : Station) (r : Readings) (s : State) : ScheduleKept s (resetWith kind x r s) := by
  obtain ⟨-, -, hschedule, -⟩ := s.disp.atReset_cleared (kind == .powerOn)
  let s2 := raise .restarted (restartedDetail kind (resetBlocks kind x r s).stn.valid) (resetBlocks kind x r s)
  obtain ⟨a, htrips, -⟩ := raiseActiveTrips_frame s2
  obtain ⟨c, hfan, -⟩ := fanAtReset_frame kind s.cool.cutout (raiseActiveTrips s2)
  have hblocks : ScheduleKept s (fanAtReset kind s.cool.cutout (raiseActiveTrips s2)) := .of_empty (by
    rw [hfan, htrips]
    exact hschedule)
  exact hblocks.trans (.ite (mainsWarnOn_kept _) (.refl _))

/-! ### Commands and frames -/

/-- A command of no arguments: with none it is what it does, with any it is refused and does nothing (R172). -/
theorem ScheduleKept.noArgs {c : Cmd} {args : List Byte} {s : State} (hc : c ≠ .step ∧ c ≠ .configSet ∧ c ≠ .ack ∧ c ≠ .attnSet)
    (h : ScheduleKept s (runCommand c [] s).1) : ScheduleKept s (runCommand c args s).1 := by
  cases args with
  | nil => exact h
  | cons =>
    obtain ⟨h1, h2, h3, h4⟩ := hc
    cases c <;> first | contradiction | exact .refl s

theorem runCommand_kept (c : Cmd) (args : List Byte) (s : State) : ScheduleKept s (runCommand c args s).1 := by
  cases c
  case hold => exact .noArgs (by decide) (.of_disp (holdEvent_frame s).2.2.2.1)
  case resume => exact .noArgs (by decide) (resumeEvent_kept s)
  case commit =>
    refine .noArgs (by decide) ?_
    dsimp only [runCommand]
    split
    · exact .refl s
    · exact .of_schedule rfl
  case configClose =>
    have hclose : ScheduleKept s (runCommand .configClose [] s).1 := closeConfiguration_kept s
    exact .noArgs (by decide) hclose
  case standby => exact .noArgs (by decide) (takeStandby_kept s)
  case wake =>
    have hwake : ScheduleKept s (takeWake s) := .of_disp (by simp)
    exact .noArgs (by decide) hwake
  case clearCounters => exact .noArgs (by decide) (.of_disp rfl)
  case reset => exact .noArgs (by decide) (.refl s)
  case step =>
    rcases args with _ | ⟨v, _ | ⟨a, _ | ⟨b, _ | ⟨d, rest⟩⟩⟩⟩
    case cons.cons.cons.nil =>
      dsimp only [runCommand]
      split
      · exact .refl s
      · exact directStep_kept v a b s
    all_goals exact .refl s
  all_goals
    refine .of_disp ?_
    rcases args with _ | ⟨a, _ | ⟨b, _ | ⟨d, _ | ⟨e, rest⟩⟩⟩⟩ <;> dsimp only [runCommand]
    all_goals (repeat' split)
    all_goals simp

theorem judgeCommand_kept (payload : List Byte) (s : State) : ScheduleKept s (judgeCommand payload s).1 := by
  have hnotice : ∀ c : Cmd, ScheduleKept s (if c.configClass = true then noticeConfig s else s) := fun c =>
    .ite (.of_disp (by simp)) (.refl s)
  unfold judgeCommand
  split
  · exact .refl s
  · split
    · exact .refl s
    · next c _ =>
      dsimp only
      have hu := hnotice c
      generalize (if c.configClass = true then noticeConfig s else s) = u at hu ⊢
      split
      · exact hu.trans (runCommand_kept c _ u)
      · exact hu

theorem takeCue_kept (payload : List Byte) (s : State) : ScheduleKept s (takeCue payload s) := by
  unfold takeCue
  split
  · exact .ite (cueArrival_kept _ .loop s) (.refl s)
  · exact .refl s

theorem actOn_kept (k : FrameKind) (p : Passage) (s : State) : ScheduleKept s (actOn k p s).1 := by
  cases k with
  | cue => exact takeCue_kept p.payload s
  | poll | query | remote => exact .of_disp rfl
  | assign => exact .ite (.of_disp (by simp)) (.refl s)
  | command =>
    simp only [actOn]
    split
    · exact judgeCommand_kept p.payload s
    · exact .refl s
  | load =>
    simp only [actOn]
    split
    · exact (ScheduleKept.of_disp (by simp)).trans (judgeLoad_kept p.payload _)
    · exact .refl s

theorem goodFrame_kept (k : FrameKind) (p : Passage) (s : State) : ScheduleKept s (goodFrame k p s).1 := by
  have hline : ScheduleKept s (restartSilence (takePosition p s)) := .of_disp (by simp)
  unfold goodFrame
  dsimp only
  split
  · exact hline.trans (actOn_kept k p _)
  · exact hline.trans (.of_disp rfl)

theorem knownCheck_kept (k : FrameKind) (p : Passage) (b : Byte) (s : State) : ScheduleKept s (knownCheck k p b s) :=
  .ite ((goodFrame_kept k p s).trans (.of_disp (by simp))) (.of_disp (by simp))

theorem checkByte_kept (p : Passage) (b : Byte) (s : State) : ScheduleKept s (checkByte p b s) := by
  unfold checkByte
  split
  · exact .of_disp (by simp)
  · next k _ => exact .ite (.of_disp (by simp)) (knownCheck_kept k p b s)

/-- A look at the mirror leaves the list alone (R32). -/
theorem queryByte_kept (p : Passage) (b : Byte) (s : State) : ScheduleKept s (queryByte p b s) := by
  have hanswer : ∀ fields area, ScheduleKept s (answerQuery fields area s).2 := fun fields area => by
    rcases answerQuery_state fields area s with h | h <;> rw [h]
    · exact .refl s
    · exact .ite (.of_schedule rfl) (.refl s)
  have hpass : ∀ q t, ScheduleKept t (passOn q b b t) := fun q t => .of_disp (passOn_frame q b b t).2.1
  exact .ite ((hanswer _ _).trans (hpass _ _)) (hpass _ _)

theorem payloadByte_kept (p : Passage) (b : Byte) (s : State) : ScheduleKept s (payloadByte p b s) := by
  unfold payloadByte
  split
  · exact .of_disp (by simp)
  · split
    case h_2 => exact queryByte_kept p b s
    all_goals first
      | exact .of_disp (by simp)
      | exact .ite (.of_disp (by simp)) (.of_disp (by simp))

theorem frameByte_kept (p : Passage) (b : Byte) (s : State) : ScheduleKept s (frameByte p b s) := by
  unfold frameByte
  split
  case h_6 n _ =>
    exact .ite (payloadByte_kept p b s) (.ite (checkByte_kept p b s) (.of_disp (by simp)))
  all_goals exact .of_disp (by simp)

theorem rxByte_kept (b : Byte) (s : State) : ScheduleKept s (rxByte b s) := by
  have hpass : ScheduleKept s (passByte s) := .of_disp (by simp)
  have hnote : ∀ t, ScheduleKept t (noteByte t) := fun t => .of_disp (by simp)
  unfold rxByte
  refine hpass.trans (ScheduleKept.trans ?_ (hnote _))
  split
  · exact .of_disp (by simp)
  · exact .refl _
  · next p _ => exact frameByte_kept p b _

theorem frameArrives_kept (f : Frame) (bytes : List Byte) (s : State) : ScheduleKept s (frameArrives f bytes s) := by
  have hbefore : ScheduleKept s (idleFor f.gap (lineReady s)) := .of_disp (by simp)
  have hafter : ∀ t, ScheduleKept t (byteFor f.bits t) := fun t => .of_disp (by simp)
  exact hbefore.trans ((ScheduleKept.foldl (fun s b => rxByte_kept b s) _ _).trans (hafter _))

theorem strayRun_kept (gap : Nat) (bytes : List Byte) (s : State) : ScheduleKept s (strayRun gap bytes s) := by
  have hbefore : ScheduleKept s (idleFor gap (lineReady s)) := .of_disp (by simp)
  have hafter : ∀ t, ScheduleKept t (idleFor Config.frameGap t) := fun t => .of_disp (by simp)
  exact hbefore.trans ((ScheduleKept.foldl (fun s b => rxByte_kept b s) bytes _).trans (hafter _))

/-! ### The tape's cues and the pendant (R150, R157) -/

theorem handOn_kept (cue : Nat) (s : State) : ScheduleKept s (handOn cue s) :=
  (cueArrival_kept cue .tape s).trans (.ite (.of_disp (by simp)) (.refl _))

theorem meetCandidate_kept (w : Byte) (s : State) : ScheduleKept s (meetCandidate w s) := by
  unfold meetCandidate
  split
  · exact .of_disp rfl
  · exact .ite ((handOn_kept _ _).from_disp rfl) (.of_disp rfl)

theorem readSample_kept (q : Nat) (v : Bool) (s : State) : ScheduleKept s (readSample q v s) := by
  have hgood : ∀ w t, ScheduleKept t (goodWord w t) := fun w t =>
    .ite (.of_disp rfl) ((meetCandidate_kept w _).from_disp rfl)
  exact .ite (.ite (.of_disp rfl) (.of_disp rfl)) <|
    .ite (.ite ((hgood _ _).from_disp rfl) (.of_disp rfl)) (.ite (.of_disp rfl) (.of_disp rfl))

theorem readWordUpTo_kept (data : Byte) (parity stop : Bool) (n : Nat) (s : State) :
    ScheduleKept s (readWordUpTo data parity stop n s) := by
  induction n generalizing s with
  | zero => exact .refl s
  | succ n ih =>
    unfold readWordUpTo
    split
    · exact (readSample_kept _ _ s).trans (ih _)
    · exact .refl s

theorem pulseSample_kept (mark : Bool) (s : State) : ScheduleKept s (pulseSample mark s) := by
  have hend : ScheduleKept s (endBurst s) := .ite ((handOn_kept 248 _).from_disp rfl) (.of_disp rfl)
  have hlengthen : ScheduleKept s (lengthenBurst s) := .ite ((handOn_kept 249 _).from_disp rfl) (.of_disp rfl)
  unfold pulseSample
  split
  case h_2 => exact .ite hlengthen (.ite (.of_disp rfl) hend)
  all_goals first
    | exact .refl s
    | exact .of_disp (by (repeat' split) <;> simp)

theorem takeSample_kept (age : Nat) (s : State) : ScheduleKept s (takeSample age s) := by
  have hword : ∀ v, ScheduleKept s (wordSample v s) := fun v => by
    unfold wordSample
    split
    case h_3 => exact readSample_kept _ v s
    all_goals exact .of_disp (by (repeat' split) <;> simp)
  unfold takeSample
  split
  all_goals first
    | exact .refl s
    | exact hword _
    | exact pulseSample_kept _ s

theorem recognizePress_kept (k : Key) (s : State) : ScheduleKept s (recognizePress k s) := by
  have hkey : ∀ t, ScheduleKept t (keyAction k t) := fun t => by
    cases k with
    | hold => exact .ite (.refl t) (.ite (holdToggle_kept t) (.of_disp (by simp)))
    | fwd | rev | dark => exact .ite (.of_disp (by simp)) (.of_disp (by simp))
    | focusIn | focusOut => exact .refl t
  have hact : ∀ t, ScheduleKept t (actOnPress k t) := fun t => by
    unfold actOnPress
    split
    case h_1 | h_2 => exact hkey t
    all_goals exact .of_disp (by simp)
  have hpress : ScheduleKept s (pressKey k s) := .of_disp rfl
  have hfocus : ∀ t, ScheduleKept t (chooseFocus t) := fun t => .of_disp rfl
  exact (ScheduleKept.ite hpress (hpress.trans (hact _))).trans (hfocus _)

theorem recognizeKey_kept (s : State) (k : Key) : ScheduleKept s (recognizeKey s k) :=
  .ite (.ite (.of_disp rfl) (recognizePress_kept k s)) (.refl s)

theorem takeScan_kept (x : KeySamples) (order : List Key) (s : State) : ScheduleKept s (takeScan x order s) :=
  (ScheduleKept.foldl recognizeKey_kept (order ++ allKeys) _).from_disp rfl

theorem expireSilence_kept (s : State) : ScheduleKept s (expireSilence s) := by
  unfold expireSilence
  refine .ite (.of_disp ?_) (.refl s)
  dsimp only
  split <;> simp

/-! ### A step -/

/-- Every command is a change of the state that keeps the law. -/
theorem exec_scheduleKept (i : Instr) (s : State) : ∃ t, exec i s = .next t ∧ ScheduleKept s t := by
  have hframe : ∀ f bytes, ScheduleKept s (whenRunning (frameArrives f bytes) s) := fun f bytes =>
    (frameArrives_kept f bytes s).whenRunning
  have hpulse : ∀ (c : Prop) [Decidable c] (m : Bool), ScheduleKept s (if c then pulseSample m s else s) := fun c _ m =>
    .ite (pulseSample_kept m s) (.refl s)
  cases i
  case showTick => exact ⟨_, rfl, (showTick_kept s).whenRunning⟩
  case scheduledRecordDue => exact ⟨_, rfl, (routeDue_kept s).whenRunning⟩
  case mirrorComplete => exact ⟨_, rfl, (ScheduleKept.of_schedule s.disp.mirrorComplete_schedule).whenRunning⟩
  case configWindowExpiry => exact ⟨_, rfl, (ScheduleKept.ite (closeConfiguration_kept s) (.refl s)).whenRunning⟩
  case mainsWarnAssert => exact ⟨_, rfl, (mainsWarnOn_kept s).whenRunning⟩
  case powerOn st r => exact ⟨_, rfl, resetWith_kept .powerOn _ r s⟩
  case pinReset st r => exact ⟨_, rfl, .ite (.refl s) (resetWith_kept .pin _ r s)⟩
  case loopReset r => exact ⟨_, rfl, (ScheduleKept.ite (resetWith_kept .loop _ r s) (.refl s)).whenRunning⟩
  case brownoutRestart st r => exact ⟨_, rfl, (ScheduleKept.ite (resetWith_kept .brownout _ r s) (.refl s)).whenRunning⟩
  case supplyFall => exact ⟨_, rfl, .of_disp rfl⟩
  case strayByteRun gap bytes => exact ⟨_, rfl, (strayRun_kept gap bytes s).whenRunning⟩
  case tapeWord data parity stop => exact ⟨_, rfl, (readWordUpTo_kept data parity stop 50 s).whenRunning⟩
  case burstEnd | burstLimit | spentEnd => exact ⟨_, rfl, (hpulse _ _).whenRunning⟩
  case cueTrackSample age => exact ⟨_, rfl, (takeSample_kept age s).whenRunning⟩
  case keyPress k => exact ⟨_, rfl, (ScheduleKept.ite (.refl s) (recognizePress_kept k s)).whenRunning⟩
  case keyScan samples order => exact ⟨_, rfl, (takeScan_kept samples order s).whenRunning⟩
  case cueFrame | poll | query | load | remoteFrame | assign | unknownKind | lengthAbove32 | unknownCommandCode | step | hold | resume |
      commit | configSet | configClose | standby | wake | ack | attnSet | clearCounters | reset =>
    exact ⟨_, rfl, hframe _ _⟩
  case loopSilenceExpiry => exact ⟨_, rfl, (expireSilence_kept s).whenRunning⟩
  case spinUpElapsed => exact ⟨_, rfl, .whenRunning (.of_disp (by unfold elapseSpinUp; split <;> rfl))⟩
  case mainsWarnDeassert => exact ⟨_, rfl, (ScheduleKept.of_disp rfl).whenRunning⟩
  all_goals exact ⟨_, rfl, .whenRunning (.of_disp (by (repeat' split) <;> simp))⟩

/-- Settles O52: a step idles, or is a command on the queue's rest. -/
theorem stepKeepsScheduleLaw : Obligations.StepKeepsScheduleLaw := by
  unfold Obligations.StepKeepsScheduleLaw
  intro s s' hlaw hstep
  unfold step at hstep
  split at hstep
  · obtain rfl := Host.Outcome.next.inj hstep
    exact hlaw
  · next i rest _ =>
    obtain ⟨t, ht, hkept⟩ := exec_scheduleKept i { s with pending := rest }
    obtain rfl := Host.Outcome.next.inj (ht.symm.trans hstep)
    exact hkept hlaw

end Sys2Proof.Machine

-- ==== Sys2Proof/Proofs/BanksAndResets.lean ====
/-! PROOF. The banks at the end of the mirror (R32, R33), what the resets other than a power-on keep (R34, R50, R77, R78, R121, R174), and
the laws right after a power-on. -/

namespace Sys2Proof.Machine

open Sys2Proof (Straps Readings)

/-! ### The mirror -/

/-- Once the mirror has copied, both banks are the live one, and nothing but the banks and the mirror has changed (R32). -/
theorem Dispatcher.finishMirror_eq (d : Dispatcher) :
    d.finishMirror = { d with bankA := d.liveBank, bankB := d.liveBank, mirrorBusy := false, mirrorCopied := 0 } := by
  cases h : d.live <;> simp [Dispatcher.finishMirror, Dispatcher.setPending, Dispatcher.liveBank, Dispatcher.bank, h]

/-- The end of the mirror, by whether a commit was deferred (R32, R33). -/
theorem Dispatcher.mirrorComplete_busy (d : Dispatcher) (h : d.mirrorBusy = true) :
    d.mirrorComplete = { d with
      bankA := d.liveBank
      bankB := d.liveBank
      mirrorBusy := d.deferred
      mirrorCopied := 0
      deferred := false
      live := if d.deferred then d.live.other else d.live } := by
  cases hd : d.deferred <;> simp [Dispatcher.mirrorComplete, h, Dispatcher.finishMirror_eq, hd, Dispatcher.commit]

theorem exec_mirrorComplete (s : State) (h : s.power = .running) : exec .mirrorComplete s = .next (completeMirror s) := by
  show Host.Outcome.next (whenRunning completeMirror s) = _
  simp [whenRunning, h]

/-- Settles O36, by whether a mirror is in progress. -/
theorem mirrorCompletes : Obligations.MirrorCompletes := by
  unfold Obligations.MirrorCompletes
  intro s hp
  rw [exec_mirrorComplete s hp]
  refine ⟨fun hidle => ?_, fun hbusy => ⟨_, rfl, rfl, ?_⟩⟩
  · simp [completeMirror, Dispatcher.mirrorComplete, hidle]
  · rw [show (completeMirror s).disp = s.disp.mirrorComplete from rfl, Dispatcher.mirrorComplete_busy s.disp hbusy]
    exact ⟨rfl, rfl, rfl, rfl, rfl, rfl, rfl⟩

/-! ### The blocks at a reset that is no power-on -/

/-- The live bank stays, and a mirror in progress is carried to its end (R34). -/
theorem Dispatcher.atReset_banks (d : Dispatcher) :
    (d.atReset false).live = d.live ∧ (d.atReset false).liveBank = d.liveBank ∧
    (d.mirrorBusy = false → (d.atReset false).pendingBank = d.pendingBank) ∧
    (d.mirrorBusy = true → (d.atReset false).pendingBank = d.liveBank) := by
  cases hb : d.mirrorBusy <;> cases hl : d.live <;>
    simp [Dispatcher.atReset, hb, hl, Dispatcher.finishMirror_eq, Dispatcher.liveBank, Dispatcher.pendingBank, Dispatcher.bank,
      BankName.other]

/-- The tray record stays; a cycle is given up but for a drop that a loop reset lets finish, and so is a jam (R77, R78). -/
theorem Transport.atReset_kept (t : Transport) (loopReset : Bool) :
    (t.atReset loopReset).size = t.size ∧ (t.atReset loopReset).slot = t.slot ∧
    (loopReset = true → t.state = .cycle .drop → (t.atReset loopReset).state = .cycle .drop ∧
      (t.atReset loopReset).keptDrop = true ∧ (t.atReset loopReset).cycle = t.cycle ∧
      (t.atReset loopReset).certainty = t.certainty) ∧
    (¬(loopReset = true ∧ t.state = .cycle .drop) → t.inCycle = true ∨ t.state = .jammed →
      (t.atReset loopReset).state = .idle ∧ (t.atReset loopReset).cycle = none ∧ (t.atReset loopReset).certainty = .uncertain) ∧
    (t.state = .idle ∨ t.state = .noTray →
      (t.atReset loopReset).state = t.state ∧ (t.atReset loopReset).certainty = t.certainty) := by
  unfold Transport.atReset Transport.inCycle
  dsimp only
  split <;> cases loopReset <;> simp_all [Transport.flush]

/-- A raise leaves what ATTN_SET sets (R178, R179). -/
theorem Attn.raise_setting (a : Attn) (c d : Source) (detail : Nat) :
    ((a.raise c detail).get d).enable = (a.get d).enable ∧ ((a.raise c detail).get d).high = (a.get d).high := by
  by_cases h : d = c
  · subst h
    rw [(a.raise_spec d detail).1]
    split <;> exact ⟨rfl, rfl⟩
  · rw [(a.raise_spec c detail).2.1 d h]
    exact ⟨rfl, rfl⟩

/-- Raising the active trip causes leaves what ATTN_SET sets. -/
theorem raiseActiveTrips_setting (s : State) (d : Source) :
    ((raiseActiveTrips s).attn.get d).enable = (s.attn.get d).enable ∧ ((raiseActiveTrips s).attn.get d).high = (s.attn.get d).high := by
  unfold raiseActiveTrips
  cases s.cool.thermal <;> cases hc : s.cool.cutout <;> simp [hc, raise, Attn.raise_setting]

/-- A reset that is no power-on keeps the attention settings (R184). -/
theorem Attn.atReset_setting (a : Attn) (d : Source) :
    ((a.atReset false).get d).enable = (a.get d).enable ∧ ((a.atReset false).get d).high = (a.get d).high := by
  simp [Attn.atReset, Attn.get]

/-- The fan stage that an open cutout calls for after a reset (R107). -/
theorem fanWanted_cutout (s : State) (hcut : s.cool.cutout = true) (hstage : s.cool.heatStage ≤ 3) (hstate : s.stn.state = .configuring) :
    fanWanted s = 3 := by
  have htripped : s.cool.tripped = true := by simp [Cooling.tripped, hcut]
  simp only [fanWanted, htripped, hstate, if_true]
  split <;> split <;> omega

/-! ### A reset that is no power-on -/

/-- The blocks at a reset that is no power-on. -/
theorem resetBlocks_of_ne_powerOn {kind : ResetKind} (hk : kind ≠ .powerOn) (x : Station) (r : Readings) (s : State) :
    (resetBlocks kind x r s).disp = s.disp.atReset false ∧ (resetBlocks kind x r s).tray = s.tray.atReset (kind == .loop) ∧
    (resetBlocks kind x r s).lamp = s.lamp.atReset false ∧
    (resetBlocks kind x r s).cool = s.cool.atReset false (heatAtPowerOn x) x.items r.cutoutOpen ∧
    (resetBlocks kind x r s).deck = s.deck.atReset false x.strapDeck r.cassette (volumeAtPowerOn x) ∧
    (resetBlocks kind x r s).attn = s.attn.atReset false := by
  cases kind
  case powerOn => contradiction
  all_goals exact ⟨rfl, rfl, rfl, rfl, rfl, rfl⟩

/-- A reset that is no power-on, read with no mains warning: every block as `resetBlocks` has it, but for the fan's choice, made where the
cutout has opened, and the sources raised. -/
theorem resetWith_of_ne_powerOn {kind : ResetKind} (hk : kind ≠ .powerOn) (x : Station) (r : Readings) (s : State)
    (hw : r.mainsWarn = false) :
    ∃ c a, resetWith kind x r s = { resetBlocks kind x r s with cool := c, attn := a } ∧
      (r.cutoutOpen = false ∨ s.cool.cutout = true → c = (resetBlocks kind x r s).cool) ∧
      (r.cutoutOpen = true → s.cool.cutout = false → ∃ n, c = (resetBlocks kind x r s).cool.setStage n ∧
        (s.cool.heatStage ≤ 3 → n = 3)) ∧
      (∀ d, (a.get d).enable = (s.attn.get d).enable ∧ (a.get d).high = (s.attn.get d).high) := by
  obtain ⟨-, -, -, hcool, -, hattn⟩ := resetBlocks_of_ne_powerOn hk x r s
  let s1 := resetBlocks kind x r s
  let s2 := raise .restarted (restartedDetail kind s1.stn.valid) s1
  obtain ⟨a, htrips, -⟩ := raiseActiveTrips_frame s2
  have hset : ∀ d, (a.get d).enable = (s.attn.get d).enable ∧ (a.get d).high = (s.attn.get d).high := fun d => by
    obtain ⟨htripEnable, htripHigh⟩ := raiseActiveTrips_setting s2 d
    obtain ⟨hraiseEnable, hraiseHigh⟩ := s1.attn.raise_setting .restarted d (restartedDetail kind s1.stn.valid)
    obtain ⟨hresetEnable, hresetHigh⟩ := s.attn.atReset_setting d
    rw [htrips] at htripEnable htripHigh
    rw [← hattn] at hresetEnable hresetHigh
    exact ⟨htripEnable.trans (hraiseEnable.trans hresetEnable), htripHigh.trans (hraiseHigh.trans hresetHigh)⟩
  have hreset : resetWith kind x r s = fanAtReset kind s.cool.cutout { s2 with attn := a } := by
    show readMainsWarn r.mainsWarn (fanAtReset kind s.cool.cutout (raiseActiveTrips s2)) = _
    rw [hw, htrips]
    rfl
  by_cases hopens : r.cutoutOpen = true ∧ s.cool.cutout = false
  · refine ⟨s1.cool.setStage (fanWanted { s2 with attn := a }), a, ?_, ?_, fun _ _ => ⟨_, rfl, fun hstage => ?_⟩, hset⟩
    · rw [hreset, fanAtReset, if_pos (.inr hopens)]
      rfl
    · rintro (h | h) <;> simp [hopens] at h
    · refine fanWanted_cutout _ hopens.1 ?_ rfl
      show s1.cool.heatStage ≤ 3
      rw [show s1.cool = _ from hcool]
      exact hstage
  · refine ⟨s1.cool, a, ?_, fun _ => rfl, fun h1 h2 => absurd ⟨h1, h2⟩ hopens, hset⟩
    rw [hreset, fanAtReset, if_neg (fun h => h.elim hk hopens)]
    rfl

/-- The three commands are a `resetWith` of their kind, the straps as the kind takes them. -/
theorem otherReset_eq {kind : ResetKind} {st : Straps} {r : Readings} {s t : State}
    (h : (kind = .pin ∧ s.power ≠ .off ∧ exec (.pinReset st r) s = .next t) ∨
      (kind = .loop ∧ s.power = .running ∧ s.out.resetAhead = some 0 ∧ exec (.loopReset r) s = .next t) ∨
      (kind = .brownout ∧ s.power = .running ∧ brownoutDue s = true ∧ exec (.brownoutRestart st r) s = .next t)) :
    kind ≠ .powerOn ∧ t = resetWith kind (if kind = .loop then s.stn else s.stn.latch st) r s := by
  rcases h with ⟨rfl, hp, ht⟩ | ⟨rfl, hp, hdue, ht⟩ | ⟨rfl, hp, hdue, ht⟩
  · exact ⟨nofun, (Host.Outcome.next.inj ht).symm.trans (if_neg hp)⟩
  · refine ⟨nofun, (Host.Outcome.next.inj ht).symm.trans ?_⟩
    simp [whenRunning, hp, loopResetDue, hdue, loopReset]
  · refine ⟨nofun, (Host.Outcome.next.inj ht).symm.trans ?_⟩
    simp [whenRunning, hp, hdue, brownoutRestart]

/-- Settles O29: block by block, with the fan by whether the cutout has opened. -/
theorem otherResetsKeep : Obligations.OtherResetsKeep := by
  unfold Obligations.OtherResetsKeep
  intro kind st r s t hw h
  obtain ⟨hk, rfl⟩ := otherReset_eq h
  generalize hx : (if kind = .loop then s.stn else s.stn.latch st) = x
  obtain ⟨c, a, heq, hsame, hopens, hset⟩ := resetWith_of_ne_powerOn hk x r s hw
  obtain ⟨hdisp, htray, hlamp, hcool, hdeck, -⟩ := resetBlocks_of_ne_powerOn hk x r s
  obtain ⟨hlive, hliveBank, hidle, hbusy⟩ := s.disp.atReset_banks
  obtain ⟨hsize, hslot, hdrop, hcycle, hrest⟩ := s.tray.atReset_kept (kind == .loop)
  have hitems : x.items = s.stn.items ∧ x.writing = s.stn.writing := by
    subst hx
    split <;> exact ⟨rfl, rfl⟩
  have hcoolKept : c.heat = s.cool.heat ∧ c.heatStage = s.cool.heatStage ∧ c.thermal = s.cool.thermal ∧ c.cool = s.cool.cool ∧
      c.cutout = r.cutoutOpen := by
    rw [hcool] at hsame hopens
    by_cases hnew : r.cutoutOpen = true ∧ s.cool.cutout = false
    · obtain ⟨n, rfl, -⟩ := hopens hnew.1 hnew.2
      simp [Cooling.atReset]
    · rw [hsame (by by_contra; simp_all)]
      exact ⟨rfl, rfl, rfl, rfl, rfl⟩
  obtain ⟨hheat, hstage, hthermal, hcoolMark, hcutout⟩ := hcoolKept
  rw [heq]
  dsimp only
  rw [hdisp, htray, hlamp, hdeck]
  refine ⟨hlive, hliveBank, hidle, hbusy, hsize, hslot, fun ⟨hloop, hd⟩ => hdrop (by simp [hloop]) hd,
    fun hno => hcycle (by simpa using hno), hrest, rfl, hheat, hstage, hthermal, hcoolMark, hcutout, fun hclosed => ?_,
    fun hopen hbefore hle => ?_, rfl, rfl, hitems.1, rfl, ?_, fun hloop => ?_, fun hloop => ?_, hset⟩
  · rw [hsame hclosed, hcool]
    exact ⟨rfl, rfl⟩
  · obtain ⟨n, rfl, hn⟩ := hopens hopen hbefore
    rw [hn hle]
    simp
  · show (if kind = .loop then x.writing else none) = _
    rw [hitems.2]
  · rw [← hx, if_pos hloop]
    exact ⟨rfl, rfl, rfl⟩
  · rw [← hx, if_neg hloop]
    exact ⟨rfl, rfl, rfl⟩

/-! ### The laws at a power-on -/

/-- Settles O51: each law over the values of a power-on. -/
theorem lawsHoldAtReset : Obligations.LawsHoldAtReset := by
  unfold Obligations.LawsHoldAtReset
  refine ⟨?_, ?_, ?_, ?_, ?_, ?_, ?_, ?_, ?_, ?_, ?_, ?_, ?_, ?_, ?_, ?_⟩
  · exact ⟨by decide, .nil, nofun⟩
  · refine ⟨by decide, by decide, by decide, nofun⟩
  · trivial
  · refine ⟨by decide, nofun, fun _ => rfl⟩
  · refine ⟨by decide, ⟨by decide, by decide, by decide, nofun⟩, by decide⟩
  · exact ⟨by decide, rfl, fun _ => ⟨rfl, rfl, rfl, rfl⟩⟩
  · refine ⟨by decide, by decide, by decide, by decide, by decide, by decide, by decide⟩
  · exact ⟨nofun, nofun⟩
  · exact ⟨nofun, nofun⟩
  · refine ⟨by decide, by decide, ⟨by decide, by decide, by decide, nofun⟩, fun _ => rfl, nofun, nofun, by decide⟩
  · refine ⟨by decide, nofun, nofun, fun _ => rfl, by decide⟩
  · exact (by decide : Items.default.consistent = true)
  · exact nofun
  · intro k; cases k <;> decide
  · refine ⟨by decide, by decide, by decide, by decide, by decide, by decide, by decide, by decide, by decide, by decide, by decide,
      by decide, by decide, nofun, nofun⟩
  · exact provisionalLaw_of_none rfl rfl

end Sys2Proof.Machine

-- ==== Sys2Proof/Proofs/OffLine.lean ====
/-! PROOF. What a cue or a direct step does neither reads nor writes the lines: done to the part beside its lines, it leaves what it leaves
beside the lines of the part itself. -/

namespace Sys2Proof.Machine

open Sys2Proof (Byte Frame)

/-- Beside its lines the part is as it is there (R3). -/
@[simp] theorem State.offLine_offLine (s : State) : s.offLine.offLine = s.offLine := rfl

/-- What of the part does not belong to its lines. -/
@[simp] theorem State.offLine_frame (s : State) :
    s.offLine.power = s.power ∧ s.offLine.disp = s.disp ∧ s.offLine.tray = s.tray ∧ s.offLine.lamp = s.lamp ∧ s.offLine.cool = s.cool ∧
    s.offLine.deck = s.deck ∧ s.offLine.dec = s.dec ∧ s.offLine.remote = s.remote ∧ s.offLine.stn = s.stn ∧
    s.offLine.retained = s.retained ∧ s.offLine.attn = s.attn ∧ s.offLine.openValues = s.openValues ∧ s.offLine.pending = s.pending :=
  ⟨rfl, rfl, rfl, rfl, rfl, rfl, rfl, rfl, rfl, rfl, rfl, rfl, rfl⟩

/-- What reads no line leaves parts that agree beside their lines in agreement. -/
theorem offLine_congr {f : State → State} (hf : ∀ s, f s.offLine = (f s).offLine) {s t : State} (h : s.offLine = t.offLine) :
    (f s).offLine = (f t).offLine := by
  rw [← hf s, h, hf t]

/-! ### Moves and the lamp -/

theorem startMove_offLine (m : Move) (s : State) : startMove m s.offLine = (startMove m s).offLine := by
  simp only [startMove, State.offLine_frame]
  repeat' split
  all_goals rfl

theorem startMovesUpTo_offLine (n : Nat) (s : State) : startMovesUpTo n s.offLine = (startMovesUpTo n s).offLine := by
  induction n generalizing s with
  | zero => rfl
  | succ n ih =>
    simp only [startMovesUpTo, State.offLine_frame]
    split
    · rfl
    · next m rest _ =>
      have hcan : canStart m s.offLine = canStart m s := rfl
      rw [hcan]
      split
      · exact (congrArg (startMovesUpTo n)
          (startMove_offLine m { s with tray := ({ s.tray with queue := rest } : Transport).newHead })).trans (ih _)
      · rfl

theorem startMoves_offLine (s : State) : startMoves s.offLine = (startMoves s).offLine := startMovesUpTo_offLine _ s

theorem offerMove_offLine (k : MoveKind) (dark : Bool) (o : Origin) (s : State) :
    offerMove k dark o s.offLine = (offerMove k dark o s).offLine := by
  simp only [offerMove, State.offLine_frame]
  split
  · rfl
  · exact startMoves_offLine { s with tray := _ }

theorem setLamp_offLine (l : Lamp) (s : State) : setLamp l s.offLine = (setLamp l s).offLine := by
  simp only [setLamp, State.offLine_frame]
  split
  · exact startMoves_offLine { s with lamp := l }
  · exact startMoves_offLine (chooseFan { s with lamp := l })

theorem requestPosition_offLine (target ticks : Nat) (o : Origin) (s : State) :
    requestPosition target ticks o s.offLine = (requestPosition target ticks o s).offLine := by
  simp only [requestPosition, State.offLine_frame]
  repeat' split
  all_goals first | rfl | exact setLamp_offLine _ s

theorem requestLampOff_offLine (s : State) : requestLampOff s.offLine = (requestLampOff s).offLine := by
  simp only [requestLampOff, State.offLine_frame]
  split
  all_goals first | rfl | exact setLamp_offLine _ s

/-! ### The deck -/

theorem brakeTo_offLine (m : Pending) (s : State) : brakeTo m s.offLine = (brakeTo m s).offLine := by
  simp only [brakeTo, State.offLine_frame]
  split <;> rfl

theorem tapeStop_offLine (s : State) : tapeStop s.offLine = (tapeStop s).offLine := by
  simp only [tapeStop, State.offLine_frame]
  split
  all_goals first | rfl | exact brakeTo_offLine .stopped s

/-- Braking toward a motion mode, with its clear of TAPE_END, reads no line (R126). -/
theorem brakeToMotion_offLine (m : Pending) (s : State) :
    sideClear .tapeEnd (brakeTo m s.offLine) = (sideClear .tapeEnd (brakeTo m s)).offLine :=
  (congrArg (sideClear .tapeEnd) (brakeTo_offLine m s)).trans rfl

theorem setCounter_offLine (n : Nat) (s : State) : setCounter n s.offLine = (setCounter n s).offLine := by
  simp only [setCounter, State.offLine_frame]
  split
  · exact brakeTo_offLine .stopped { s with deck := { s.deck with counter := n } }
  · rfl

theorem tapeCommand_offLine (m : TapeMode) (s : State) : tapeCommand m s.offLine = (tapeCommand m s).offLine := by
  simp only [tapeCommand, State.offLine_frame]
  split
  · rfl
  cases m with
  | stop => exact tapeStop_offLine s
  | pause =>
    simp only [tapePause, State.offLine_frame]
    split <;> rfl
  | zeroCounter => exact setCounter_offLine 0 s
  | rewToZero =>
    simp only [tapeRewToZero, State.offLine_frame]
    split
    · exact tapeStop_offLine s
    · split
      all_goals first | rfl | exact brakeToMotion_offLine _ s
  | play | rewind | windFwd =>
    simp only [tapePlay, tapeRewind, tapeWindFwd, State.offLine_frame]
    split
    all_goals first | rfl | exact brakeToMotion_offLine _ s

theorem deckHold_offLine (s : State) : deckHold s.offLine = (deckHold s).offLine := by
  simp only [deckHold, State.offLine_frame]
  split
  · rfl
  · exact brakeTo_offLine .pausedHold s
  · rfl

theorem deckResume_offLine (s : State) : deckResume s.offLine = (deckResume s).offLine := by
  simp only [deckResume, State.offLine_frame]
  split
  · rfl
  · exact brakeTo_offLine .playing s
  · rfl

/-! ### The Dispatcher -/

/-- A routed step reads no line (R41). -/
theorem routeStep_offLine (st : Step) (o : Origin) (s : State) : routeStep st o s.offLine = (routeStep st o s).offLine := by
  unfold routeStep
  repeat' split
  all_goals first
    | rfl
    | exact offerMove_offLine _ _ _ s
    | exact requestPosition_offLine _ _ _ s
    | exact requestLampOff_offLine s
    | exact tapeCommand_offLine _ s

theorem holdEvent_offLine (s : State) : holdEvent s.offLine = (holdEvent s).offLine := by
  simp only [holdEvent, show showRunning s.offLine = showRunning s from rfl]
  split
  · exact deckHold_offLine { s with stn := { s.stn with showState := .held } }
  · rfl

theorem schedule_offLine (r : Record) (s : State) : schedule r s.offLine = (schedule r s).offLine := by
  simp only [schedule, State.offLine_frame]
  split <;> rfl

theorem expandStep_offLine (cue : Nat) (s : State) (p : PoolStep) : expandStep cue s.offLine p = (expandStep cue s p).offLine := by
  simp only [expandStep, show showRunning s.offLine = showRunning s from rfl]
  split
  · rfl
  · split
    · exact routeStep_offLine _ .ofShow s
    · exact schedule_offLine _ s

theorem expandAll_offLine (cue : Nat) (ps : List PoolStep) (s : State) :
    ps.foldl (expandStep cue) s.offLine = (ps.foldl (expandStep cue) s).offLine := by
  induction ps generalizing s with
  | nil => rfl
  | cons p ps ih => exact (congrArg (ps.foldl (expandStep cue)) (expandStep_offLine cue s p)).trans (ih _)

theorem loadedCue_offLine (cue : Nat) (src : CueSource) (s : State) : loadedCue cue src s.offLine = (loadedCue cue src s).offLine := by
  simp only [loadedCue, State.offLine_frame]
  split
  · rfl
  · exact expandAll_offLine cue _ (recordCue cue src s)

theorem commitCue_offLine (src : CueSource) (s : State) : commitCue src s.offLine = (commitCue src s).offLine := by
  simp only [commitCue, State.offLine_frame]
  split <;> rfl

theorem stepCue_offLine (cue : Nat) (v : Verb) (src : CueSource) (s : State) :
    stepCue cue v src s.offLine = (stepCue cue v src s).offLine := by
  simp only [stepCue, show showRunning (recordCue cue src s.offLine) = showRunning (recordCue cue src s) from rfl]
  split
  · exact routeStep_offLine _ .ofShow (recordCue cue src s)
  · exact schedule_offLine _ (recordCue cue src s)

theorem endOfShow_offLine (s : State) : endOfShow s.offLine = (endOfShow s).offLine :=
  (congrArg (routeStep ⟨.lamp, 0, 20⟩ .ofShow) (routeStep_offLine ⟨.tape, 1, 0⟩ .ofShow (emptySchedule s))).trans
    (routeStep_offLine ⟨.lamp, 0, 20⟩ .ofShow _)

/-- A cue arrival reads no line if what a RESUME does reads none (R36 to R40). -/
theorem cueArrivalWith_offLine {resume : State → State} (h : ∀ s, resume s.offLine = (resume s).offLine) (cue : Nat) (src : CueSource)
    (s : State) : cueArrivalWith resume cue src s.offLine = (cueArrivalWith resume cue src s).offLine := by
  simp only [cueArrivalWith, State.offLine_frame]
  repeat' split
  all_goals first
    | rfl
    | exact loadedCue_offLine cue src s
    | exact holdEvent_offLine (recordCue cue src s)
    | exact h (recordCue cue src s)
    | exact commitCue_offLine src s
    | exact endOfShow_offLine (recordCue cue src s)
    | exact routeStep_offLine _ .ofShow (recordCue cue src s)
    | exact stepCue_offLine cue _ src s

theorem routeRecord_offLine (r : Record) (s : State) : routeRecord r s.offLine = (routeRecord r s).offLine := by
  unfold routeRecord
  split
  · exact cueArrivalWith_offLine (resume := id) (fun _ => rfl) r.a .follow s
  · exact routeStep_offLine _ .ofShow s

theorem routeDueUpTo_offLine (n : Nat) (s : State) : routeDueUpTo n s.offLine = (routeDueUpTo n s).offLine := by
  induction n generalizing s with
  | zero => rfl
  | succ n ih =>
    simp only [routeDueUpTo, State.offLine_frame, show showRunning s.offLine = showRunning s from rfl]
    split
    · rfl
    · next r rest _ =>
      split
      · exact (congrArg (routeDueUpTo n) (routeRecord_offLine r { s with disp := { s.disp with schedule := rest } })).trans (ih _)
      · rfl

theorem resumeEvent_offLine (s : State) : resumeEvent s.offLine = (resumeEvent s).offLine := by
  have hresume : resumeShow s.offLine = (resumeShow s).offLine :=
    deckResume_offLine { s with stn := { s.stn with showState := .running } }
  simp only [resumeEvent, show showHeld s.offLine = showHeld s from rfl]
  split
  · rw [hresume]
    exact routeDueUpTo_offLine _ (resumeShow s)
  · rfl

/-- A cue arrival reads no line (R36 to R40). -/
theorem cueArrival_offLine (cue : Nat) (src : CueSource) (s : State) : cueArrival cue src s.offLine = (cueArrival cue src s).offLine :=
  cueArrivalWith_offLine resumeEvent_offLine cue src s

/-- A direct step reads no line (R43). -/
theorem directStep_offLine (verb a b : Byte) (s : State) : directStep verb a b s.offLine = (directStep verb a b s).offLine := by
  unfold directStep
  split
  · rfl
  · split
    · exact cueArrival_offLine _ .follow s
    · exact routeStep_offLine _ .direct s

theorem noticeConfig_offLine (s : State) : noticeConfig s.offLine = (noticeConfig s).offLine := by
  simp only [noticeConfig, State.offLine_frame]
  split <;> rfl

theorem writeLoad_offLine (e : LoadEntries) (s : State) : writeLoad e s.offLine = (writeLoad e s).offLine := by
  cases e <;> rfl

/-- A LOAD is judged without a look at the lines (R28). -/
theorem judgeLoad_offLine (payload : List Byte) (s : State) :
    (judgeLoad payload s.offLine).1 = (judgeLoad payload s).1.offLine ∧ (judgeLoad payload s.offLine).2 = (judgeLoad payload s).2 := by
  simp only [judgeLoad, State.offLine_frame]
  repeat' split
  all_goals first
    | exact ⟨rfl, rfl⟩
    | exact ⟨writeLoad_offLine _ s, rfl⟩

/-! ### Whole frames that are acted on -/

/-- A number and a group set that agree beside the lines match the same TARGETs (R12). -/
theorem matchesTarget_of_offLine {s t : State} (h : s.offLine = t.offLine) (target : Nat) :
    matchesTarget s target = matchesTarget t target :=
  matchesTarget_congr (show s.offLine.stn = t.offLine.stn by rw [h]) (show s.offLine.loop.assigned = t.offLine.loop.assigned by rw [h]) target

theorem stationNumber_of_offLine {s t : State} (h : s.offLine = t.offLine) : stationNumber s = stationNumber t := by
  show stationNumber s.offLine = stationNumber t.offLine
  rw [h]

/-- The passage of a frame that passes as it came, right before its CHECK. -/
def asGivenPassage (k : FrameKind) (f : Frame) (payload : List Byte) : Passage := wholePassage k f payload payload []

theorem asGivenPassage_payload (k : FrameKind) (f : Frame) (payload : List Byte) (h : payload.length ≤ Config.maxLength) :
    (asGivenPassage k f payload).payload = payload := by
  have hlength := wholePassage_length k f payload payload [] h
  show (([_, _, _, _, _] ++ payload).drop 5).take (wholePassage k f payload payload []).length = payload
  rw [hlength]
  simp

/-- A good CUE, REMOTE, COMMAND or LOAD of a right LENGTH: the part as its owner leaves it from a state that agrees beside the lines, and
the frame sent with HOP one more, then the trailer (R4 to R7, R10). -/
theorem exec_plainFrame {k : FrameKind} {f : Frame} {payload : List Byte} {s : State}
    (hk : k = .cue ∨ k = .remote ∨ k = .command ∨ k = .load) (h : ArrivesWhole f payload s) (hgood : CheckGood f k payload)
    (hown : k = .cue ∨ k = .remote → ownOrigin f s = false) (hlen : (asGivenPassage k f payload).lengthRight k = true) :
    ∃ t u, exec (frameInstr k f payload) s = .next t ∧ u.offLine = s.offLine ∧
      t.offLine = (actOn k (asGivenPassage k f payload) u).1.offLine ∧
      t.out.sent = sentBytes f k payload ++ (if k.hasTrailer then
        trailerOut (actOn k (asGivenPassage k f payload) u).2.result f.result f.resultComplement else []) := by
  obtain ⟨s', xs, reply, hrx, -, -, hplain⟩ := rxBytes_upToCheck k f payload s (payload_length_le h) hown
  obtain ⟨rfl, rfl, rfl⟩ := hplain (neverRewritten_of_plain hk)
  obtain ⟨r, hexec⟩ := exec_goodFrame_of_upToCheck h hgood hrx
  dsimp only at hexec
  rw [goodFrame_rightLength (show (wholePassage k f xs xs []).lengthRight k = true from hlen)] at hexec
  refine ⟨_, _, hexec, ?_, rfl, ?_⟩
  · rw [restartSilence_offLine, takePosition_offLine]
    rfl
  · simp [lineOut, sentBytes_eq]
    rfl

theorem lengthRight_of_fixed {k : FrameKind} {n : Nat} {f : Frame} {payload : List Byte} (h : k.fixedLength = some n)
    (hn : payload.length = n) (hlen : payload.length ≤ Config.maxLength) : (asGivenPassage k f payload).lengthRight k = true := by
  rw [Passage.lengthRight, h]
  simp [asGivenPassage, wholePassage_length k f payload payload [] hlen, hn]

theorem lengthRight_of_open {k : FrameKind} (p : Passage) (h : k.fixedLength = none) : p.lengthRight k = true := by
  rw [Passage.lengthRight, h]

/-- The trailer that a RESULT gives at a station (R10). -/
theorem trailerOut_result (k : FrameKind) (f : Frame) (payload : List Byte) (r : Result) {s u : State} (h : u.offLine = s.offLine) :
    trailerOut (trailerResult (asGivenPassage k f payload) r u) f.result f.resultComplement = resultTrailer f r s := by
  have htarget : singleTarget (asGivenPassage k f payload) u = ownTarget f s := by
    rw [singleTarget, stationNumber_of_offLine h]
    rfl
  rw [trailerResult, htarget, resultTrailer]
  cases ownTarget f s <;> rfl

/-- A good COMMAND addressed to the station is judged in a state that agrees beside the lines, and its RESULT goes into the trailer (R7, R10,
R172). -/
theorem exec_command {c : Cmd} {f : Frame} {args : List Byte} {s : State} (h : Addressed c f args s) :
    ∃ t u, exec (commandInstr c f args) s = .next t ∧ u.offLine = s.offLine ∧
      t.offLine = (judgeCommand (c.code :: args) u).1.offLine ∧
      t.out.sent = sentBytes f .command (c.code :: args) ++ resultTrailer f (judgeCommand (c.code :: args) u).2 s := by
  obtain ⟨harrives, hgood, htarget⟩ := h
  have hrow : exec (commandInstr c f args) s = exec (frameInstr .command f (c.code :: args)) s := by cases c <;> rfl
  obtain ⟨t, u, hexec, hu, hoff, hsent⟩ := exec_plainFrame (.inr (.inr (.inl rfl))) harrives hgood (by simp)
    (lengthRight_of_open _ rfl)
  have hto : matchesTarget u (asGivenPassage .command f (c.code :: args)).target.toNat = true :=
    (matchesTarget_of_offLine hu _).trans htarget
  simp only [actOn, hto, if_true, asGivenPassage_payload .command f _ (payload_length_le harrives)] at hoff hsent
  refine ⟨t, u, hrow.trans hexec, hu, hoff, ?_⟩
  rw [hsent, ← trailerOut_result .command f (c.code :: args) _ hu]
  rfl

theorem Cmd.ofByte_code (c : Cmd) : Cmd.ofByte c.code = some c := by cases c <;> rfl

/-- A command of a known code, in a state that accepts it, is noticed if it is of the configuration class, and then run (R164, R172). -/
theorem judgeCommand_accepted {c : Cmd} {s : State} (args : List Byte) (h : c.acceptedIn s.stn.state = true) :
    judgeCommand (c.code :: args) s = runCommand c args (if c.configClass then noticeConfig s else s) := by
  have hstate : (if c.configClass then noticeConfig s else s).stn.state = s.stn.state := by
    unfold noticeConfig
    (repeat' split) <;> rfl
  simp only [judgeCommand, c.ofByte_code, hstate, h, if_true]

end Sys2Proof.Machine

-- ==== Sys2Proof/Proofs/CuesAndLoads.lean ====
/-! PROOF. CUE and REMOTE frames that pass (R35, R12), and LOADs: the payload's entries by their address, the judgment of R28, and what an
accepted one writes (R27, R29). -/

namespace Sys2Proof.Machine

open Sys2Proof (Byte Frame)

/-! ### CUE and REMOTE frames -/

/-- Whether a group field reaches the Dispatcher (R35). -/
theorem takeCue_eq (group cue : Byte) (s : State) :
    takeCue [group, cue] s =
      if group = 255#8 ∨ (group.toNat < 16 ∧ s.stn.items.groupSet.getLsbD group.toNat = true) then cueArrival cue.toNat .loop s
      else s := rfl

/-- Settles O3: the frame passes as it came, and its owner takes it in a state that agrees beside the lines. -/
theorem cueAndRemoteFramesPass : Obligations.CueAndRemoteFramesPass := by
  unfold Obligations.CueAndRemoteFramesPass
  refine ⟨fun f group cue s h hgood hown => ?_, fun f key station s h hgood hown => ?_⟩
  · obtain ⟨t, u, hexec, hu, hoff, hsent⟩ := exec_plainFrame (.inl rfl) h hgood (fun _ => hown)
      (lengthRight_of_fixed (n := 2) rfl rfl (payload_length_le h))
    refine ⟨t, hexec, by simpa [FrameKind.hasTrailer] using hsent, hoff.trans ?_⟩
    have hstn : u.stn = s.stn := show u.offLine.stn = s.offLine.stn by rw [hu]
    rw [actOn, asGivenPassage_payload .cue f _ (payload_length_le h), takeCue_eq, hstn]
    split
    · exact offLine_congr (cueArrival_offLine cue.toNat .loop) hu
    · exact hu
  · obtain ⟨t, u, hexec, hu, hoff, hsent⟩ := exec_plainFrame (.inr (.inl rfl)) h hgood (fun _ => hown)
      (lengthRight_of_fixed (n := 2) rfl rfl (payload_length_le h))
    exact ⟨t, hexec, by simpa [FrameKind.hasTrailer] using hsent, hoff.trans hu⟩

/-! ### The entries of a LOAD -/

/-- The two-byte entries by their place (R27). -/
theorem pairs_eq (l : List Byte) :
    pairs l = (List.range (l.length / 2)).map fun i => word16 (l.getD (2 * i) 0#8) (l.getD (2 * i + 1) 0#8) := by
  induction l using pairs.induct with
  | case1 hi lo rest ih =>
    rw [pairs, ih, show (hi :: lo :: rest).length / 2 = rest.length / 2 + 1 by simp only [List.length_cons]; omega,
      List.range_succ_eq_map, List.map_cons, List.map_map]
    rfl
  | case2 l h =>
    match l with
    | [] => rfl
    | [_] => simp [pairs]
    | _ :: _ :: _ => exact absurd rfl (h _ _ _)

/-- The four-byte entries by their place (R27). -/
theorem quads_eq (l : List Byte) :
    quads l = (List.range (l.length / 4)).map fun i =>
      ⟨l.getD (4 * i) 0#8, l.getD (4 * i + 1) 0#8, l.getD (4 * i + 2) 0#8, l.getD (4 * i + 3) 0#8⟩ := by
  induction l using quads.induct with
  | case1 v a b d rest ih =>
    rw [quads, ih, show (v :: a :: b :: d :: rest).length / 4 = rest.length / 4 + 1 by simp only [List.length_cons]; omega,
      List.range_succ_eq_map, List.map_cons, List.map_map]
    rfl
  | case2 l h =>
    match l with
    | [] => rfl
    | [_] => simp [quads]
    | [_, _] => simp [quads]
    | [_, _, _] => simp [quads]
    | _ :: _ :: _ :: _ :: _ => exact absurd rfl (h _ _ _ _ _)

/-- Entry `i` of a LOAD of four-byte entries (R27). -/
def loadStep (payload : List Byte) (i : Nat) : PoolStep :=
  let at4 := fun j => payload.getD (4 + 4 * i + j) 0#8
  ⟨at4 0, at4 1, at4 2, at4 3⟩

/-- The entries a LOAD in range carries, by its table (R27). -/
def loadEntries (payload : List Byte) : LoadEntries :=
  let places := List.range (loadCount payload)
  if payload.getD 0 0#8 = 1#8 then .index (loadStart payload) (places.map fun i => entryOf (loadField payload i))
  else if payload.getD 0 0#8 = 2#8 then .pool (loadStart payload) (places.map (loadStep payload))
  else .curve (loadStart payload) (places.map (loadField payload))

theorem loadField_cons (tb hi lo n : Byte) (rest : List Byte) (i : Nat) :
    loadField (tb :: hi :: lo :: n :: rest) i = word16 (rest.getD (2 * i) 0#8) (rest.getD (2 * i + 1) 0#8) := by
  rw [loadField, show 4 + 2 * i = 2 * i + 4 by omega, show 5 + 2 * i = 2 * i + 1 + 4 by omega]
  rfl

theorem loadStep_cons (tb hi lo n : Byte) (rest : List Byte) (i : Nat) :
    loadStep (tb :: hi :: lo :: n :: rest) i =
      ⟨rest.getD (4 * i) 0#8, rest.getD (4 * i + 1) 0#8, rest.getD (4 * i + 2) 0#8, rest.getD (4 * i + 3) 0#8⟩ := by
  have h : ∀ j, 4 + 4 * i + j = 4 * i + j + 4 := fun j => by omega
  simp only [loadStep, h]
  rfl

theorem pairs_loadField (tb hi lo n : Byte) (rest : List Byte) (h : rest.length = n.toNat * 2) :
    pairs rest = (List.range n.toNat).map (loadField (tb :: hi :: lo :: n :: rest)) := by
  rw [pairs_eq, h, Nat.mul_div_cancel _ (by decide)]
  exact List.map_congr_left fun i _ => (loadField_cons tb hi lo n rest i).symm

theorem quads_loadStep (tb hi lo n : Byte) (rest : List Byte) (h : rest.length = n.toNat * 4) :
    quads rest = (List.range n.toNat).map (loadStep (tb :: hi :: lo :: n :: rest)) := by
  rw [quads_eq, h, Nat.mul_div_cancel _ (by decide)]
  exact List.map_congr_left fun i _ => (loadStep_cons tb hi lo n rest i).symm

/-- An entry of the cue index is good where R28 finds nothing wrong with it. -/
theorem entryGood_entryOf (v : Nat) : entryGood (entryOf v) = decide (v % 512 ≤ 479 ∧ v % 512 + v / 8192 ≤ 480) := by
  rw [Bool.decide_and]
  rfl

section
variable (hi lo n : Byte) (rest : List Byte)

/-- A LOAD of the cue index (R27, R28). -/
theorem parseLoad_cueIndex : parseLoad (1#8 :: hi :: lo :: n :: rest) =
    if n.toNat = 0 ∨ rest.length ≠ n.toNat * 2 ∨ word16 hi lo < 1 ∨ 239 < word16 hi lo + n.toNat - 1 then none
    else if ((pairs rest).map entryOf).all entryGood = true then some (.index (word16 hi lo) ((pairs rest).map entryOf)) else none := rfl

/-- A LOAD of the step pool (R27, R28). -/
theorem parseLoad_stepPool : parseLoad (2#8 :: hi :: lo :: n :: rest) =
    if n.toNat = 0 ∨ rest.length ≠ n.toNat * 4 ∨ word16 hi lo < 0 ∨ 479 < word16 hi lo + n.toNat - 1 then none
    else some (.pool (word16 hi lo) (quads rest)) := rfl

/-- A LOAD of the dissolve curve (R27, R28). -/
theorem parseLoad_curve : parseLoad (3#8 :: hi :: lo :: n :: rest) =
    if n.toNat = 0 ∨ rest.length ≠ n.toNat * 2 ∨ word16 hi lo < 0 ∨ 16 < word16 hi lo + n.toNat - 1 then none
    else if (pairs rest).all (fun v => decide (v ≤ 1023)) = true then some (.curve (word16 hi lo) (pairs rest)) else none := rfl

/-- What R28 asks of a LOAD of the cue index. -/
theorem loadInRange_cueIndex : loadInRange (1#8 :: hi :: lo :: n :: rest) = true ↔
    (n.toNat ≠ 0 ∧ rest.length = n.toNat * 2 ∧ 1 ≤ word16 hi lo ∧ word16 hi lo + n.toNat ≤ 240) ∧
    ∀ i < n.toNat, entryGood (entryOf (loadField (1#8 :: hi :: lo :: n :: rest) i)) = true := by
  have hcount : loadCount (1#8 :: hi :: lo :: n :: rest) = n.toNat := rfl
  have hstart : loadStart (1#8 :: hi :: lo :: n :: rest) = word16 hi lo := rfl
  simp only [entryGood_entryOf, loadInRange, hcount, hstart, List.getD_cons_zero, List.length_cons, if_true, Bool.and_eq_true,
    decide_eq_true_eq, bne_iff_ne, beq_iff_eq, List.all_eq_true, List.mem_range, ← and_assoc]
  exact and_congr_left fun _ => by omega

/-- What R28 asks of a LOAD of the step pool. -/
theorem loadInRange_stepPool : loadInRange (2#8 :: hi :: lo :: n :: rest) = true ↔
    n.toNat ≠ 0 ∧ rest.length = n.toNat * 4 ∧ word16 hi lo + n.toNat ≤ 480 := by
  have hcount : loadCount (2#8 :: hi :: lo :: n :: rest) = n.toNat := rfl
  have hstart : loadStart (2#8 :: hi :: lo :: n :: rest) = word16 hi lo := rfl
  simp only [loadInRange, hcount, hstart, List.getD_cons_zero, List.length_cons, if_true, Bool.and_eq_true,
    decide_eq_true_eq, bne_iff_ne, beq_iff_eq, show ¬ (2#8 = 1#8) by decide, if_false]
  omega

/-- What R28 asks of a LOAD of the dissolve curve. -/
theorem loadInRange_curve : loadInRange (3#8 :: hi :: lo :: n :: rest) = true ↔
    (n.toNat ≠ 0 ∧ rest.length = n.toNat * 2 ∧ word16 hi lo + n.toNat ≤ 17) ∧
    ∀ i < n.toNat, loadField (3#8 :: hi :: lo :: n :: rest) i ≤ 1023 := by
  have hcount : loadCount (3#8 :: hi :: lo :: n :: rest) = n.toNat := rfl
  have hstart : loadStart (3#8 :: hi :: lo :: n :: rest) = word16 hi lo := rfl
  simp only [loadInRange, hcount, hstart, List.getD_cons_zero, List.length_cons, if_true, Bool.and_eq_true,
    decide_eq_true_eq, bne_iff_ne, beq_iff_eq, List.all_eq_true, List.mem_range, show ¬ (3#8 = 1#8) by decide,
    show ¬ (3#8 = 2#8) by decide, if_false, ← and_assoc]
  exact and_congr_left fun _ => by omega

/-- A payload of another table is out of range (R28). -/
theorem load_otherTable {tb : Byte} (h1 : tb ≠ 1#8) (h2 : tb ≠ 2#8) (h3 : tb ≠ 3#8) :
    parseLoad (tb :: hi :: lo :: n :: rest) = none ∧ loadInRange (tb :: hi :: lo :: n :: rest) = false := by
  simp [parseLoad, LoadTable.ofByte, loadInRange, h1, h2, h3]

end

/-- A LOAD's payload parses exactly where it is in range, and then to its entries (R27, R28). -/
theorem parseLoad_eq (payload : List Byte) :
    parseLoad payload = if loadInRange payload = true then some (loadEntries payload) else none := by
  match payload with
  | [] => rfl
  | [_] => rfl
  | [_, _] => rfl
  | [_, _, _] => rfl
  | tb :: hi :: lo :: n :: rest =>
    by_cases h1 : tb = 1#8
    · subst h1
      rw [parseLoad_cueIndex]
      by_cases hshape : n.toNat ≠ 0 ∧ rest.length = n.toNat * 2 ∧ 1 ≤ word16 hi lo ∧ word16 hi lo + n.toNat ≤ 240
      · rw [if_neg (by omega), pairs_loadField 1#8 hi lo n rest hshape.2.1, List.map_map]
        refine if_congr ?_ rfl rfl
        rw [loadInRange_cueIndex]
        simp [hshape]
      · rw [if_pos (by omega), if_neg (fun h => hshape ((loadInRange_cueIndex hi lo n rest).1 h).1)]
    by_cases h2 : tb = 2#8
    · subst h2
      rw [parseLoad_stepPool]
      by_cases hshape : n.toNat ≠ 0 ∧ rest.length = n.toNat * 4 ∧ word16 hi lo + n.toNat ≤ 480
      · rw [if_neg (by omega), quads_loadStep 2#8 hi lo n rest hshape.2.1, if_pos ((loadInRange_stepPool hi lo n rest).2 hshape)]
        rfl
      · rw [if_pos (by omega), if_neg (mt (loadInRange_stepPool hi lo n rest).1 hshape)]
    by_cases h3 : tb = 3#8
    · subst h3
      rw [parseLoad_curve]
      by_cases hshape : n.toNat ≠ 0 ∧ rest.length = n.toNat * 2 ∧ word16 hi lo + n.toNat ≤ 17
      · rw [if_neg (by omega), pairs_loadField 3#8 hi lo n rest hshape.2.1]
        refine if_congr ?_ rfl rfl
        rw [loadInRange_curve]
        simp [hshape]
      · rw [if_pos (by omega), if_neg (fun h => hshape ((loadInRange_curve hi lo n rest).1 h).1)]
    obtain ⟨hparse, hrange⟩ := load_otherTable hi lo n rest h1 h2 h3
    rw [hparse, hrange]
    rfl

/-- A LOAD in range names one of the three tables (R28). -/
theorem table_of_loadInRange {payload : List Byte} (h : loadInRange payload = true) :
    payload.getD 0 0#8 = 1#8 ∨ payload.getD 0 0#8 = 2#8 ∨ payload.getD 0 0#8 = 3#8 := by
  by_contra hno
  simp only [not_or] at hno
  obtain ⟨h1, h2, h3⟩ := hno
  simp only [loadInRange, h1, h2, h3, if_false, Bool.and_false] at h
  exact absurd h nofun

theorem loadEntries_cueIndex {payload : List Byte} (h : payload.getD 0 0#8 = 1#8) :
    loadEntries payload =
      .index (loadStart payload) ((List.range (loadCount payload)).map fun i => entryOf (loadField payload i)) := if_pos h

theorem loadEntries_stepPool {payload : List Byte} (h : payload.getD 0 0#8 = 2#8) :
    loadEntries payload = .pool (loadStart payload) ((List.range (loadCount payload)).map (loadStep payload)) := by
  simp only [loadEntries, h, if_true, show ¬ (2#8 = 1#8) by decide, if_false]

theorem loadEntries_curve {payload : List Byte} (h : payload.getD 0 0#8 = 3#8) :
    loadEntries payload = .curve (loadStart payload) ((List.range (loadCount payload)).map (loadField payload)) := by
  simp only [loadEntries, h, show ¬ (3#8 = 1#8) by decide, show ¬ (3#8 = 2#8) by decide, if_false]

theorem loadEntries_isCurve {payload : List Byte} (hrange : loadInRange payload = true) :
    (loadEntries payload).isCurve = true ↔ payload.getD 0 0#8 = 3#8 := by
  rcases table_of_loadInRange hrange with h | h | h
  · rw [loadEntries_cueIndex h, h]
    exact ⟨nofun, nofun⟩
  · rw [loadEntries_stepPool h, h]
    exact ⟨nofun, nofun⟩
  · rw [loadEntries_curve h]
    exact ⟨fun _ => h, fun _ => rfl⟩

/-! ### The judgment -/

/-- Judging a LOAD, by the first condition of R28 that holds. -/
theorem judgeLoad_eq (payload : List Byte) (s : State) :
    judgeLoad payload s =
      if s.stn.state ≠ .configuring ∧ s.stn.state ≠ .active then (s, .refusedState)
      else if loadInRange payload = false then (s, .refusedRange)
      else if payload.getD 0 0#8 = 3#8 ∧ s.stn.state ≠ .configuring then (s, .refusedLocked)
      else if s.disp.mirrorBusy = true then (s, .refusedBusy)
      else (writeLoad (loadEntries payload) s, .accepted) := by
  rw [judgeLoad, parseLoad_eq]
  split
  · rfl
  · by_cases hrange : loadInRange payload = true
    · simp only [hrange, if_true, loadEntries_isCurve hrange, Bool.true_eq_false, if_false]
    · simp [hrange]

/-- An accepted LOAD meets no condition of R28, and its entries are written (R27 to R29). -/
theorem judgeLoad_accepted {payload : List Byte} {s : State} (h : (judgeLoad payload s).2 = .accepted) :
    (s.stn.state = .configuring ∨ s.stn.state = .active) ∧ s.disp.mirrorBusy = false ∧ loadInRange payload = true ∧
    (judgeLoad payload s).1 = writeLoad (loadEntries payload) s := by
  rw [judgeLoad_eq] at h ⊢
  split at h
  · exact absurd h nofun
  · next hstate =>
    split at h
    · exact absurd h nofun
    · next hrange =>
      split at h
      · exact absurd h nofun
      · next hlocked =>
        split at h
        · exact absurd h nofun
        · next hbusy =>
          rw [if_neg hstate, if_neg hrange, if_neg hlocked, if_neg hbusy]
          exact ⟨by by_contra; simp_all, by simpa using hbusy, by simpa using hrange, rfl⟩

/-- A LOAD that is not accepted writes nothing (R29). -/
theorem judgeLoad_refused {payload : List Byte} {s : State} (h : (judgeLoad payload s).2 ≠ .accepted) : (judgeLoad payload s).1 = s := by
  rw [judgeLoad_eq] at h ⊢
  revert h
  (repeat' split) <;> simp

/-! ### What an accepted LOAD writes -/

/-- A run of entries stands from its position on, and every other place is as it was (R27). -/
theorem writeRun_getD {α : Type} {n : Nat} (xs : List α) (v : Vector α n) (pos i : Nat) (hi : i < n) (d : α) :
    (writeRun v pos xs).toList.getD i d = if pos ≤ i ∧ i < pos + xs.length then xs.getD (i - pos) d else v.toList.getD i d := by
  induction xs generalizing v pos with
  | nil =>
    rw [if_neg (by simp)]
    rfl
  | cons x xs ih =>
    have hset : (v.setIfInBounds pos x).toList.getD i d = if pos = i then x else v.toList.getD i d := by
      simp [List.getD_eq_getElem?_getD, hi]
      split <;> simp_all
    rw [writeRun, ih, hset, List.length_cons]
    by_cases hat : pos = i
    · subst hat
      rw [if_neg (by omega), if_pos rfl, if_pos (by omega), Nat.sub_self, List.getD_cons_zero]
    · by_cases hin : pos + 1 ≤ i ∧ i < pos + 1 + xs.length
      · obtain ⟨j, rfl⟩ : ∃ j, i = pos + 1 + j := ⟨i - (pos + 1), by omega⟩
        rw [if_pos hin, if_pos (by omega), show pos + 1 + j - (pos + 1) = j by omega, show pos + 1 + j - pos = j + 1 by omega,
          List.getD_cons_succ]
      · rw [if_neg hin, if_neg hat, if_neg (by omega)]

/-- A place among the entries of a LOAD. -/
theorem range_map_getD {α : Type} (g : Nat → α) (n i : Nat) (d : α) (h : i < n) : ((List.range n).map g).getD i d = g i := by
  simp [List.getD_eq_getElem?_getD, h]

/-- The pending bank is the one that takes what is written, and the live bank stays (R24). -/
theorem Dispatcher.setPending_banks (d : Dispatcher) (b : Bank) :
    (d.setPending b).pendingBank = b ∧ (d.setPending b).liveBank = d.liveBank ∧ (d.setPending b).live = d.live := by
  cases h : d.live <;>
    simp [Dispatcher.setPending, Dispatcher.pendingBank, Dispatcher.liveBank, Dispatcher.bank, BankName.other, h]

/-- Writing a LOAD leaves the live bank (R29). -/
theorem writeLoad_live (e : LoadEntries) (s : State) :
    (writeLoad e s).disp.liveBank = s.disp.liveBank ∧ (writeLoad e s).disp.live = s.disp.live := by
  cases e with
  | index | pool => exact (s.disp.setPending_banks _).2
  | curve => exact ⟨rfl, rfl⟩

/-- The cue index as a LOAD leaves it: its entries at their cues, and every other entry as it was (R23, R27). -/
theorem entry_writeRun (b : Bank) (start n : Nat) (field : Nat → Nat) (h1 : 1 ≤ start) (cue : Nat) (hcue : cue < 240) :
    Bank.entry { b with index := writeRun b.index (start - 1) ((List.range n).map fun i => entryOf (field i)) } cue =
      if start ≤ cue ∧ cue < start + n then ⟨field (cue - start) % 512, field (cue - start) / 8192⟩ else b.entry cue := by
  unfold Bank.entry
  by_cases h0 : cue = 0
  · rw [if_pos h0, if_neg (by omega), if_pos h0]
  · rw [if_neg h0, if_neg h0, writeRun_getD _ _ _ _ (by omega), List.length_map, List.length_range]
    by_cases hin : start ≤ cue ∧ cue < start + n
    · rw [if_pos hin, if_pos (by omega), range_map_getD _ _ _ _ (by omega), show cue - 1 - (start - 1) = cue - start by omega]
      rfl
    · rw [if_neg hin, if_neg (by omega)]

/-- A table as a LOAD leaves it: its entries at their addresses, and every other one as it was (R27). -/
theorem writeRun_range {α : Type} {m : Nat} (v : Vector α m) (start n : Nat) (g : Nat → α) (i : Nat) (hi : i < m) (d : α) :
    (writeRun v start ((List.range n).map g)).toList.getD i d =
      if start ≤ i ∧ i < start + n then g (i - start) else v.toList.getD i d := by
  rw [writeRun_getD _ _ _ _ hi, List.length_map, List.length_range]
  split
  · exact range_map_getD _ _ _ _ (by omega)
  · rfl

/-- The addresses of a LOAD of the cue index in range start at 1 (R28). -/
theorem one_le_loadStart {payload : List Byte} (hrange : loadInRange payload = true) (h : payload.getD 0 0#8 = 1#8) :
    1 ≤ loadStart payload := by
  by_contra hno
  simp only [loadInRange, h, if_true, show ¬ (1 ≤ loadStart payload ∧ loadStart payload + loadCount payload ≤ 240) by omega,
    decide_false, Bool.and_false, Bool.false_and] at hrange
  exact absurd hrange nofun

/-- Settles O14, clause by clause: the frame, the judgment, its first condition that holds, and the entries by table. -/
theorem loadFrameJudged : Obligations.LoadFrameJudged := by
  unfold Obligations.LoadFrameJudged
  refine ⟨fun f payload s h hgood htarget => ?_, fun payload s => ⟨?_, ?_, judgeLoad_refused, fun hacc => ?_⟩, fun payload s => ?_,
    fun payload s t h => ?_⟩
  · obtain ⟨t, u, hexec, hu, hoff, hsent⟩ := exec_plainFrame (.inr (.inr (.inr rfl))) h hgood (by simp) (lengthRight_of_open _ rfl)
    have hto : matchesTarget u (asGivenPassage .load f payload).target.toNat = true := (matchesTarget_of_offLine hu _).trans htarget
    have hjudged := judgeLoad_offLine payload (noticeConfig u)
    have hjudged' := judgeLoad_offLine payload (noticeConfig s)
    rw [offLine_congr noticeConfig_offLine hu] at hjudged
    simp only [actOn, hto, if_true, asGivenPassage_payload .load f _ (payload_length_le h)] at hoff hsent
    refine ⟨t, hexec, hoff.trans (hjudged.1.symm.trans hjudged'.1), ?_⟩
    rw [hsent, ← hjudged'.2, hjudged.2, ← trailerOut_result .load f payload _ hu]
    rfl
  · by_cases hacc : (judgeLoad payload s).2 = .accepted
    · rw [(judgeLoad_accepted hacc).2.2.2]
      exact (writeLoad_live _ s).1
    · rw [judgeLoad_refused hacc]
  · by_cases hacc : (judgeLoad payload s).2 = .accepted
    · rw [(judgeLoad_accepted hacc).2.2.2]
      exact (writeLoad_live _ s).2
    · rw [judgeLoad_refused hacc]
  · obtain ⟨hstate, hbusy, hrange, hwrite⟩ := judgeLoad_accepted hacc
    exact ⟨hstate, hbusy, loadEntries payload, by rw [parseLoad_eq, if_pos hrange], hwrite⟩
  · rw [judgeLoad_eq]
    (repeat' split) <;> rfl
  · obtain ⟨-, -, hrange, hwrite⟩ := judgeLoad_accepted (congrArg Prod.snd h)
    obtain rfl : t = writeLoad (loadEntries payload) s := by rw [← hwrite, h]
    refine ⟨fun htable => ?_, fun htable => ?_, fun htable => ?_⟩
    · rw [loadEntries_cueIndex htable]
      simp only [writeLoad, (s.disp.setPending_banks _).1]
      exact ⟨trivial, trivial, entry_writeRun _ _ _ _ (one_le_loadStart hrange htable)⟩
    · rw [loadEntries_stepPool htable]
      simp only [writeLoad, (s.disp.setPending_banks _).1]
      exact ⟨trivial, trivial, fun pos hpos => writeRun_range _ _ _ _ pos hpos _⟩
    · rw [loadEntries_curve htable]
      exact ⟨rfl, fun p hp => writeRun_range _ _ _ _ p hp _⟩

end Sys2Proof.Machine

-- ==== Sys2Proof/Proofs/CueArrivals.lean ====
/-! PROOF. Cue arrivals by station state, number and show state (R36 to R38, R40), with the HOLD and RESUME events they raise (R166, R132). -/

namespace Sys2Proof.Machine

open Sys2Proof (Byte)

/-! ### HOLD and RESUME events -/

/-- Entering a deck state, as the statements write it (R133). -/
theorem enterDeck_eq (d : DeckState) (s : State) : enterDeck d s = inDeckState d s := rfl

/-- The Station Controller's and the deck's part of a HOLD taken in RUNNING (R166, R132). -/
theorem deckHold_eq_afterHold (s : State) : deckHold { s with stn := { s.stn with showState := .held } } = afterHold s := by
  unfold deckHold afterHold brakeTo
  rcases hstate : s.deck.state with _ | _ | ⟨m, c⟩ | _ | _ | _ | _
  case braking => cases m <;> rfl
  all_goals rfl

/-- The Station Controller's and the deck's part of a RESUME taken in HELD (R166, R132). -/
theorem resumeShow_eq_afterResume (s : State) : resumeShow s = afterResume s := by
  unfold resumeShow deckResume afterResume brakeTo
  rcases hstate : s.deck.state with _ | _ | ⟨m, c⟩ | _ | hold | _ | _
  case braking => cases m <;> rfl
  case paused => cases hold <;> rfl
  all_goals rfl

theorem showRunning_iff (s : State) : showRunning s = true ↔ s.stn.state = .active ∧ s.stn.showState = .running := by
  simp [showRunning]

theorem showHeld_iff (s : State) : showHeld s = true ↔ s.stn.state = .active ∧ s.stn.showState = .held := by
  simp [showHeld]

/-- A HOLD event in ACTIVE (R166). -/
theorem holdEvent_active (s : State) (h : s.stn.state = .active) :
    holdEvent s = if s.stn.showState = .running then afterHold s else s := by
  rw [holdEvent, deckHold_eq_afterHold]
  exact if_congr (by simp [showRunning_iff, h]) rfl rfl

/-- With no record due nothing is routed (R46, R48). -/
theorem routeDueUpTo_none_due (n : Nat) (s : State) (h : showRunning s = true → ∀ r ∈ s.disp.schedule, r.remaining ≠ 0) :
    routeDueUpTo n s = s := by
  cases n with
  | zero => rfl
  | succ n =>
    unfold routeDueUpTo
    split
    · rfl
    · next r rest hs =>
      rw [if_neg]
      rintro ⟨hrun, hdue⟩
      exact h hrun r (by simp [hs]) hdue

/-- A RESUME event that finds the show HELD, with no record due (R166). -/
theorem resumeEvent_held (s : State) (h : s.stn.state = .active) (hheld : s.stn.showState = .held)
    (hdue : ∀ r ∈ s.disp.schedule, r.remaining ≠ 0) : resumeEvent s = afterResume s := by
  rw [resumeEvent, if_pos ((showHeld_iff s).2 ⟨h, hheld⟩), ← resumeShow_eq_afterResume, routeDue,
    routeDueUpTo_none_due _ _ (fun _ => by simpa using hdue)]

/-- A RESUME event finds nothing to do unless the show is HELD (R166). -/
theorem resumeEvent_of_not_held (s : State) (h : s.stn.showState ≠ .held) : resumeEvent s = s := by
  rw [resumeEvent, if_neg]
  exact fun hheld => h ((showHeld_iff s).1 hheld).2

/-! ### Arrivals by number -/

theorem cueArrival_not_active (cue : Nat) (src : CueSource) (s : State) (h : s.stn.state ≠ .active) :
    cueArrival cue src s = count .cuesIgnored s := if_pos h

/-- A cue arrival in ACTIVE, by its number (R37, R38). -/
theorem cueArrival_active (cue : Nat) (src : CueSource) (s : State) (h : s.stn.state = .active) :
    cueArrival cue src s =
      if cue = 0 then count .cuesNotMine s
      else if cue ≤ 239 then loadedCue cue src s
      else if cue = 240 then holdEvent (recordCue cue src s)
      else if cue = 241 then resumeEvent (recordCue cue src s)
      else if cue = 242 then commitCue src s
      else if cue = 243 then endOfShow (recordCue cue src s)
      else if cue = 244 then routeStep ⟨.home, 0, 0⟩ .ofShow (recordCue cue src s)
      else if cue = 248 then stepCue cue .advance src s
      else if cue = 249 then stepCue cue .reverse src s
      else count .cuesNotMine s := if_neg (not_not_intro h)

theorem cueArrival_loaded (cue : Nat) (src : CueSource) (s : State) (h : s.stn.state = .active) (h1 : 1 ≤ cue) (h239 : cue ≤ 239) :
    cueArrival cue src s = loadedCue cue src s := by
  rw [cueArrival_active cue src s h, if_neg (by omega), if_pos h239]

/-- One step of an expansion changes of the Dispatcher the list alone. -/
theorem expandStep_disp (cue : Nat) (s : State) (p : PoolStep) :
    ∃ l, (expandStep cue s p).disp = { s.disp with schedule := l } := by
  unfold expandStep
  split
  · exact ⟨_, rfl⟩
  · split
    · exact ⟨s.disp.schedule, by simp⟩
    · rw [schedule_spec]
      split <;> exact ⟨_, rfl⟩

theorem expandAll_disp (cue : Nat) (ps : List PoolStep) (s : State) :
    ∃ l, (ps.foldl (expandStep cue) s).disp = { s.disp with schedule := l } := by
  induction ps generalizing s with
  | nil => exact ⟨_, rfl⟩
  | cons p ps ih =>
    obtain ⟨l, hl⟩ := expandStep_disp cue s p
    obtain ⟨l', hl'⟩ := ih (expandStep cue s p)
    exact ⟨l', by rw [List.foldl_cons, hl', hl]⟩

/-- A cue with steps becomes the last cue (R37). -/
theorem loadedCue_lastCue (cue : Nat) (src : CueSource) (s : State) (h : (s.disp.liveBank.entry cue).count ≠ 0) :
    (loadedCue cue src s).disp.lastCue = cue ∧ (loadedCue cue src s).disp.lastSource = src := by
  obtain ⟨l, hl⟩ := expandAll_disp cue (s.disp.liveBank.steps (s.disp.liveBank.entry cue)) (recordCue cue src s)
  rw [loadedCue, if_neg h, hl]
  exact ⟨rfl, rfl⟩

/-- A cue 248 or 249 while the show runs is a step of the tray at once, and from the list while it is HELD (R38). -/
theorem stepCue_eq (cue : Nat) (v : Verb) (src : CueSource) (s : State) :
    stepCue cue v src s =
      if showRunning s = true then routeStep ⟨v, 1, 0⟩ .ofShow (recordCue cue src s)
      else schedule ⟨0, v, 1, 0, cue⟩ (recordCue cue src s) := rfl

theorem schedule_lastCue (r : Record) (s : State) :
    (schedule r s).disp.lastCue = s.disp.lastCue ∧ (schedule r s).disp.lastSource = s.disp.lastSource := by
  rw [schedule_spec]
  split <;> exact ⟨rfl, rfl⟩

theorem stepCue_lastCue (cue : Nat) (v : Verb) (src : CueSource) (s : State) :
    (stepCue cue v src s).disp.lastCue = cue ∧ (stepCue cue v src s).disp.lastSource = src := by
  rw [stepCue_eq]
  split
  · simp [recordCue]
  · exact schedule_lastCue ..

theorem afterHold_stn (s : State) : (afterHold s).stn = { s.stn with showState := .held } := by
  simp [← deckHold_eq_afterHold]

theorem afterResume_stn (s : State) : (afterResume s).stn = { s.stn with showState := .running } := by
  simp [← resumeShow_eq_afterResume, resumeShow]

/-- A number without meaning, and a cue without steps, are not the station's (R37, R38). -/
theorem cueArrival_notMine (cue : Nat) (src : CueSource) (s : State) (h : s.stn.state = .active)
    (hno : cue = 0 ∨ (cue ≤ 239 ∧ (s.disp.liveBank.entry cue).count = 0) ∨ (245 ≤ cue ∧ cue ≤ 247) ∨ 250 ≤ cue) :
    cueArrival cue src s = count .cuesNotMine s := by
  rw [cueArrival_active cue src s h]
  by_cases h0 : cue = 0
  · rw [if_pos h0]
  · rw [if_neg h0]
    by_cases h239 : cue ≤ 239
    · rw [if_pos h239, loadedCue, if_pos (by omega)]
    · (repeat rw [if_neg (by omega)])

/-- A cue with steps, a HOLD, and a system cue that steps the tray, homes it or ends the show become the last cue (R37, R38). -/
theorem cueArrival_lastCue (cue : Nat) (src : CueSource) (s : State) (h : s.stn.state = .active)
    (hmine : (1 ≤ cue ∧ cue ≤ 239 ∧ (s.disp.liveBank.entry cue).count ≠ 0) ∨ cue = 240 ∨ cue = 243 ∨ cue = 244 ∨ cue = 248 ∨
      cue = 249) :
    (cueArrival cue src s).disp.lastCue = cue ∧ (cueArrival cue src s).disp.lastSource = src := by
  have harrive := cueArrival_active cue src s h
  rcases hmine with ⟨h1, h239, hcount⟩ | rfl | rfl | rfl | rfl | rfl
  · rw [cueArrival_loaded cue src s h h1 h239]
    exact loadedCue_lastCue cue src s hcount
  · rw [show cueArrival 240 src s = holdEvent (recordCue 240 src s) from harrive]
    simp [recordCue]
  · rw [show cueArrival 243 src s = endOfShow (recordCue 243 src s) from harrive]
    simp [endOfShow, emptySchedule, recordCue]
  · rw [show cueArrival 244 src s = routeStep ⟨.home, 0, 0⟩ .ofShow (recordCue 244 src s) from harrive]
    simp [recordCue]
  · rw [show cueArrival 248 src s = stepCue 248 .advance src s from harrive]
    exact stepCue_lastCue 248 .advance src s
  · rw [show cueArrival 249 src s = stepCue 249 .reverse src s from harrive]
    exact stepCue_lastCue 249 .reverse src s

/-- Settles O34, by the cue's number. -/
theorem cueArrivalsSorted : Obligations.CueArrivalsSorted := by
  unfold Obligations.CueArrivalsSorted
  intro cue src s
  refine ⟨cueArrival_not_active cue src s, fun hactive => ?_⟩
  have harrive := cueArrival_active cue src s hactive
  have hrecorded : (recordCue cue src s).stn = s.stn := rfl
  have hhold : cue = 240 → cueArrival cue src s =
      if s.stn.showState = .running then afterHold (recordCue cue src s) else recordCue cue src s := by
    rintro rfl
    rw [harrive]
    exact holdEvent_active (recordCue 240 src s) hactive
  have hresume : cue = 241 → s.stn.showState = .held → (∀ r ∈ s.disp.schedule, r.remaining ≠ 0) →
      cueArrival cue src s = afterResume (recordCue cue src s) := by
    rintro rfl hheld hdue
    rw [harrive]
    exact resumeEvent_held (recordCue 241 src s) hactive hheld hdue
  have hstep : ∀ n v, cue = n → cueArrival cue src s = stepCue n v src s →
      (s.stn.showState = .running → cueArrival cue src s = routeStep ⟨v, 1, 0⟩ .ofShow (recordCue cue src s)) ∧
      (s.stn.showState = .held → cueArrival cue src s = schedule ⟨0, v, 1, 0, n⟩ (recordCue cue src s)) := by
    rintro n v rfl heq
    rw [heq, stepCue_eq]
    refine ⟨fun hrun => if_pos ((showRunning_iff s).2 ⟨hactive, hrun⟩), fun hheld => if_neg fun hrun => ?_⟩
    rw [((showRunning_iff s).1 hrun).2] at hheld
    exact absurd hheld nofun
  refine ⟨cueArrival_notMine cue src s hactive, cueArrival_lastCue cue src s hactive, fun h240 hrun => ?_, fun h241 hheld hdue => ?_, ?_,
    hhold, ?_, hresume, ?_, ?_, ?_, ?_, ?_, ?_⟩
  · rw [hhold h240, if_pos hrun, afterHold_stn, hrecorded]
  · rw [hresume h241 hheld hdue, afterResume_stn]
  · rintro rfl
    exact harrive
  · rintro rfl hnot
    exact harrive.trans (resumeEvent_of_not_held (recordCue 241 src s) hnot)
  · rintro rfl
    exact harrive
  · rintro rfl
    exact harrive
  · rintro rfl
    exact (hstep 248 .advance rfl harrive).1
  · rintro rfl
    exact (hstep 249 .reverse rfl harrive).1
  · rintro rfl
    exact (hstep 248 .advance rfl harrive).2
  · rintro rfl
    exact (hstep 249 .reverse rfl harrive).2

end Sys2Proof.Machine

-- ==== Sys2Proof/Proofs/CommandFrames.lean ====
/-! PROOF. COMMAND frames that reach the Dispatcher: COMMIT and CONFIG_CLOSE (R31, R33, R165), and direct steps of every verb at their
owners (R43, R41). -/

namespace Sys2Proof.Machine

open Sys2Proof (Byte Frame)

/-! ### COMMIT and CONFIG_CLOSE -/

theorem stn_of_offLine {s t : State} (h : s.offLine = t.offLine) : s.stn = t.stn := show s.offLine.stn = t.offLine.stn by rw [h]

theorem disp_of_offLine {s t : State} (h : s.offLine = t.offLine) : s.disp = t.disp := show s.offLine.disp = t.offLine.disp by rw [h]

/-- An update of the Dispatcher does not look at the lines. -/
theorem withDisp_of_offLine {s t : State} (h : s.offLine = t.offLine) (d : Dispatcher) :
    { s with disp := d }.offLine = { t with disp := d }.offLine :=
  congrArg (fun u : State => { u with disp := d }) h

/-- The close of configuration, beside the lines: commit or deferred commit, lock, ACTIVE RUNNING (R165, R33). -/
theorem closeConfiguration_offLine (s : State) :
    (closeConfiguration s).offLine = { s with
      disp := if s.disp.mirrorBusy then { s.disp with deferred := true }
        else { s.disp with live := s.disp.live.other, mirrorBusy := true, mirrorCopied := 0 }
      stn := { s.stn with state := .active, showState := .running, lock := true, window := .off } }.offLine :=
  restartSilence_offLine _

/-- The notice is lost in the end of the window (R164, R165). -/
theorem closeConfiguration_noticeConfig (s : State) :
    (closeConfiguration (noticeConfig s)).offLine = (closeConfiguration s).offLine := by
  rw [closeConfiguration_offLine, closeConfiguration_offLine]
  unfold noticeConfig
  split <;> rfl

theorem runCommand_commit (s : State) :
    runCommand .commit [] s =
      if s.disp.mirrorBusy = true then (s, .refusedBusy) else ({ s with disp := s.disp.commit }, .accepted) := rfl

/-- Settles O22: each command is judged in a state that agrees beside the lines. -/
theorem commitAndCloseSwapBanks : Obligations.CommitAndCloseSwapBanks := by
  unfold Obligations.CommitAndCloseSwapBanks
  intro f s
  have hcommit : Addressed .commit f [] s → s.stn.state = .configuring ∨ s.stn.state = .active →
      ∃ t u, exec (.commit f []) s = .next t ∧ (noticeConfig u).offLine = (noticeConfig s).offLine ∧
        (noticeConfig u).disp = s.disp ∧ t.offLine = (runCommand .commit [] (noticeConfig u)).1.offLine ∧
        t.out.sent = sentBytes f .command [4#8] ++ resultTrailer f (runCommand .commit [] (noticeConfig u)).2 s := fun h hstate => by
    obtain ⟨t, u, hexec, hu, hoff, hsent⟩ := exec_command h
    have haccepted : Cmd.acceptedIn .commit u.stn.state = true := by
      rw [stn_of_offLine hu]
      rcases hstate with h | h <;> rw [h] <;> rfl
    rw [judgeCommand_accepted [] haccepted, if_pos (show Cmd.configClass .commit = true from rfl)] at hoff hsent
    exact ⟨t, u, hexec, offLine_congr noticeConfig_offLine hu, by simp [disp_of_offLine hu], hoff, hsent⟩
  refine ⟨fun h hstate hidle => ?_, fun h hstate hbusy => ?_, fun h hstate => ?_⟩
  · obtain ⟨t, u, hexec, hu, hdisp, hoff, hsent⟩ := hcommit h hstate
    have hrun : runCommand .commit [] (noticeConfig u) = ({ noticeConfig u with disp := s.disp.commit }, .accepted) := by
      rw [runCommand_commit, hdisp, if_neg (by simp [hidle])]
    rw [hrun] at hoff hsent
    exact ⟨t, hexec, hsent, hoff.trans (withDisp_of_offLine hu s.disp.commit)⟩
  · obtain ⟨t, u, hexec, hu, hdisp, hoff, hsent⟩ := hcommit h hstate
    have hrun : runCommand .commit [] (noticeConfig u) = (noticeConfig u, .refusedBusy) := by
      rw [runCommand_commit, hdisp, if_pos hbusy]
    rw [hrun] at hoff hsent
    exact ⟨t, hexec, hsent, hoff.trans hu⟩
  · obtain ⟨t, u, hexec, hu, hoff, hsent⟩ := exec_command h
    have haccepted : Cmd.acceptedIn .configClose u.stn.state = true := by
      rw [stn_of_offLine hu, hstate]
      rfl
    rw [judgeCommand_accepted [] haccepted, if_pos (show Cmd.configClass .configClose = true from rfl)] at hoff hsent
    refine ⟨t, hexec, hsent, hoff.trans ?_⟩
    show (closeConfiguration (noticeConfig u)).offLine = _
    rw [closeConfiguration_noticeConfig, closeConfiguration_offLine, stn_of_offLine hu, disp_of_offLine hu]
    exact congrArg (fun v : State => { v with
      disp := if s.disp.mirrorBusy then { s.disp with deferred := true }
        else { s.disp with live := s.disp.live.other, mirrorBusy := true, mirrorCopied := 0 }
      stn := { s.stn with state := .active, showState := .running, lock := true, window := .off } }) hu

/-! ### Direct steps -/

theorem acceptedIn_step {s : State} (h : s.stn.state = .configuring ∨ s.stn.state = .active) :
    Cmd.acceptedIn .step s.stn.state = true := by
  rcases h with h | h <;> rw [h] <;> rfl

/-- A direct STEP of a verb code up to 10 is answered ACCEPTED and taken (R43). -/
theorem stepLeads_directStep {f : Frame} {v a b : Byte} {s : State} (h : Addressed .step f [v, a, b] s)
    (hstate : s.stn.state = .configuring ∨ s.stn.state = .active) (hv : v.toNat ≤ 10) :
    StepLeads f v a b s (directStep v a b s) := by
  obtain ⟨t, u, hexec, hu, hoff, hsent⟩ := exec_command h
  have hstate' : u.stn.state = .configuring ∨ u.stn.state = .active := by rwa [stn_of_offLine hu]
  rw [judgeCommand_accepted [v, a, b] (acceptedIn_step hstate')] at hoff hsent
  have hrun : runCommand .step [v, a, b] u = (directStep v a b u, .accepted) := if_neg (by omega)
  rw [show (if Cmd.configClass .step = true then noticeConfig u else u) = u from rfl, hrun] at hoff hsent
  exact ⟨t, hexec, hsent, hoff.trans (offLine_congr (directStep_offLine v a b) hu)⟩

/-- A direct step by its verb: a null step does nothing, a FOLLOW is a cue arrival, any other is routed (R26, R41, R43). -/
theorem directStep_of_verb {verb : Byte} {v : Verb} (h : Verb.ofCode verb.toNat = some v) (a b : Byte) (s : State) :
    directStep verb a b s =
      if nullStep v a.toNat = true then s
      else if v = .follow then cueArrival (clampArg v a.toNat) .follow s
      else routeStep ⟨v, clampArg v a.toNat, b.toNat⟩ .direct s := by
  rw [directStep, Step.ofBytes_spec, h]
  by_cases hnull : nullStep v a.toNat = true <;> simp [hnull]

/-- AFTER_DARK is bit 0 of b (R25). -/
theorem afterDarkOf_toNat (b : Byte) : afterDarkOf b.toNat = b.getLsbD 0 := by
  simp [afterDarkOf, BitVec.getLsbD, Nat.testBit_zero, beq_eq_decide]

theorem toNat_eq_zero_iff (a : Byte) : a.toNat = 0 ↔ a = 0#8 := by
  rw [← BitVec.toNat_inj]
  rfl

/-- SHUTTER sets the demand, and is null above 1 (R26, R67). -/
theorem directStep_shutter (a b : Byte) (s : State) :
    directStep 5#8 a b s = { s with tray := { s.tray with demand :=
      if a = 0#8 then .closed else if a = 1#8 then .opened else s.tray.demand } } := by
  have hone : a.toNat = 1 ↔ a = 1#8 := by
    rw [← BitVec.toNat_inj]
    rfl
  rw [directStep_of_verb (v := .shutter) rfl]
  simp only [nullStep, clampArg, routeStep, ← toNat_eq_zero_iff, ← hone, decide_eq_true_eq]
  by_cases h0 : a.toNat = 0
  · simp [h0, setDemand]
  · by_cases h1 : a.toNat = 1
    · simp [h1, setDemand]
    · rw [if_pos (by omega), if_neg h0, if_neg h1]

/-- ADVANCE is an offer of its clamped count, and null at 0 (R25, R26). -/
theorem directStep_advance (a b : Byte) (s : State) :
    directStep 1#8 a b s = if a = 0#8 then s else offerMove (.step (min a.toNat 15 : Nat)) (b.getLsbD 0) .direct s := by
  rw [directStep_of_verb (v := .advance) rfl, ← afterDarkOf_toNat]
  refine ite_congr (by simp [nullStep, toNat_eq_zero_iff]) (fun _ => rfl) fun hne => ?_
  have hpos : min a.toNat 15 ≠ 0 := by simp [toNat_eq_zero_iff, hne]
  exact if_neg hpos

/-- REVERSE is an offer of its clamped count backward, and null at 0 (R25, R26). -/
theorem directStep_reverse (a b : Byte) (s : State) :
    directStep 2#8 a b s = if a = 0#8 then s else offerMove (.step (-(min a.toNat 15 : Nat))) (b.getLsbD 0) .direct s := by
  rw [directStep_of_verb (v := .reverse) rfl, ← afterDarkOf_toNat]
  refine ite_congr (by simp [nullStep, toNat_eq_zero_iff]) (fun _ => rfl) fun hne => ?_
  have hpos : min a.toNat 15 ≠ 0 := by simp [toNat_eq_zero_iff, hne]
  exact if_neg hpos

/-! ### Lamp requests with no record waiting -/

/-- With no record waiting none starts (R58). -/
theorem startMoves_of_empty (s : State) (h : s.tray.queue = []) : startMoves s = s := by
  rw [startMoves, h]
  rfl

theorem setLamp_of_empty (l : Lamp) (s : State) (h : s.tray.queue = []) :
    setLamp l s = if l.state = s.lamp.state then { s with lamp := l } else chooseFan { s with lamp := l } := by
  rw [setLamp]
  split
  · exact startMoves_of_empty _ h
  · exact startMoves_of_empty _ h

/-- The lamp with a request of a level over tenths taken (R84, R85). -/
def Lamp.requested (l : Lamp) (level tenths : Nat) (o : Origin) : Lamp :=
  { l with
    ramp := ⟨l.p, level * 4096 / 255, tenths * 10, 0, o, true⟩
    lastTarget := if 0 < level * 4096 / 255 then some (level * 4096 / 255) else l.lastTarget }

theorem not_mainsLoss_of_open {st : StationState} (h : st = .configuring ∨ st = .active) : st ≠ .mainsLoss := by
  rcases h with h | h <;> rw [h] <;> nofun

/-- With no station state that calls for it or forbids it, the fan is chosen from the heat stage, the lamp and the trip causes (R107). -/
theorem fanWanted_open (s : State) (h : s.stn.state = .configuring ∨ s.stn.state = .active) :
    fanWanted s = max (max s.cool.heatStage (if s.lamp.burning = true then 1 else 0)) (if s.cool.tripped = true then 3 else 0) := by
  rcases h with h | h <;> simp [fanWanted, h]

/-- A LAMP request is ignored by an OFF lamp that a cause holds, and in TRIPPED and FAILED (R80). -/
theorem requestLamp_ignored (level tenths : Nat) (o : Origin) (s : State)
    (h : (s.lamp.state = .off ∧ s.cool.tripped = true) ∨ s.lamp.state = .tripped ∨ s.lamp.state = .failed) :
    requestLamp level tenths o s = s := by
  rw [requestLamp, requestPosition]
  split
  · rfl
  · rcases h with ⟨h, htripped⟩ | h | h
    · simp only [h, htripped, if_true]
    · simp only [h]
    · simp only [h]

section
variable (level tenths : Nat) (o : Origin) (s : State) (hqueue : s.tray.queue = [])
  (hstate : s.stn.state = .configuring ∨ s.stn.state = .active)

include hqueue hstate

/-- A LAMP request starts a ramp of a burning lamp (R85). -/
theorem requestLamp_burning (h : s.lamp.burning = true) :
    requestLamp level tenths o s = { s with lamp := s.lamp.requested level tenths o } := by
  have hset : setLamp (s.lamp.startRamp (levelPosition level) (tenths * 10) o) s = { s with lamp := s.lamp.requested level tenths o } := by
    rw [setLamp_of_empty _ _ hqueue]
    exact if_pos rfl
  rw [requestLamp, requestPosition, if_neg (not_mainsLoss_of_open hstate)]
  rcases hlamp : s.lamp.state <;> first | exact hset | simp [Lamp.burning, hlamp] at h

/-- A LAMP request lights an OFF lamp that no cause holds, and the fan runs for it (R80, R107). -/
theorem requestLamp_off (h : s.lamp.state = .off) (htripped : s.cool.tripped = false) :
    requestLamp level tenths o s = { s with
      lamp := { s.lamp.requested level tenths o with state := .warming }
      cool := s.cool.setStage (max s.cool.heatStage 1) } := by
  let l := ({ s.lamp with state := .warming } : Lamp).startRamp (levelPosition level) (tenths * 10) o
  have hfan : fanWanted { s with lamp := l } = max s.cool.heatStage 1 :=
    (fanWanted_open { s with lamp := l } hstate).trans (by simp [htripped, l, Lamp.startRamp, Lamp.burning])
  rw [requestLamp, requestPosition, if_neg (not_mainsLoss_of_open hstate)]
  simp only [h, htripped, Bool.false_eq_true, if_false]
  rw [setLamp_of_empty _ _ hqueue, if_neg (by rw [h]; exact nofun), chooseFan, hfan]
  rfl

/-- LAMP_OFF puts a burning or FAILED lamp out (R81). -/
theorem requestLampOff_out (h : s.lamp.burning = true ∨ s.lamp.state = .failed) :
    requestLampOff s = { s with
      lamp := { s.lamp with
        state := .off, p := 0, drive := 0, slewMem := 0, failCount := 0
        ramp := { s.lamp.ramp with running := false, target := 0 } }
      cool := s.cool.setStage (max s.cool.heatStage (if s.cool.tripped then 3 else 0)) } := by
  have hfan : fanWanted { s with lamp := s.lamp.extinguish .off } = max s.cool.heatStage (if s.cool.tripped then 3 else 0) :=
    (fanWanted_open { s with lamp := s.lamp.extinguish .off } hstate).trans (by simp [Lamp.extinguish, Lamp.burning])
  have hset : s.lamp.state ≠ .off → setLamp (s.lamp.extinguish .off) s = { s with
      lamp := s.lamp.extinguish .off
      cool := s.cool.setStage (max s.cool.heatStage (if s.cool.tripped then 3 else 0)) } := fun hne => by
    rw [setLamp_of_empty _ _ hqueue, if_neg (fun e => hne e.symm), chooseFan, hfan]
  rw [requestLampOff]
  rcases hlamp : s.lamp.state <;> first | exact hset (by rw [hlamp]; exact nofun) | simp [Lamp.burning, hlamp] at h

end

/-- LAMP_OFF is ignored in OFF and TRIPPED (R81). -/
theorem requestLampOff_ignored (s : State) (h : s.lamp.state = .off ∨ s.lamp.state = .tripped) : requestLampOff s = s := by
  rw [requestLampOff]
  rcases h with h | h <;> simp only [h]

/-! ### Tape commands -/

/-- The decoder gate and its timer stand only in PLAYING (R133). -/
def GateInPlaying (s : State) : Prop :=
  (s.deck.gateOpen = true → s.deck.state = .playing) ∧ (s.deck.gateTimer = true → s.deck.state = .playing)

theorem DeckLaw.gateInPlaying {s : State} (h : DeckLaw s) : GateInPlaying s := by
  obtain ⟨-, -, -, -, hgate, htimer, -⟩ := h
  exact ⟨hgate, htimer⟩

theorem DeckLaw.strapDeck {s : State} (h : DeckLaw s) (hstate : s.deck.state ≠ .noCassette) : s.stn.strapDeck = true := by
  obtain ⟨-, -, -, hstrap, -⟩ := h
  by_contra hno
  exact hstate (hstrap (by simpa using hno))

/-- With the gate closed and its timer still, a deck state other than PLAYING is entered with no change beside it. -/
theorem inDeckState_of_gate {s : State} (hgate : GateInPlaying s) (hstate : s.deck.state ≠ .playing) (d : DeckState) (hd : d ≠ .playing) :
    inDeckState d s = { s with deck := { s.deck with state := d } } := by
  have hopen : s.deck.gateOpen = false := by
    by_contra hno
    exact hstate (hgate.1 (by simpa using hno))
  have htimer : s.deck.gateTimer = false := by
    by_contra hno
    exact hstate (hgate.2 (by simpa using hno))
  simp [inDeckState, hopen, htimer, hd]

section
variable {s : State} (hgate : GateInPlaying s) (h : s.deck.state ≠ .noCassette)

include hgate h

/-- "Brake to" leads to the state of the tables, from every state that holds a cassette (R125, R126). -/
theorem brakeTo_eq (m : Pending) : brakeTo m s = inDeckState (brakedTo m s.deck.state) s := by
  unfold brakeTo
  split
  case h_1 c hs =>
    rw [hs]
    exact (inDeckState_of_gate hgate (by simp [hs]) (.braking m c) nofun).symm
  case h_2 hs => exact absurd hs h
  all_goals next hs => rw [hs]; rfl

/-- STOP brakes to STOPPED, and does nothing where the deck is there (R126). -/
theorem tapeStop_eq : tapeStop s = if s.deck.state = .stopped then s else inDeckState (brakedTo .stopped s.deck.state) s := by
  rw [← brakeTo_eq hgate h, tapeStop]
  split <;> simp_all

/-- REW_TO_ZERO with the counter above 0, by the table of R127. -/
theorem tapeRewToZero_pos (hcounter : 0 < s.deck.counter) :
    tapeRewToZero s = { inDeckState (rewToZeroTable s.deck.state) s with attn := s.attn.sideClear .tapeEnd } := by
  have hbrake := brakeTo_eq hgate h (.windingRev true)
  unfold tapeRewToZero
  rw [if_neg (by omega)]
  split
  case h_1 hs => exact absurd hs h
  case h_2 z hs =>
    rw [hs, show rewToZeroTable (.windingRev z) = .windingRev true from rfl,
      inDeckState_of_gate hgate (by simp [hs]) (.windingRev true) nofun]
    rfl
  all_goals next hs => rw [hbrake, hs]; rfl

/-- The state after a mode command that leads to `d`, TAPE_END cleared where the mode is a motion mode (R126). -/
def afterMode (m : TapeMode) (d : DeckState) (s : State) : State :=
  { inDeckState d s with attn := if m = .stop ∨ m = .pause then s.attn else s.attn.sideClear .tapeEnd }

/-- A mode command acts by the table of R126. -/
theorem tapeCommand_mode (hstrap : s.stn.strapDeck = true) {m : TapeMode} (hzero : m ≠ .zeroCounter) (hrew : m ≠ .rewToZero) :
    tapeCommand m s = (modeTable m s.deck.state).elim s fun d => afterMode m d s := by
  have hbrake := brakeTo_eq hgate h
  unfold tapeCommand
  rw [if_neg (by simp [hstrap, h])]
  cases m with
  | zeroCounter => contradiction
  | rewToZero => contradiction
  | stop =>
    show tapeStop s = _
    rw [tapeStop_eq hgate h]
    rcases hs : s.deck.state with _ | _ | _ | _ | _ | _ | _ <;> rfl
  | pause =>
    show tapePause s = _
    unfold tapePause
    rcases hs : s.deck.state with _ | _ | _ | _ | _ | _ | _ <;> rfl
  | play =>
    show tapePlay s = _
    unfold tapePlay
    split
    case h_1 hs => exact absurd hs h
    case h_2 hs => rw [hs]; rfl
    case h_3 hs => rw [hs]; rfl
    all_goals next hs => rw [hbrake, hs]; rfl
  | windFwd =>
    show tapeWindFwd s = _
    unfold tapeWindFwd
    split
    case h_1 hs => exact absurd hs h
    case h_2 hs => rw [hs]; rfl
    all_goals next hs => rw [hbrake, hs]; rfl
  | rewind =>
    show tapeRewind s = _
    unfold tapeRewind
    split
    case h_1 hs => exact absurd hs h
    case h_2 z hs =>
      rw [hs, show modeTable .rewind (.windingRev z) = some (.windingRev false) from rfl, Option.elim_some, afterMode,
        inDeckState_of_gate hgate (by simp [hs]) (.windingRev false) nofun]
      rfl
    all_goals next hs => rw [hbrake, hs]; rfl

end

/-- ZERO_COUNTER: a rewind to zero has then arrived (R126, R130). -/
theorem setCounter_zero (s : State) :
    setCounter 0 s =
      if s.deck.state = .windingRev true then
        inDeckState (.braking .stopped .backward) { s with deck := { s.deck with counter := 0 } }
      else { s with deck := { s.deck with counter := 0 } } := by
  unfold setCounter
  dsimp only
  by_cases h : s.deck.state = .windingRev true
  · rw [if_pos ⟨rfl, h⟩, if_pos h]
    simp only [brakeTo, h]
    rfl
  · rw [if_neg (fun hc => h hc.2), if_neg h]

/-- A TAPE step of a mode is that mode's command, and of any other code nothing (R41). -/
theorem routeStep_tape (a b : Nat) (o : Origin) (s : State) :
    routeStep ⟨.tape, a, b⟩ o s = (TapeMode.ofCode a).elim s fun m => tapeCommand m s := by
  simp only [routeStep]
  split
  · next m hm => rw [hm]; rfl
  · next hm => rw [hm]; rfl

theorem directStep_tape (a b : Byte) (s : State) :
    directStep 9#8 a b s = (TapeMode.ofCode a.toNat).elim s fun m => tapeCommand m s := by
  rw [directStep_of_verb (v := .tape) rfl]
  rcases hm : TapeMode.ofCode a.toNat with _ | m
  · rw [if_pos (by simp [nullStep, hm])]
    rfl
  · rw [if_neg (by simp [nullStep, hm]), if_neg nofun]
    exact (routeStep_tape a.toNat b.toNat .direct s).trans (by rw [hm])

/-- Settles O20: each direct step is a routed step of its verb, taken by its owner. -/
theorem stepCommandActs : Obligations.StepCommandActs := by
  unfold Obligations.StepCommandActs
  refine ⟨fun f v a b s hstate => ?_, fun f a b s hstate hqueue => ?_, fun f a b m s hstate h hm hlaw => ?_⟩
  · have hlead : ∀ {w : Byte} {t : State}, w.toNat ≤ 10 → directStep w a b s = t → Addressed .step f [w, a, b] s →
        StepLeads f w a b s t := fun hw ht h => ht ▸ stepLeads_directStep h hstate hw
    refine ⟨fun h hv => ?_, hlead (by decide) rfl, hlead (by decide) (directStep_of_verb (v := .follow) rfl a b s),
      hlead (by decide) (directStep_shutter a b s), hlead (by decide) (directStep_of_verb (v := .sound) rfl a b s),
      hlead (by decide) (directStep_advance a b s), hlead (by decide) (directStep_reverse a b s), hlead (by decide) ?_,
      hlead (by decide) (directStep_of_verb (v := .home) rfl a b s)⟩
    · obtain ⟨t, u, hexec, hu, hoff, hsent⟩ := exec_command h
      have hstate' : u.stn.state = .configuring ∨ u.stn.state = .active := by rwa [stn_of_offLine hu]
      rw [judgeCommand_accepted [v, a, b] (acceptedIn_step hstate'),
        show runCommand .step [v, a, b] (if Cmd.configClass .step = true then noticeConfig u else u) = (u, .refusedRange) from if_pos hv]
        at hoff hsent
      exact ⟨t, hexec, hoff.trans hu, hsent⟩
    · rw [directStep_of_verb (v := .goto) rfl, ← afterDarkOf_toNat]
      rfl
  · have hlead : ∀ {w : Byte} {t : State}, w.toNat ≤ 10 → directStep w a b s = t → Addressed .step f [w, a, b] s →
        StepLeads f w a b s t := fun hw ht h => ht ▸ stepLeads_directStep h hstate hw
    have hlamp : directStep 6#8 a b s = requestLamp a.toNat b.toNat .direct s := directStep_of_verb (v := .lamp) rfl a b s
    have hlampOff : directStep 7#8 a b s = requestLampOff s := directStep_of_verb (v := .lampOff) rfl a b s
    refine ⟨fun h => ⟨fun hburn => ?_, fun hoff htrip => ?_, fun hno => ?_⟩, fun h => ⟨fun hout => ?_, fun hno => ?_⟩⟩
    · exact hlead (by decide) (hlamp.trans (requestLamp_burning _ _ _ s hqueue hstate hburn)) h
    · exact hlead (by decide) (hlamp.trans (requestLamp_off _ _ _ s hqueue hstate hoff htrip)) h
    · exact hlead (by decide) (hlamp.trans (requestLamp_ignored _ _ _ s hno)) h
    · exact hlead (by decide) (hlampOff.trans (requestLampOff_out s hqueue hstate hout)) h
    · exact hlead (by decide) (hlampOff.trans (requestLampOff_ignored s hno)) h
  · have hlead : ∀ {t : State}, tapeCommand m s = t → StepLeads f 9#8 a b s t := fun ht => by
      rw [← ht, ← show directStep 9#8 a b s = tapeCommand m s by rw [directStep_tape, hm]; rfl]
      exact stepLeads_directStep h hstate (by decide)
    refine ⟨fun hno => hlead (if_pos (.inr hno)), fun hcassette => ?_⟩
    have hgate := hlaw.gateInPlaying
    have hstrap := hlaw.strapDeck hcassette
    have hmode := tapeCommand_mode hgate hcassette hstrap (m := m)
    cases m with
    | zeroCounter => exact hlead ((if_neg (by simp [hstrap, hcassette])).trans (setCounter_zero s))
    | rewToZero =>
      refine hlead (Eq.trans (b := tapeRewToZero s) (if_neg (by simp [hstrap, hcassette])) ?_)
      by_cases hcounter : 0 < s.deck.counter
      · rw [if_pos hcounter]
        exact tapeRewToZero_pos hgate hcassette hcounter
      · rw [if_neg hcounter, tapeRewToZero, if_pos (by omega)]
        exact tapeStop_eq hgate hcassette
    | stop | play | pause | rewind | windFwd =>
      replace hmode := hmode nofun nofun
      dsimp only
      split
      · next hnone => exact hlead (hmode.trans (by rw [hnone]; rfl))
      · next d hd => exact hlead (hmode.trans (by rw [hd]; rfl))

end Sys2Proof.Machine

-- ==== Sys2Proof/Proofs/ShowRecords.lean ====
/-! PROOF. The show's steps and records: a cue's expansion while RUNNING and while HELD (R39, R40), the scheduled list (R44), the show
tick and the records that come due (R46 to R48), and what a routed step does at its owner (R41, R42). -/

namespace Sys2Proof.Machine

/-! ### The expansion of a cue -/

/-- The record of a step that enters the list (R39, R40, R44). -/
theorem entryRecord_eq (cue : Nat) (v : Verb) (p : PoolStep) :
    entryRecord cue v p = ⟨entryTime v p.delay.toNat, v, clampArg v p.a.toNat, p.b.toNat, cue⟩ := by
  unfold entryRecord entryTime
  congr 1
  by_cases hfollow : v = .follow
  · by_cases hdelay : p.delay = 0#8
    · simp [hfollow, hdelay]
    · have hpos : p.delay.toNat ≠ 0 := fun h => hdelay ((toNat_eq_zero_iff _).1 h)
      simp only [hfollow, hdelay, and_false, if_false, if_true]
      omega
  · simp [hfollow]

/-- One step of a cue's expansion, by its verb (R26, R39, R40). -/
theorem expandStep_of_verb (cue : Nat) (s : State) (p : PoolStep) :
    expandStep cue s p =
      (Verb.ofCode p.verb.toNat).elim s fun v =>
        if nullStep v p.a.toNat = true then s
        else if showRunning s = true ∧ p.delay = 0#8 ∧ v ≠ .follow then routeStep ⟨v, clampArg v p.a.toNat, p.b.toNat⟩ .ofShow s
        else schedule (entryRecord cue v p) s := by
  rw [expandStep, Step.ofBytes_spec]
  rcases Verb.ofCode p.verb.toNat with _ | v
  · rfl
  · by_cases hnull : nullStep v p.a.toNat = true
    · simp [hnull]
    · simp [hnull, entryRecord_eq]

theorem expandStep_running (cue : Nat) (s : State) (p : PoolStep) (h : showRunning s = true) :
    expandStep cue s p = takenRunning cue s p := by
  rw [expandStep_of_verb, takenRunning]
  rcases Verb.ofCode p.verb.toNat with _ | v
  · rfl
  · simp [h]

theorem expandStep_held (cue : Nat) (s : State) (p : PoolStep) (h : showRunning s = false) :
    expandStep cue s p = takenHeld cue s p := by
  rw [expandStep_of_verb, takenHeld]
  rcases Verb.ofCode p.verb.toNat with _ | v
  · rfl
  · simp [h]

theorem showRunning_expandStep (cue : Nat) (s : State) (p : PoolStep) : showRunning (expandStep cue s p) = showRunning s := by
  simp [showRunning]

theorem expandAll_running (cue : Nat) (ps : List PoolStep) (s : State) (h : showRunning s = true) :
    ps.foldl (expandStep cue) s = ps.foldl (takenRunning cue) s := by
  induction ps generalizing s with
  | nil => rfl
  | cons p ps ih =>
    rw [List.foldl_cons, List.foldl_cons, ih _ ((showRunning_expandStep cue s p).trans h), expandStep_running cue s p h]

theorem expandAll_held (cue : Nat) (ps : List PoolStep) (s : State) (h : showRunning s = false) :
    ps.foldl (expandStep cue) s = ps.foldl (takenHeld cue) s := by
  induction ps generalizing s with
  | nil => rfl
  | cons p ps ih =>
    rw [List.foldl_cons, List.foldl_cons, ih _ ((showRunning_expandStep cue s p).trans h), expandStep_held cue s p h]

/-- The blocks that take the show's steps, with the Station Controller, are in both states alike. -/
def SameOwners (s t : State) : Prop :=
  t.tray = s.tray ∧ t.lamp = s.lamp ∧ t.deck = s.deck ∧ t.dec = s.dec ∧ t.cool = s.cool ∧ t.stn = s.stn

theorem SameOwners.refl (s : State) : SameOwners s s := ⟨rfl, rfl, rfl, rfl, rfl, rfl⟩

theorem SameOwners.trans {s t u : State} (hst : SameOwners s t) (htu : SameOwners t u) : SameOwners s u := by
  obtain ⟨htray, hlamp, hdeck, hdec, hcool, hstn⟩ := hst
  obtain ⟨htray', hlamp', hdeck', hdec', hcool', hstn'⟩ := htu
  exact ⟨htray'.trans htray, hlamp'.trans hlamp, hdeck'.trans hdeck, hdec'.trans hdec, hcool'.trans hcool, hstn'.trans hstn⟩

theorem sameOwners_schedule (r : Record) (s : State) : SameOwners s (schedule r s) := by
  simp [SameOwners]

/-- While HELD a step reaches no owner (R40). -/
theorem sameOwners_takenHeld (cue : Nat) (s : State) (p : PoolStep) : SameOwners s (takenHeld cue s p) := by
  unfold takenHeld
  split
  · exact .refl s
  · split
    · exact .refl s
    · exact sameOwners_schedule _ s

theorem sameOwners_takenAllHeld (cue : Nat) (ps : List PoolStep) (s : State) : SameOwners s (ps.foldl (takenHeld cue) s) := by
  induction ps generalizing s with
  | nil => exact .refl s
  | cons p ps ih => exact (sameOwners_takenHeld cue s p).trans (ih _)

theorem not_showRunning_of_held {s : State} (h : s.stn.showState = .held) : showRunning s = false := by
  simp [showRunning, h]

/-- A cue 1 to 239 while HELD (R40). -/
theorem loadedCue_held (cue : Nat) (src : CueSource) (s : State) (hcount : (s.disp.liveBank.entry cue).count ≠ 0)
    (h : s.stn.showState = .held) :
    loadedCue cue src s = (s.disp.liveBank.steps (s.disp.liveBank.entry cue)).foldl (takenHeld cue) (recordCue cue src s) := by
  rw [loadedCue, if_neg hcount]
  exact expandAll_held cue _ (recordCue cue src s) (not_showRunning_of_held h)

/-- A cue 1 to 239 while RUNNING (R39). -/
theorem loadedCue_running (cue : Nat) (src : CueSource) (s : State) (hcount : (s.disp.liveBank.entry cue).count ≠ 0)
    (h : showRunning s = true) :
    loadedCue cue src s = (s.disp.liveBank.steps (s.disp.liveBank.entry cue)).foldl (takenRunning cue) (recordCue cue src s) := by
  rw [loadedCue, if_neg hcount]
  exact expandAll_running cue _ (recordCue cue src s) h

theorem sameOwners_loadedCue_held (cue : Nat) (src : CueSource) (s : State) (h : s.stn.showState = .held) :
    SameOwners s (loadedCue cue src s) := by
  by_cases hcount : (s.disp.liveBank.entry cue).count = 0
  · rw [loadedCue, if_pos hcount]
    exact .refl s
  · rw [loadedCue_held cue src s hcount h]
    exact sameOwners_takenAllHeld cue _ (recordCue cue src s)

/-! ### The list -/

/-- A record enters a list with room behind those that are due no later (R44). -/
theorem schedule_room (r : Record) (s : State) (h : s.disp.schedule.length < 32) :
    schedule r s = { s with disp := { s.disp with schedule := insertRecord r s.disp.schedule } } :=
  if_neg (Nat.not_le.2 h)

/-- A full list refuses a record and reports its cue (R45). -/
theorem schedule_full (r : Record) (s : State) (h : 32 ≤ s.disp.schedule.length) : schedule r s = raise .scheduleFull r.cue s :=
  if_pos h

/-! ### Records that come due -/

/-- While the show runs no record stands at 0 (R46). -/
def NoneDue (s : State) : Prop := showRunning s = true → ∀ r ∈ s.disp.schedule, r.remaining ≠ 0

theorem NoneDue.of_schedule {s t : State} (h : ∀ r ∈ s.disp.schedule, r.remaining ≠ 0) (ht : t.disp.schedule = s.disp.schedule) :
    NoneDue t := fun _ => by rwa [ht]

/-- A record that enters with time left puts none at 0. -/
theorem schedule_not_due (r : Record) (s : State) (hr : r.remaining ≠ 0) (h : ∀ x ∈ s.disp.schedule, x.remaining ≠ 0) :
    ∀ x ∈ (schedule r s).disp.schedule, x.remaining ≠ 0 := by
  rw [schedule_spec]
  split
  · exact h
  · intro x hx
    rcases (mem_insertRecord r x _).1 hx with rfl | hx
    · exact hr
    · exact h x hx

/-- While RUNNING no step enters the list at 0 (R39). -/
theorem takenRunning_not_due (cue : Nat) (s : State) (p : PoolStep) (h : ∀ x ∈ s.disp.schedule, x.remaining ≠ 0) :
    ∀ x ∈ (takenRunning cue s p).disp.schedule, x.remaining ≠ 0 := by
  unfold takenRunning
  split
  · exact h
  · next v _ =>
    split
    · exact h
    · split
      · simpa using h
      · next hlate =>
        refine schedule_not_due _ s ?_ h
        rw [entryRecord]
        by_cases hdelay : p.delay = 0#8
        · simp_all
        · simp [hdelay, toNat_eq_zero_iff]

theorem takenAllRunning_not_due (cue : Nat) (ps : List PoolStep) (s : State) (h : ∀ x ∈ s.disp.schedule, x.remaining ≠ 0) :
    ∀ x ∈ (ps.foldl (takenRunning cue) s).disp.schedule, x.remaining ≠ 0 := by
  induction ps generalizing s with
  | nil => exact h
  | cons p ps ih => exact ih _ (takenRunning_not_due cue s p h)

/-- While the show runs, the arrival of a FOLLOW is a cue arrival: a RESUME event finds RUNNING (R47, R166). -/
theorem followArrival_eq (cue : Nat) (s : State) (h : s.stn.showState = .running) : followArrival cue s = cueArrival cue .follow s := by
  have hresume : resumeEvent (recordCue cue .follow s) = recordCue cue .follow s :=
    resumeEvent_of_not_held _ (by rw [show (recordCue cue .follow s).stn = s.stn from rfl, h]; nofun)
  unfold followArrival cueArrival cueArrivalWith
  rw [hresume]
  rfl

/-- A cue 1 to 239 taken while RUNNING puts no record at 0 (R39). -/
theorem noneDue_loadedCue (cue : Nat) (s : State) (h : showRunning s = true) (hdue : ∀ r ∈ s.disp.schedule, r.remaining ≠ 0) :
    NoneDue (loadedCue cue .follow s) := by
  by_cases hno : (s.disp.liveBank.entry cue).count = 0
  · rw [loadedCue, if_pos hno]
    exact .of_schedule hdue rfl
  · rw [loadedCue_running cue .follow s hno h]
    exact fun _ => takenAllRunning_not_due cue _ (recordCue cue .follow s) hdue

/-- A FOLLOW's cue puts no record at 0 while the show runs: 240 holds the show, and 243 empties the list (R38, R39). -/
theorem noneDue_cueArrival (cue : Nat) (s : State) (h : showRunning s = true)
    (hdue : (∀ r ∈ s.disp.schedule, r.remaining ≠ 0) ∨ cue = 240 ∨ cue = 243) : NoneDue (cueArrival cue .follow s) := by
  obtain ⟨hactive, hrun⟩ := (showRunning_iff s).1 h
  have harrive := cueArrival_active cue .follow s hactive
  have hnotHeld : s.stn.showState ≠ .held := by rw [hrun]; nofun
  by_cases h240 : cue = 240
  · subst h240
    rw [show cueArrival 240 .follow s = holdEvent (recordCue 240 .follow s) from harrive, holdEvent_active (recordCue 240 .follow s) hactive,
      if_pos (show (recordCue 240 .follow s).stn.showState = .running from hrun)]
    intro hstill
    rw [not_showRunning_of_held (by rw [afterHold_stn])] at hstill
    exact absurd hstill nofun
  by_cases h243 : cue = 243
  · subst h243
    rw [show cueArrival 243 .follow s = endOfShow (recordCue 243 .follow s) from harrive]
    intro _ r hr
    simp [endOfShow, emptySchedule] at hr
  replace hdue := hdue.resolve_right (not_or.2 ⟨h240, h243⟩)
  rw [harrive]
  have hrouted : ∀ st, NoneDue (routeStep st .ofShow (recordCue cue .follow s)) := fun st =>
    .of_schedule hdue (by simp [recordCue])
  have hstep : ∀ v, NoneDue (stepCue cue v .follow s) := fun v => by
    rw [stepCue_eq, if_pos h]
    exact hrouted _
  have hcount : NoneDue (count .cuesNotMine s) := .of_schedule hdue rfl
  have hcommit : NoneDue (commitCue .follow s) := by
    unfold commitCue
    split <;> exact .of_schedule hdue rfl
  rw [if_neg h240, if_neg h243, resumeEvent_of_not_held (recordCue cue .follow s) hnotHeld]
  split
  · exact hcount
  split
  · exact noneDue_loadedCue cue s h hdue
  split
  · exact .of_schedule hdue rfl
  split
  · exact hcommit
  split
  · exact hrouted _
  split
  · exact hstep _
  split
  · exact hstep _
  · exact hcount

/-- The record at the head leaves the list at 0 and is routed (R46, R47). -/
theorem routeDueUpTo_cons (n : Nat) (r : Record) (rest : List Record) (s : State) (hs : s.disp.schedule = r :: rest)
    (hrun : showRunning s = true) (hdue : r.remaining = 0) :
    routeDueUpTo (n + 1) s = routeDueUpTo n (routeRecord r { s with disp := { s.disp with schedule := rest } }) := by
  rw [routeDueUpTo, hs]
  exact if_pos ⟨hrun, hdue⟩

/-- Due records that are no FOLLOWs are routed from the head, and the others stay (R46). -/
theorem routeDueUpTo_append (due rest : List Record) (n : Nat) (s : State) (hs : s.disp.schedule = due ++ rest)
    (hrun : showRunning s = true) (hdue : ∀ r ∈ due, r.remaining = 0 ∧ r.verb ≠ .follow) (hrest : ∀ r ∈ rest, r.remaining ≠ 0)
    (hn : due.length ≤ n) : routeDueUpTo n s = routedAll due { s with disp := { s.disp with schedule := rest } } := by
  induction due generalizing n s with
  | nil =>
    have hsame : { s with disp := { s.disp with schedule := rest } } = s := by
      rw [List.nil_append] at hs
      rw [← hs]
    rw [hsame, routeDueUpTo_none_due n s fun _ => by simpa [hs] using hrest]
    rfl
  | cons r due ih =>
    obtain ⟨n, rfl⟩ : ∃ m, n = m + 1 := ⟨n - 1, by simp at hn; omega⟩
    obtain ⟨hzero, hverb⟩ := hdue r (by simp)
    have hrouted : routeRecord r { s with disp := { s.disp with schedule := due ++ rest } } =
        { routeStep ⟨r.verb, r.a, r.b⟩ .ofShow s with disp := { s.disp with schedule := due ++ rest } } := by
      rw [routeRecord, if_neg hverb, routeStep_disp]
    rw [routeDueUpTo_cons n r (due ++ rest) s hs hrun hzero, hrouted]
    refine (ih n _ rfl ?_ (fun x hx => hdue x (by simp [hx])) (by simpa using hn)).trans ?_
    · simpa [showRunning] using hrun
    · show routedAll due { routeStep ⟨r.verb, r.a, r.b⟩ .ofShow s with disp := { s.disp with schedule := rest } } = _
      rw [← routeStep_disp]
      rfl

/-- A FOLLOW at the head is a cue arrival, after which no record is due (R46, R47). -/
theorem routeDueUpTo_follow (n : Nat) (r : Record) (rest : List Record) (s : State) (hs : s.disp.schedule = r :: rest)
    (hrun : showRunning s = true) (hdue : r.remaining = 0) (hverb : r.verb = .follow)
    (hafter : (∀ x ∈ rest, x.remaining ≠ 0) ∨ r.a = 240 ∨ r.a = 243) :
    routeDueUpTo (n + 1) s = cueArrival r.a .follow { s with disp := { s.disp with schedule := rest } } := by
  have hrecord : routeRecord r { s with disp := { s.disp with schedule := rest } } =
      cueArrival r.a .follow { s with disp := { s.disp with schedule := rest } } := by
    rw [routeRecord, if_pos hverb]
    exact followArrival_eq r.a _ ((showRunning_iff s).1 hrun).2
  rw [routeDueUpTo_cons n r rest s hs hrun hdue, hrecord, routeDueUpTo_none_due]
  exact noneDue_cueArrival r.a { s with disp := { s.disp with schedule := rest } } hrun hafter

/-! ### The show tick -/

theorem exec_showTick (s : State) (h : s.power = .running) : exec .showTick s = .next (showTick s) := by
  show Host.Outcome.next (whenRunning showTick s) = _
  simp [whenRunning, h]

theorem exec_scheduledRecordDue (s : State) (h : s.power = .running) : exec .scheduledRecordDue s = .next (routeDue s) := by
  show Host.Outcome.next (whenRunning routeDue s) = _
  simp [whenRunning, h]

/-- A show tick while the show runs (R46). -/
theorem showTick_running (s : State) (h : showRunning s = true) : showTick s = routeDue (tickedTo s.disp.schedule s) := if_pos h

/-- A tenth less for records that have 2 or more leaves none due (R46). -/
theorem ticked_not_due {l : List Record} (h : ∀ r ∈ l, 2 ≤ r.remaining) : ∀ r ∈ l.map Record.tick, r.remaining ≠ 0 := by
  intro r hr
  obtain ⟨x, hx, rfl⟩ := List.mem_map.1 hr
  have hx2 := h x hx
  show x.remaining - 1 ≠ 0
  omega

/-- A step is routed without regard to its time. -/
theorem routedAll_ticked (due : List Record) (s : State) : routedAll (due.map Record.tick) s = routedAll due s := by
  rw [routedAll, List.foldl_map]
  rfl

/-- A show tick at which records that are no FOLLOWs come due (R46). -/
theorem showTick_due (due rest : List Record) (s : State) (hrun : showRunning s = true) (hs : s.disp.schedule = due ++ rest)
    (hdue : ∀ r ∈ due, r.remaining = 1 ∧ r.verb ≠ .follow) (hrest : ∀ r ∈ rest, 2 ≤ r.remaining) :
    showTick s = routedAll due (tickedTo rest s) := by
  have hticked : (tickedTo s.disp.schedule s).disp.schedule = due.map Record.tick ++ rest.map Record.tick := by
    rw [hs, ← List.map_append]
    rfl
  rw [showTick_running s hrun, routeDue, routeDueUpTo_append _ _ _ _ hticked hrun ?_ (ticked_not_due hrest) (by simp [hticked]),
    routedAll_ticked]
  · rfl
  · intro r hr
    obtain ⟨x, hx, rfl⟩ := List.mem_map.1 hr
    obtain ⟨hone, hverb⟩ := hdue x hx
    exact ⟨by simp [Record.tick, hone], hverb⟩

/-- A show tick at which the head is a FOLLOW that comes due (R46, R47). -/
theorem showTick_follow (r : Record) (rest : List Record) (s : State) (hrun : showRunning s = true) (hs : s.disp.schedule = r :: rest)
    (hdue : r.remaining = 1) (hverb : r.verb = .follow) (hafter : (∀ x ∈ rest, 2 ≤ x.remaining) ∨ r.a = 240 ∨ r.a = 243) :
    showTick s = cueArrival r.a .follow (tickedTo rest s) := by
  have hticked : (tickedTo s.disp.schedule s).disp.schedule = r.tick :: rest.map Record.tick := by
    rw [hs]
    rfl
  rw [showTick_running s hrun, routeDue, hticked, List.length_cons]
  exact routeDueUpTo_follow _ r.tick (rest.map Record.tick) (tickedTo s.disp.schedule s) hticked hrun
    (by simp [Record.tick, hdue]) hverb (hafter.imp_left ticked_not_due)

/-- In HELD, and outside ACTIVE, the list waits (R48). -/
theorem showTick_waits (s : State) (h : showRunning s = false) : showTick s = s ∧ routeDue s = s := by
  refine ⟨if_neg (by simp [h]), routeDueUpTo_none_due _ s fun hrun => ?_⟩
  rw [h] at hrun
  exact absurd hrun nofun

/-! ### Routed steps -/

/-- Settles O35, by its five parts: cues while HELD, the expansion, routed steps, the list, the ticks. -/
theorem heldShowWaitsRunningShowCounts : Obligations.HeldShowWaitsRunningShowCounts := by
  unfold Obligations.HeldShowWaitsRunningShowCounts
  refine ⟨fun cue src s hactive hheld h1 h239 => ?_, fun cue src s hactive h1 h239 => ?_, fun o a b f x y s => ?_, fun r s => ?_,
    fun s hpower => ?_⟩
  · rw [cueArrival_loaded cue src s hactive h1 h239]
    exact sameOwners_loadedCue_held cue src s hheld
  · rw [cueArrival_loaded cue src s hactive h1 h239]
    exact fun hcount => ⟨fun hrun => loadedCue_running cue src s hcount ((showRunning_iff s).2 ⟨hactive, hrun⟩),
      loadedCue_held cue src s hcount⟩
  · refine ⟨rfl, rfl, rfl, fun ha => ⟨if_neg ha, if_neg ha⟩, rfl, rfl, fun hqueue hactive => ⟨?_, ?_, ?_⟩,
      fun hactive => ⟨fun h => ?_, fun h => ?_⟩⟩
    · exact requestLamp_burning a b o s hqueue (.inr hactive)
    · exact requestLamp_off a b o s hqueue (.inr hactive)
    · exact requestLamp_ignored a b o s
    · have hsame : directStep 7#8 x y s = routeStep ⟨.lampOff, a, b⟩ o s := directStep_of_verb (v := .lampOff) rfl x y s
      exact hsame ▸ stepLeads_directStep h (.inr hactive) (by decide)
    · have hsame : directStep 9#8 x y s = routeStep ⟨.tape, x.toNat, b⟩ o s :=
        (directStep_tape x y s).trans (routeStep_tape x.toNat b o s).symm
      exact hsame ▸ stepLeads_directStep h (.inr hactive) (by decide)
  · refine ⟨fun before after hs hroom hbefore hafter => ?_, fun hroom => ?_, schedule_full r s⟩
    · rw [schedule_room r s hroom, hs, insertRecord_between r before after hbefore hafter]
    · rw [schedule_room r s hroom]
      exact ⟨insertRecord_length r _, (mem_insertRecord r r _).2 (.inl rfl), rfl⟩
  · rw [exec_showTick s hpower, exec_scheduledRecordDue s hpower]
    refine ⟨fun hactive hshow hlate => ?_, fun hactive hshow => ⟨fun due rest hs hdue hrest => ?_, fun r rest hs hdue hverb hafter => ?_⟩,
      fun hstop => ?_, fun hactive hshow r rest hs hdue hverb hrest => ?_⟩
    · exact congrArg _ (showTick_due [] s.disp.schedule s ((showRunning_iff s).2 ⟨hactive, hshow⟩) rfl nofun hlate)
    · exact congrArg _ (showTick_due due rest s ((showRunning_iff s).2 ⟨hactive, hshow⟩) hs hdue hrest)
    · exact congrArg _ (showTick_follow r rest s ((showRunning_iff s).2 ⟨hactive, hshow⟩) hs hdue hverb hafter)
    · have hno : showRunning s = false := by
        rw [Bool.eq_false_iff]
        intro hrun
        obtain ⟨hactive, hshow⟩ := (showRunning_iff s).1 hrun
        exact hstop.elim (· hactive) (· hshow)
      obtain ⟨htick, hroute⟩ := showTick_waits s hno
      exact ⟨congrArg _ htick, congrArg _ hroute⟩
    · exact congrArg _ (routeDueUpTo_append [r] rest _ s hs ((showRunning_iff s).2 ⟨hactive, hshow⟩) (by simp [hdue, hverb]) hrest
        (by simp [hs]))

end Sys2Proof.Machine

-- ==== Sys2Proof/Proofs/KeptByFrames.lean ====
/-! PROOF. Laws of the blocks behind the Loop Port, carried from state to state: how they pass along a composition, a choice, a fold, and
along every command and every byte that a frame brings. What such a law has to be kept by for it stands in `KeptByCommands` and
`KeptAtCheck`. -/

namespace Sys2Proof.Machine

open Sys2Proof (Byte Frame)

/-- What leads from `s` to `t` keeps the law `P`. -/
def Kept (P : State → Prop) (s t : State) : Prop := P s → P t

section
variable {P : State → Prop} {s t u : State}

theorem Kept.refl (s : State) : Kept P s s := id

theorem Kept.trans (h : Kept P s t) (h' : Kept P t u) : Kept P s u := h' ∘ h

theorem Kept.ite {c : Prop} [Decidable c] (ht : Kept P s t) (hu : Kept P s u) : Kept P s (if c then t else u) := by
  split
  · exact ht
  · exact hu

theorem Kept.whenRunning {f : State → State} (h : Kept P s (f s)) : Kept P s (whenRunning f s) := .ite h (.refl s)

/-- A fold keeps the law if each of its steps does. -/
theorem Kept.foldl {α : Type} {f : State → α → State} (h : ∀ s a, Kept P s (f s a)) (l : List α) (s : State) :
    Kept P s (l.foldl f s) := by
  induction l generalizing s with
  | nil => exact .refl s
  | cons a l ih => exact (h s a).trans (ih (f s a))

end

/-- The two states differ in no block that owns steps, nor in the Station Controller or the scheduled list; the Loop Port, the Attention
Unit and the banks may differ. -/
def SameBlocks (s t : State) : Prop := SameOwners s t ∧ t.disp.schedule = s.disp.schedule

theorem SameBlocks.of_disp {s t : State} (h : SameOwners s t) (hdisp : t.disp = s.disp) : SameBlocks s t := ⟨h, by rw [hdisp]⟩

/-! ### Commands -/

/-- What a law must be kept by to be kept by every COMMAND (R172). -/
structure KeptByCommands (P : State → Prop) : Prop where
  step : ∀ verb a b s, Kept P s (directStep verb a b s)
  hold : ∀ s, Kept P s (holdEvent s)
  resume : ∀ s, Kept P s (resumeEvent s)
  commit : ∀ s, Kept P s { s with disp := s.disp.commit }
  set : ∀ code v s, Kept P s (configSetItem code v s).1
  close : ∀ s, Kept P s (closeConfiguration s)
  standby : ∀ s, Kept P s (takeStandby s)
  wake : ∀ s, Kept P s (takeWake s)
  attention : ∀ a s, Kept P s { s with attn := a }
  notice : ∀ s, Kept P s (noticeConfig s)

namespace KeptByCommands

variable {P : State → Prop} (h : KeptByCommands P)
include h

/-- Every command of a known code keeps the law; with any other arguments than its own it is refused and does nothing (R172). -/
theorem runCommand (c : Cmd) (args : List Byte) (s : State) : Kept P s (runCommand c args s).1 := by
  have noArgs : c ≠ .step ∧ c ≠ .configSet ∧ c ≠ .ack ∧ c ≠ .attnSet → Kept P s (Machine.runCommand c [] s).1 →
      Kept P s (Machine.runCommand c args s).1 := fun ⟨h1, h2, h3, h4⟩ hnone => by
    cases args with
    | nil => exact hnone
    | cons => cases c <;> first | contradiction | exact .refl s
  cases c with
  | hold => exact noArgs (by decide) (h.hold s)
  | resume => exact noArgs (by decide) (h.resume s)
  | commit =>
    refine noArgs (by decide) ?_
    dsimp only [Machine.runCommand]
    split
    · exact .refl s
    · exact h.commit s
  | configClose => exact noArgs (by decide) (h.close s)
  | standby => exact noArgs (by decide) (h.standby s)
  | wake => exact noArgs (by decide) (h.wake s)
  | clearCounters => exact noArgs (by decide) (h.attention _ s)
  | reset => exact noArgs (by decide) (.refl s)
  | step =>
    match args with
    | [v, a, b] =>
      dsimp only [Machine.runCommand]
      split
      · exact .refl s
      · exact h.step v a b s
    | [] | [_] | [_, _] | _ :: _ :: _ :: _ :: _ => exact .refl s
  | configSet =>
    match args with
    | [item, hi, lo] => exact h.set item.toNat (word16 hi lo) s
    | [] | [_] | [_, _] | _ :: _ :: _ :: _ :: _ => exact .refl s
  | ack =>
    match args with
    | [code] =>
      dsimp only [Machine.runCommand]
      split
      · exact h.attention _ s
      · exact .refl s
    | [] | _ :: _ :: _ => exact .refl s
  | attnSet =>
    match args with
    | [code, enable, level] =>
      dsimp only [Machine.runCommand]
      split
      · split
        · exact h.attention _ s
        · exact .refl s
      · exact .refl s
    | [] | [_] | [_, _] | _ :: _ :: _ :: _ :: _ => exact .refl s

/-- The judging of a COMMAND keeps the law, the notice of its class included (R164, R172). -/
theorem judgeCommand (payload : List Byte) (s : State) : Kept P s (judgeCommand payload s).1 := by
  have hnotice : ∀ c : Cmd, Kept P s (if c.configClass = true then noticeConfig s else s) := fun c => .ite (h.notice s) (.refl s)
  unfold Machine.judgeCommand
  split
  · exact .refl s
  · split
    · exact .refl s
    · next c _ =>
      dsimp only
      have hu := hnotice c
      generalize (if c.configClass = true then noticeConfig s else s) = u at hu ⊢
      split
      · exact hu.trans (h.runCommand c _ u)
      · exact hu

end KeptByCommands

/-! ### Frames -/

/-- What a law must be kept by to be kept by every frame: it does not speak of the line, and a cue, a command, a LOAD and the notice of a
configuration-class frame keep it (R7). -/
structure KeptAtCheck (P : State → Prop) : Prop where
  blocks : ∀ {s t}, SameBlocks s t → P s → P t
  cue : ∀ cue s, Kept P s (cueArrival cue .loop s)
  command : ∀ payload s, Kept P s (judgeCommand payload s).1
  load : ∀ payload s, Kept P s (judgeLoad payload s).1
  notice : ∀ s, Kept P s (noticeConfig s)

namespace KeptAtCheck

variable {P : State → Prop} (h : KeptAtCheck P)
include h

/-- An operation of the line alone keeps the law. -/
theorem line {s t : State} (howners : SameOwners s t) (hdisp : t.disp = s.disp) : Kept P s t := h.blocks (.of_disp howners hdisp)

theorem emit (b : Byte) (first : Bool) (s : State) : Kept P s (emit b first s) := h.line (by simp [SameOwners]) (by simp)

theorem passOn (p : Passage) (b x : Byte) (s : State) : Kept P s (passOn p b x s) := h.line (by simp [SameOwners]) (by simp)

theorem takeCue (payload : List Byte) (s : State) : Kept P s (takeCue payload s) := by
  unfold Machine.takeCue
  split
  · exact .ite (h.cue _ s) (.refl s)
  · exact .refl s

theorem takeAssign (s : State) : Kept P s (takeAssign s) := by
  refine (h.notice s).trans ?_
  unfold Machine.takeAssign
  dsimp only
  split
  · exact h.line (.refl _) rfl
  · exact .refl _

/-- What a good CHECK sets going keeps the law (R7). -/
theorem actOn (k : FrameKind) (p : Passage) (s : State) : Kept P s (actOn k p s).1 := by
  cases k with
  | cue => exact h.takeCue p.payload s
  | poll => exact h.line (.refl s) rfl
  | query | remote => exact .refl s
  | assign => exact .ite (h.takeAssign s) (.refl s)
  | command =>
    simp only [Machine.actOn]
    split
    · exact h.command p.payload s
    · exact .refl s
  | load =>
    simp only [Machine.actOn]
    split
    · exact (h.notice s).trans (h.load p.payload _)
    · exact .refl s

theorem goodFrame (k : FrameKind) (p : Passage) (s : State) : Kept P s (goodFrame k p s).1 := by
  have hposition : Kept P s (restartSilence (takePosition p s)) := h.line (by simp [SameOwners]) (by simp)
  unfold Machine.goodFrame
  dsimp only
  split
  · exact hposition.trans (h.actOn k p _)
  · exact hposition.trans (h.line (.refl _) rfl)

theorem checkByte (p : Passage) (b : Byte) (s : State) : Kept P s (checkByte p b s) := by
  have hafter : ∀ k q t, Kept P t (afterCheck k q b t) := fun k q t => h.line (by simp [SameOwners]) (by simp)
  have hknown : ∀ k, Kept P s (knownCheck k p b s) := fun k =>
    .ite ((h.goodFrame k p s).trans ((h.emit _ _ _).trans (hafter _ _ _))) (h.line (by simp [SameOwners]) (by simp))
  unfold Machine.checkByte
  split
  · exact h.line (by simp [SameOwners]) (by simp)
  · exact .ite (h.line (by simp [SameOwners]) (by simp)) (hknown _)

/-- A look at the mirror touches the banks alone (R32). -/
theorem queryByte (p : Passage) (b : Byte) (s : State) : Kept P s (queryByte p b s) := by
  have hanswer : ∀ fields area, Kept P s (answerQuery fields area s).2 := fun fields area => by
    rcases answerQuery_state fields area s with hstate | hstate <;> rw [hstate]
    · exact .refl s
    · exact .ite (h.blocks ⟨.refl s, rfl⟩) (.refl s)
  exact .ite ((hanswer _ _).trans (h.passOn _ _ _ _)) (h.passOn _ _ _ _)

theorem payloadByte (p : Passage) (b : Byte) (s : State) : Kept P s (payloadByte p b s) := by
  have hpoll : Kept P s (pollByte p b s) := h.line (by simp [SameOwners]) (by simp)
  have hassign : Kept P s (assignByte p b s) := h.line (by simp [SameOwners]) (by simp)
  unfold Machine.payloadByte
  split
  · exact h.passOn _ _ _ s
  · split
    case h_1 => exact .ite hpoll (h.passOn _ _ _ s)
    case h_2 => exact h.queryByte p b s
    case h_3 => exact .ite hassign (h.passOn _ _ _ s)
    all_goals exact h.passOn _ _ _ s

theorem frameByte (p : Passage) (b : Byte) (s : State) : Kept P s (frameByte p b s) := by
  unfold Machine.frameByte
  split
  case h_6 => exact .ite (h.payloadByte p b s) (.ite (h.checkByte p b s) (h.line (by simp [SameOwners]) (by simp)))
  all_goals exact h.line (by simp [SameOwners]) (by simp)

theorem rxByte (b : Byte) (s : State) : Kept P s (rxByte b s) := by
  have hpass : Kept P s (passByte s) := h.line (by simp [SameOwners]) (by simp)
  have hnote : ∀ t, Kept P t (noteByte t) := fun t => h.line (.refl t) rfl
  refine hpass.trans (Kept.trans ?_ (hnote _))
  split
  · exact h.line (by simp [SameOwners]) (by simp)
  · exact .refl _
  · exact h.frameByte _ b _

theorem rxBytes (bs : List Byte) (s : State) : Kept P s (rxBytes bs s) := .foldl (fun s b => h.rxByte b s) bs s

theorem frameArrives (f : Frame) (bytes : List Byte) (s : State) : Kept P s (frameArrives f bytes s) := by
  have hbefore : Kept P s (idleFor f.gap (lineReady s)) := h.line (by simp [SameOwners]) (by simp)
  have hafter : ∀ t, Kept P t (byteFor f.bits t) := fun t => h.line (by simp [SameOwners]) (by simp)
  exact hbefore.trans ((h.rxBytes _ _).trans (hafter _))

theorem strayRun (gap : Nat) (bytes : List Byte) (s : State) : Kept P s (strayRun gap bytes s) := by
  have hbefore : Kept P s (idleFor gap (lineReady s)) := h.line (by simp [SameOwners]) (by simp)
  have hafter : ∀ t, Kept P t (idleFor Config.frameGap t) := fun t => h.line (by simp [SameOwners]) (by simp)
  exact hbefore.trans ((h.rxBytes bytes _).trans (hafter _))

end KeptAtCheck

end Sys2Proof.Machine

-- ==== Sys2Proof/Proofs/TransportRules.lean ====
/-! PROOF. How the Transport's operations behave, each said once: the move queue (R56, R57), the start of the head record (R58 to R62),
the standby condition's test beside a Transport event (R168), and what the Transport's commands run. -/

namespace Sys2Proof.Machine

open Sys2Proof (TrayCode Instr)

/-! ### The move queue -/

/-- A new head's dark-wait timer (R59). -/
theorem Transport.newHead_eq (t : Transport) : t.newHead = { t with darkTimer := headWaits t.queue } := by
  obtain ⟨_, _, _, _, _, _, queue, _, _, _⟩ := t
  cases queue <;> rfl

/-- A GOTO or a HOME flushes the queue and enters it alone (R57). -/
theorem Transport.takeOther_eq (t : Transport) (k : MoveKind) (dark : Bool) (o : Origin) :
    t.takeOther k dark o = { t with queue := [⟨k, dark, false, o⟩], darkTimer := dark } := by
  cases dark <;> rfl

section
variable {t : Transport} (c : Int) (dark : Bool) (o : Origin)

/-- A STEP offered to an empty queue enters it (R56). -/
theorem Transport.takeStep_empty (h : t.queue = []) :
    t.takeStep c dark o = { t with queue := [⟨.step c, dark, false, o⟩], darkTimer := dark } := by
  cases dark <;> simp [Transport.takeStep, h, newestStep, Transport.newHead]

/-- A STEP offered to a lone STEP merges into it; a sum of 0 empties the queue, and the timer starts where the merge makes the head wait
(R56, R59; log 30). -/
theorem Transport.takeStep_alone {c0 : Int} {d0 w : Bool} {o0 : Origin} (h : t.queue = [⟨.step c0, d0, w, o0⟩]) :
    t.takeStep c dark o = { t with
      queue := if clampCount (c0 + c) = 0 then [] else [⟨.step (clampCount (c0 + c)), d0 || dark, w, o⟩]
      darkTimer := if clampCount (c0 + c) = 0 then false else if dark = true ∧ d0 = false then !w else t.darkTimer } := by
  by_cases hsum : clampCount (c0 + c) = 0
  · simp [Transport.takeStep, h, newestStep, hsum, Transport.newHead]
  · cases dark <;> cases d0 <;> simp [Transport.takeStep, h, newestStep, hsum, Transport.newHead]

/-- A move that is no STEP is never the newest STEP (R56). -/
theorem newestStep_of_not_isStep {q : List Move} {m : Move} (hlast : q.getLast? = some m) (hm : m.isStep = false) :
    newestStep q = none := by
  obtain ⟨kind, _, _, _⟩ := m
  cases kind with
  | step => exact absurd hm nofun
  | goto | home => simp [newestStep, hlast]

/-- A STEP enters behind a GOTO or a HOME (R56). -/
theorem Transport.takeStep_behind {m : Move} (hm : m.isStep = false) (h : t.queue = [m]) :
    t.takeStep c dark o = { t with queue := [m, ⟨.step c, dark, false, o⟩] } := by
  have hnone : newestStep t.queue = none := newestStep_of_not_isStep (by rw [h]; rfl) hm
  rw [Transport.takeStep, hnone]
  simp [h]

/-- A STEP merges into the STEP behind a GOTO or a HOME (R56). -/
theorem Transport.takeStep_second {m : Move} {c0 : Int} {d0 w : Bool} {o0 : Origin}
    (h : t.queue = [m, ⟨.step c0, d0, w, o0⟩]) :
    t.takeStep c dark o = { t with
      queue := if clampCount (c0 + c) = 0 then [m] else [m, ⟨.step (clampCount (c0 + c)), d0 || dark, w, o⟩] } := by
  by_cases hsum : clampCount (c0 + c) = 0 <;> simp [Transport.takeStep, h, newestStep, hsum]

end

/-! ### The start of the head record -/

theorem Transport.inCycle_iff (t : Transport) : t.inCycle = true ↔ ∃ ph, t.state = .cycle ph := by
  unfold Transport.inCycle
  split <;> simp_all

theorem Transport.inCycle_of_state {t : Transport} {ph : Phase} (h : t.state = .cycle ph) : t.inCycle = true :=
  t.inCycle_iff.2 ⟨ph, h⟩

/-- The state with the head gone from the queue, and `rest` left in it with the timer of its own head (R59). -/
def headGone (rest : List Move) (s : State) : State :=
  { s with tray := { s.tray with queue := rest, darkTimer := headWaits rest } }

/-- Where the head may not start, no record does (R58). -/
theorem startMovesUpTo_waiting (n : Nat) {s : State} (h : ∀ m rest, s.tray.queue = m :: rest → canStart m s = false) :
    startMovesUpTo n s = s := by
  cases n with
  | zero => rfl
  | succ n =>
    unfold startMovesUpTo
    split
    · rfl
    · next m rest hqueue => rw [if_neg (by simp [h m rest hqueue])]

theorem canStart_of_inCycle {s : State} (h : s.tray.inCycle = true) (m : Move) : canStart m s = false := by
  obtain ⟨ph, hph⟩ := s.tray.inCycle_iff.1 h
  simp [canStart, hph]

/-- While a cycle runs no record starts (R58). -/
theorem startMovesUpTo_inCycle (n : Nat) {s : State} (h : s.tray.inCycle = true) : startMovesUpTo n s = s :=
  startMovesUpTo_waiting n fun m _ _ => canStart_of_inCycle h m

theorem startMoves_inCycle {s : State} (h : s.tray.inCycle = true) : startMoves s = s := startMovesUpTo_inCycle _ h

theorem startMoves_waiting {s : State} {m : Move} {rest : List Move} (hqueue : s.tray.queue = m :: rest)
    (h : canStart m s = false) : startMoves s = s :=
  startMovesUpTo_waiting _ fun m' rest' h' => by
    obtain ⟨rfl, -⟩ := List.cons.inj (hqueue.symm.trans h')
    exact h

theorem startMovesUpTo_cons (n : Nat) {s : State} {m : Move} {rest : List Move} (hqueue : s.tray.queue = m :: rest)
    (h : canStart m s = true) : startMovesUpTo (n + 1) s = startMovesUpTo n (startMove m (headGone rest s)) := by
  rw [startMovesUpTo, hqueue]
  simp only [h, if_true, Transport.newHead_eq]
  rfl

/-- The head leaves the queue and starts, and so may those behind it (R58). -/
theorem startMoves_cons {s : State} {m : Move} {rest : List Move} (hqueue : s.tray.queue = m :: rest) (h : canStart m s = true) :
    startMoves s = startMovesUpTo rest.length (startMove m (headGone rest s)) := by
  rw [startMoves, hqueue]
  exact startMovesUpTo_cons _ hqueue h

/-- The Transport with a cycle begun (R63). -/
def begun (c : Cycle) (s : State) : State := { s with tray := s.tray.beginCycle c }

/-- A head that begins a cycle leaves those behind it waiting (R58, R63). -/
theorem startMoves_begins {s : State} {m : Move} {rest : List Move} {c : Cycle} (hqueue : s.tray.queue = m :: rest)
    (h : canStart m s = true) (hstart : startMove m (headGone rest s) = begun c (headGone rest s)) :
    startMoves s = begun c (headGone rest s) := by
  rw [startMoves_cons hqueue h, hstart]
  exact startMovesUpTo_inCycle _ rfl

/-- A head that completes at once makes room for the record behind it (R58). -/
theorem startMoves_completes {s t : State} {m : Move} {rest : List Move} (hqueue : s.tray.queue = m :: rest)
    (h : canStart m s = true) (hstart : startMove m (headGone rest s) = t) (hleft : t.tray.queue = rest) :
    startMoves s = startMoves t := by
  rw [startMoves_cons hqueue h, hstart, startMoves, hleft]

/-- All that a record can do as it starts: it completes at once, a HOME with TRAY_JAM cleared, or begins a cycle (R61, R62). -/
theorem startMove_cases (m : Move) (s : State) :
    startMove m s = s ∨ startMove m s = sideClear .trayJam s ∨ ∃ c, startMove m s = begun c s := by
  unfold startMove
  dsimp only
  repeat' split
  all_goals first
    | exact .inl rfl
    | exact .inr (.inl rfl)
    | exact .inr (.inr ⟨_, rfl⟩)

/-- In IDLE a record may start unless it waits for the dark (R58). -/
theorem canStart_idle {s : State} (m : Move) (h : s.tray.state = .idle) :
    canStart m s = (!m.afterDark || s.lamp.dark || m.waitOver) := by
  simp [canStart, h]

/-- Only an IDLE Transport starts a record, or one in JAMMED a HOME (R58). -/
theorem state_of_canStart {m : Move} {s : State} (h : canStart m s = true) : s.tray.state = .idle ∨ s.tray.state = .jammed := by
  simp only [canStart, Bool.and_eq_true, Bool.or_eq_true, beq_iff_eq] at h
  obtain ⟨hstate, -⟩ := h
  exact hstate.imp_right And.right

/-- A STEP starts as a counted INDEX in its direction (R61). -/
theorem startMove_step {c : Int} (hc : c ≠ 0) (dark w : Bool) (o : Origin) (s : State) :
    startMove ⟨.step c, dark, w, o⟩ s = begun ⟨false, if 0 < c then .forward else .backward, false, c.natAbs, 0, none, false⟩ s := by
  have hdir : (0 ≤ c) = (0 < c) := propext (by omega)
  simp [startMove, countedCycle, begun, hdir]

/-- A path is that of fewer slots, forward where both are as long (R62). -/
theorem pathTo_eq (size slot target : Nat) :
    pathTo size slot target =
      if (target + size - slot) % size ≤ size - (target + size - slot) % size then (.forward, (target + size - slot) % size)
      else (.backward, size - (target + size - slot) % size) := rfl

/-- The path from slot 0 (R62). -/
theorem pathTo_from_zero {size target : Nat} (h : target < size) :
    pathTo size 0 target = if target ≤ size - target then (.forward, target) else (.backward, size - target) := by
  have hdf : (target + size - 0) % size = target := by simp [Nat.mod_eq_of_lt h]
  rw [pathTo_eq, hdf]

/-- The path to slot 0 (R62). -/
theorem pathTo_zero {size slot : Nat} (h0 : slot ≠ 0) (h : slot < size) :
    pathTo size slot 0 = if size - slot ≤ slot then (.forward, size - slot) else (.backward, slot) := by
  have hdf : (0 + size - slot) % size = size - slot := by rw [Nat.zero_add]; exact Nat.mod_eq_of_lt (by omega)
  rw [pathTo_eq, hdf, Nat.sub_sub_self (Nat.le_of_lt h)]

/-- On a tray the way forward is of no length just where the target is the slot. -/
theorem forward_eq_zero_iff {size slot target : Nat} (hslot : slot < size) (htarget : target < size) :
    (target + size - slot) % size = 0 ↔ target = slot := by
  by_cases hle : slot ≤ target
  · have hmod : (target + size - slot) % size = target - slot := by
      rw [show target + size - slot = target - slot + size by omega, Nat.add_mod_right]
      exact Nat.mod_eq_of_lt (by omega)
    omega
  · have hmod : (target + size - slot) % size = target + size - slot := Nat.mod_eq_of_lt (by omega)
    omega

/-! ### The standby condition beside an event -/

theorem standbyTest_of_not_coolingDown {s : State} (h : s.stn.state ≠ .coolingDown) : standbyTest s = s := if_neg fun hboth => h hboth.1

/-- While a cycle runs the standby condition does not hold (R168). -/
theorem standbyTest_of_inCycle {s : State} (h : s.tray.inCycle = true) : standbyTest s = s :=
  if_neg fun ⟨_, hcond⟩ => by simp [standbyCondition, h] at hcond

theorem exec_standbyCondition {s : State} (h : s.power = .running) : exec .standbyCondition s = .next (standbyTest s) :=
  congrArg Host.Outcome.next (if_pos h)

/-- An event that ends with the test of the standby condition on `t` leaves `t` (R168). -/
theorem eventLeaves_of_exec {i : Instr} {s t : State} (hexec : exec i s = .next (standbyTest t)) (hpower : t.power = .running)
    (hstn : t.stn = s.stn) : EventLeaves i s t :=
  ⟨standbyTest t, hexec, exec_standbyCondition hpower, fun h => standbyTest_of_not_coolingDown (by rwa [hstn])⟩

/-! ### The Transport's commands, on a part that runs -/

section
variable {s : State} (h : s.power = .running)
include h

theorem exec_trayCodeChange (code : TrayCode) :
    exec (.trayCodeChange code) s = .next (standbyTest (settleCode (sizeOfCode code) s)) := congrArg Host.Outcome.next (if_pos h)

theorem exec_moveStart : exec .moveStart s = .next (startMoves s) := congrArg Host.Outcome.next (if_pos h)

theorem exec_darkWaitTimeout :
    exec .darkWaitTimeout s = .next (if (s.tray.darkTimer && !showHeld s) = true then expireDarkWait s else s) :=
  congrArg Host.Outcome.next (if_pos h)

theorem exec_closePhaseEnd (b : Bool) : exec (.closePhaseEnd b) s = .next (endClose b s) := congrArg Host.Outcome.next (if_pos h)

theorem exec_camMid : exec .camMid s = .next (closeCamMid s) := congrArg Host.Outcome.next (if_pos h)

theorem exec_liftTimeout : exec .liftTimeout s = .next (standbyTest (expireLift s)) := congrArg Host.Outcome.next (if_pos h)

theorem exec_indexPulse : exec .indexPulse s = .next (standbyTest (indexPulse s)) := congrArg Host.Outcome.next (if_pos h)

theorem exec_indexTimeout : exec .indexTimeout s = .next (standbyTest (expireIndex s)) := congrArg Host.Outcome.next (if_pos h)

theorem exec_homingPassLimit :
    exec .homingPassLimit s = .next (if homingAtLimit s = true then standbyTest (indexPulse s) else s) :=
  congrArg Host.Outcome.next (if_pos h)

theorem exec_homeMark : exec .homeMark s = .next (homeMark s) := congrArg Host.Outcome.next (if_pos h)

theorem exec_camHome : exec .camHome s = .next (standbyTest (closeCamHome s)) := congrArg Host.Outcome.next (if_pos h)

theorem exec_dropTimeout : exec .dropTimeout s = .next (standbyTest (expireDrop s)) := congrArg Host.Outcome.next (if_pos h)

theorem exec_settleEnd : exec .settleEnd s = .next (standbyTest (endSettle s)) := congrArg Host.Outcome.next (if_pos h)

end

end Sys2Proof.Machine

-- ==== Sys2Proof/Proofs/TransportLaws.lean ====
/-! PROOF. The laws of tray record, cycle record and move queue (R52, R54, R57) as a property of the Transport and of the retained record
that was read, and that each of the Transport's own operations keeps it. -/

namespace Sys2Proof.Machine

/-! ### A Transport that meets the laws -/

/-- The law of the move queue, of a queue alone (R57). -/
def QueueLawful : List Move → Prop
  | [] => True
  | [_] => True
  | [m, n] => m.isStep = false ∧ n.isStep = true
  | _ => False

/-- A Transport with a tray fitted, as the laws have it (R52, R54, R78). -/
structure Transport.Fitted (t : Transport) : Prop where
  state : t.state ≠ .noTray
  size : t.size ≠ .none
  certainty : t.certainty ≠ .invalid
  slot : t.slot < t.size.slots
  cycle : t.cycle.isSome = true ↔ t.inCycle = true
  kept : t.keptDrop = true → t.state = .cycle .drop
  settling : t.settling ≠ .afterPowerOn

/-- A Transport with no tray, as the laws have it (R52, R54). -/
structure Transport.Bare (t : Transport) : Prop where
  state : t.state = .noTray
  size : t.size = .none
  certainty : t.certainty = .invalid
  slot : t.slot = 0
  cycle : t.cycle = none
  kept : t.keptDrop = false

/-- The laws, of a Transport alone. -/
def Transport.Lawful (t : Transport) : Prop := (t.Fitted ∨ t.Bare) ∧ QueueLawful t.queue

/-- A valid retained record makes sense (R176). -/
def RecordLaw (x : Station) : Prop := x.valid = true → fieldsMakeSense x.readRecord = true

/-- The laws of the tray record, of the cycle record and of the move queue, in the form in which operations keep them. -/
def TrayLaws (s : State) : Prop := s.tray.Lawful ∧ RecordLaw s.stn

/-- The three laws as stated say the same. -/
theorem trayLaws_iff (s : State) : TrayLaws s ↔ TrayLaw s ∧ CycleLaw s ∧ QueueLaw s := by
  constructor
  · rintro ⟨⟨htray, hqueue⟩, hrecord⟩
    rcases htray with h | h
    · exact ⟨⟨by simp [h.certainty, h.size], by simp [h.state, h.size], by simp [h.size, h.slot], hrecord⟩,
        ⟨h.cycle, h.kept, fun hs => absurd hs h.settling⟩, hqueue⟩
    · exact ⟨⟨by simp [h.certainty, h.size], by simp [h.state, h.size], by simp [h.size, h.slot], hrecord⟩,
        ⟨by simp [h.cycle, Transport.inCycle, h.state], by simp [h.kept], fun _ => h.state⟩, hqueue⟩
  · rintro ⟨⟨hcertainty, hstate, hslot, hrecord⟩, ⟨hcycle, hkept, hsettling⟩, hqueue⟩
    refine ⟨⟨?_, hqueue⟩, hrecord⟩
    by_cases hsize : s.tray.size = .none
    · have hno := hstate.2 hsize
      refine .inr ⟨hno, hsize, hcertainty.2 hsize, by simpa [hsize] using hslot, ?_, ?_⟩
      · simpa [Transport.inCycle, hno] using hcycle
      · simpa [hno] using hkept
    · have hfitted : s.tray.state ≠ .noTray := fun h => hsize (hstate.1 h)
      exact .inl ⟨hfitted, hsize, fun h => hsize (hcertainty.1 h), by simpa [hsize] using hslot, hcycle, hkept,
        fun h => hfitted (hsettling h)⟩

theorem Transport.Lawful.fitted {t : Transport} (h : t.Lawful) (hstate : t.state ≠ .noTray) : t.Fitted :=
  h.1.resolve_right fun hbare => hstate hbare.state

theorem Transport.Lawful.bare {t : Transport} (h : t.Lawful) (hstate : t.state = .noTray) : t.Bare :=
  h.1.resolve_left fun hfitted => hfitted.state hstate

/-- The laws look at queue, dark-wait timer and shutter demand no further than at the order of the queue. -/
theorem Transport.Lawful.requeue {t : Transport} (h : t.Lawful) {q : List Move} (hq : QueueLawful q) (dark : Bool) (d : Demand) :
    ({ t with queue := q, darkTimer := dark, demand := d } : Transport).Lawful :=
  ⟨h.1.imp (fun hf => { hf with }) (fun hb => { hb with }), hq⟩

/-! ### One field at a time, on a tray that is fitted -/

namespace Transport.Fitted

variable {t : Transport} (h : t.Fitted)
include h

theorem keptDrop_eq_false (hstate : t.state ≠ .cycle .drop) : t.keptDrop = false :=
  Bool.eq_false_iff.2 fun hkept => hstate (h.kept hkept)

theorem withCertainty {c : Certainty} (hc : c ≠ .invalid) : ({ t with certainty := c } : Transport).Fitted := { h with certainty := hc }

theorem withSlot {n : Nat} (hn : n < t.size.slots) : ({ t with slot := n } : Transport).Fitted := { h with slot := hn }

theorem slots_pos : 0 < t.size.slots := Nat.lt_of_le_of_lt (Nat.zero_le _) h.slot

/-- A cycle goes on in another phase; a kept drop has no other phase (R63, R78). -/
theorem withPhase {ph : Phase} (hin : t.inCycle = true) (hph : t.keptDrop = true → ph = .drop) :
    ({ t with state := .cycle ph } : Transport).Fitted :=
  { h with state := nofun, cycle := ⟨fun _ => rfl, fun _ => h.cycle.2 hin⟩, kept := fun hk => congrArg _ (hph hk) }

theorem withCycle (hin : t.inCycle = true) (c : Cycle) : ({ t with cycle := some c } : Transport).Fitted :=
  { h with cycle := ⟨fun _ => hin, fun _ => rfl⟩ }

theorem beginCycle (hstate : t.state ≠ .cycle .drop) (c : Cycle) : (t.beginCycle c).Fitted :=
  { h with
    state := nofun
    cycle := ⟨fun _ => rfl, fun _ => rfl⟩
    kept := fun hk => by
      have := h.keptDrop_eq_false hstate
      exact absurd hk (by simp [Transport.beginCycle, this]) }

/-- The Transport at rest, in IDLE or in JAMMED. -/
theorem atRest {st : TransportState} (hst : st = .idle ∨ st = .jammed) :
    ({ t with state := st, cycle := none, keptDrop := false } : Transport).Fitted :=
  { h with
    state := by rcases hst with rfl | rfl <;> nofun
    cycle := by rcases hst with rfl | rfl <;> exact ⟨nofun, nofun⟩
    kept := nofun }

/-- A Transport that is in no cycle keeps no cycle record. -/
theorem cycle_eq_none (hin : t.inCycle = false) : t.cycle = none := by
  simpa [hin] using h.cycle

end Transport.Fitted

theorem Transport.Bare.settle {t : Transport} (h : t.Bare) (x : CodeSettling) : ({ t with settling := x } : Transport).Bare := { h with }

theorem Transport.Fitted.settle {t : Transport} (h : t.Fitted) {x : CodeSettling} (hx : x ≠ .afterPowerOn) :
    ({ t with settling := x } : Transport).Fitted := { h with settling := hx }

/-! ### The queue -/

theorem queueLawful_nil : QueueLawful [] := trivial

theorem queueLawful_alone (m : Move) : QueueLawful [m] := trivial

theorem queueLawful_behind {m n : Move} (hm : m.isStep = false) (hn : n.isStep = true) : QueueLawful [m, n] := ⟨hm, hn⟩

theorem QueueLawful.tail {m : Move} {rest : List Move} (h : QueueLawful (m :: rest)) : QueueLawful rest := by
  match rest with
  | [] => trivial
  | [_] => trivial
  | _ :: _ :: _ => exact h.elim

/-- The law asks of a record no more than whether it is a STEP. -/
theorem QueueLawful.replaceHead {m m' : Move} {rest : List Move} (h : QueueLawful (m :: rest)) (hm : m'.isStep = m.isStep) :
    QueueLawful (m' :: rest) := by
  match rest with
  | [] => trivial
  | [_] => exact ⟨hm.trans h.1, h.2⟩
  | _ :: _ :: _ => exact h.elim

theorem Move.isStep_iff (m : Move) : m.isStep = true ↔ ∃ c, m = ⟨.step c, m.afterDark, m.waitOver, m.origin⟩ := by
  obtain ⟨kind, _, _, _⟩ := m
  cases kind <;> simp [Move.isStep]

/-- A STEP taken into the queue keeps the laws (R56, R57). -/
theorem Transport.takeStep_lawful {t : Transport} (h : t.Lawful) (c : Int) (dark : Bool) (o : Origin) :
    (t.takeStep c dark o).Lawful := by
  have hqueue := h.2
  match hq : t.queue with
  | [] =>
    rw [Transport.takeStep_empty c dark o hq]
    exact h.requeue (queueLawful_alone _) _ _
  | [m] =>
    by_cases hm : m.isStep = true
    · obtain ⟨c0, hm⟩ := m.isStep_iff.1 hm
      rw [Transport.takeStep_alone c dark o (hq.trans (by rw [hm]))]
      refine h.requeue ?_ _ _
      split
      · exact queueLawful_nil
      · exact queueLawful_alone _
    · rw [Bool.not_eq_true] at hm
      rw [Transport.takeStep_behind c dark o hm hq]
      exact h.requeue (queueLawful_behind hm rfl) _ _
  | [m, n] =>
    rw [hq] at hqueue
    obtain ⟨hm, hn⟩ := hqueue
    obtain ⟨c0, hn⟩ := n.isStep_iff.1 hn
    rw [Transport.takeStep_second c dark o (hq.trans (by rw [hn]))]
    refine h.requeue ?_ _ _
    split
    · exact queueLawful_alone m
    · exact queueLawful_behind hm rfl
  | _ :: _ :: _ :: _ =>
    rw [hq] at hqueue
    exact hqueue.elim

theorem Transport.takeOther_lawful {t : Transport} (h : t.Lawful) (k : MoveKind) (dark : Bool) (o : Origin) :
    (t.takeOther k dark o).Lawful := by
  rw [Transport.takeOther_eq]
  exact h.requeue (queueLawful_alone _) _ _

theorem Transport.flush_lawful {t : Transport} (h : t.Lawful) : t.flush.Lawful := h.requeue queueLawful_nil _ _

/-! ### The start of a record -/

theorem startMove_lawful {m : Move} {s : State} (hstate : s.tray.state = .idle ∨ s.tray.state = .jammed) (h : s.tray.Lawful) :
    (startMove m s).tray.Lawful := by
  have hfitted := h.fitted (by rcases hstate with hs | hs <;> simp [hs])
  rcases startMove_cases m s with hstart | hstart | ⟨c, hstart⟩ <;> rw [hstart]
  · exact h
  · exact h
  · exact ⟨.inl (hfitted.beginCycle (by rcases hstate with hs | hs <;> simp [hs]) c), h.2⟩

/-- Records start within the laws (R58). -/
theorem startMovesUpTo_lawful (n : Nat) {s : State} (h : s.tray.Lawful) : (startMovesUpTo n s).tray.Lawful := by
  induction n generalizing s with
  | zero => exact h
  | succ n ih =>
    match hqueue : s.tray.queue with
    | [] =>
      rw [startMovesUpTo_waiting _ fun m rest hm => absurd (hqueue.symm.trans hm) nofun]
      exact h
    | m :: rest =>
      by_cases hstart : canStart m s = true
      · rw [startMovesUpTo_cons n hqueue hstart]
        have hgone : (headGone rest s).tray.Lawful := h.requeue (hqueue ▸ h.2).tail _ _
        exact ih (startMove_lawful (state_of_canStart hstart) hgone)
      · rw [startMovesUpTo_waiting _ fun m' rest' hm => ?_]
        · exact h
        · obtain ⟨rfl, -⟩ := List.cons.inj (hqueue.symm.trans hm)
          exact Bool.eq_false_iff.2 hstart

theorem startMoves_lawful {s : State} (h : s.tray.Lawful) : (startMoves s).tray.Lawful := startMovesUpTo_lawful _ h

theorem offerMove_lawful (k : MoveKind) (dark : Bool) (o : Origin) {s : State} (h : s.tray.Lawful) :
    (offerMove k dark o s).tray.Lawful := by
  unfold offerMove
  split
  · exact h
  · refine startMoves_lawful ?_
    cases k with
    | step c => exact s.tray.takeStep_lawful h c dark o
    | goto n => exact s.tray.takeOther_lawful h (.goto n) dark o
    | home => exact s.tray.takeOther_lawful h .home false o

theorem expireDarkWait_lawful {s : State} (h : s.tray.Lawful) : (expireDarkWait s).tray.Lawful := by
  unfold expireDarkWait
  split
  · exact h
  · next m rest hqueue =>
    have hover : QueueLawful ({ m with waitOver := true } :: rest) := (hqueue ▸ h.2 : QueueLawful (m :: rest)).replaceHead rfl
    exact startMoves_lawful (h.requeue hover _ _)

/-! ### Phases -/

section
variable {s : State} (h : s.tray.Lawful)
include h

theorem fitted_of_inCycle (hin : s.tray.inCycle = true) : s.tray.Fitted :=
  h.fitted fun hno => by simp [Transport.inCycle, hno] at hin

/-- A cycle goes on in another phase within the laws (R63). -/
theorem setPhase_lawful {ph : Phase} (hin : s.tray.inCycle = true) (hph : s.tray.keptDrop = true → ph = .drop) :
    (setPhase ph s).tray.Lawful := ⟨.inl ((fitted_of_inCycle h hin).withPhase hin hph), h.2⟩

theorem enterIdle_lawful (hin : s.tray.inCycle = true) : (enterIdle s).tray.Lawful :=
  startMoves_lawful ⟨.inl ((fitted_of_inCycle h hin).atRest (.inl rfl)), h.2⟩

theorem jam_lawful (ph : Phase) (hin : s.tray.inCycle = true) : (jam ph s).tray.Lawful := by
  have hf := fitted_of_inCycle h hin
  have hcertainty : (if ph = .index then .uncertain else s.tray.certainty) ≠ .invalid := by
    split
    · nofun
    · exact hf.certainty
  have hjammed := (hf.withCertainty hcertainty).atRest (.inr rfl)
  exact ⟨.inl { hjammed with }, trivial⟩

end

/-- The home mark's effect on the tray record: a slot that was CERTAIN and wrong is reported (R65). -/
theorem correctSlot_eq (s : State) :
    correctSlot s = { s with
      tray := { s.tray with slot := 0, certainty := .certain }
      attn := if s.tray.certainty = .certain ∧ s.tray.slot ≠ 0 then s.attn.raise .trayResync s.tray.slot else s.attn } := by
  unfold correctSlot
  dsimp only
  split
  · next hcertain =>
    split
    · next hslot => rw [← hcertain, ← hslot]; simp
    · next hslot => simp [hcertain, hslot, raise]
  · next hcertain => simp [hcertain]

theorem correctSlot_tray (s : State) : (correctSlot s).tray = { s.tray with slot := 0, certainty := .certain } := by
  rw [correctSlot_eq]

theorem takeHomeMark_lawful {c : Cycle} {s : State} (h : s.tray.Lawful) (hindex : s.tray.state = .cycle .index) :
    (takeHomeMark c s).tray.Lawful := by
  have hin : s.tray.inCycle = true := Transport.inCycle_of_state hindex
  have hf := fitted_of_inCycle h hin
  have hcorrect : (correctSlot s).tray.Fitted := by
    rw [correctSlot_tray]
    exact (hf.withSlot hf.slots_pos).withCertainty nofun
  have hin' : (correctSlot s).tray.inCycle = true := by
    rw [correctSlot_tray]
    exact hin
  have hqueue : QueueLawful (correctSlot s).tray.queue := by
    rw [correctSlot_tray]
    exact h.2
  have hdrop : (setPhase .drop (sideClear .trayJam (correctSlot s))).tray.Lawful :=
    ⟨.inl (hcorrect.withPhase hin' fun _ => rfl), hqueue⟩
  unfold takeHomeMark endHomingPass
  dsimp only
  repeat' split
  · exact hdrop
  · exact hdrop
  · exact ⟨.inl (hcorrect.withCycle hin' _), hqueue⟩
  · exact ⟨.inl hcorrect, hqueue⟩

/-- INDEX begins from a phase in which no drop is kept (R64). -/
theorem enterIndex_lawful {s : State} (h : s.tray.Lawful) (hin : s.tray.inCycle = true) (hdrop : s.tray.state ≠ .cycle .drop) :
    (enterIndex s).tray.Lawful := by
  have hkept := (fitted_of_inCycle h hin).keptDrop_eq_false hdrop
  have hphase : (setPhase .index s).tray.Lawful := setPhase_lawful h hin fun hk => by simp [hkept] at hk
  unfold enterIndex
  dsimp only
  split
  · split
    · exact takeHomeMark_lawful hphase rfl
    · exact hphase
  · exact hphase

theorem nextSlot_lt (d : Direction) {size : Nat} (slot : Nat) (h : 0 < size) : nextSlot d size slot < size := by
  cases d <;> exact Nat.mod_lt _ h

theorem takeIndexPulse_lawful {c : Cycle} {s : State} (h : s.tray.Lawful) (hindex : s.tray.state = .cycle .index) :
    (takeIndexPulse c s).tray.Lawful := by
  have hin : s.tray.inCycle = true := Transport.inCycle_of_state hindex
  have hf := fitted_of_inCycle h hin
  have hcounted : ∀ n, Transport.Lawful { s.tray with
      slot := nextSlot c.dir s.tray.size.slots s.tray.slot, cycle := some { c with counted := n } } := fun n =>
    ⟨.inl ((hf.withSlot (nextSlot_lt c.dir s.tray.slot hf.slots_pos)).withCycle hin _), h.2⟩
  unfold takeIndexPulse
  dsimp only
  repeat' split
  · exact jam_lawful (hcounted _) .index hin
  · exact hcounted _
  · exact setPhase_lawful (hcounted _) hin fun _ => rfl
  · exact hcounted _

/-! ### What the Transport's events do -/

section
variable {s : State} (h : s.tray.Lawful)
include h

theorem endClose_lawful (b : Bool) : (endClose b s).tray.Lawful := by
  unfold endClose
  split
  · next hclose =>
    have hin := Transport.inCycle_of_state hclose
    have hkept := (fitted_of_inCycle h hin).keptDrop_eq_false (by simp [hclose])
    have hlift : (setPhase .lift s).tray.Lawful := setPhase_lawful h hin fun hk => by simp [hkept] at hk
    split
    · exact enterIndex_lawful hlift rfl nofun
    · exact hlift
  · exact h

theorem closeCamMid_lawful : (closeCamMid s).tray.Lawful := by
  unfold closeCamMid
  split
  · next hlift => exact enterIndex_lawful h (Transport.inCycle_of_state hlift) (by simp [hlift])
  · exact h

theorem expireLift_lawful : (expireLift s).tray.Lawful := by
  unfold expireLift
  split
  · next hlift => exact jam_lawful h .lift (Transport.inCycle_of_state hlift)
  · exact h

theorem indexPulse_lawful : (indexPulse s).tray.Lawful := by
  unfold indexPulse
  split
  · next hindex _ => exact takeIndexPulse_lawful h hindex
  · exact h

theorem expireIndex_lawful : (expireIndex s).tray.Lawful := by
  unfold expireIndex
  split
  · next hindex => exact jam_lawful h .index (Transport.inCycle_of_state hindex)
  · exact h

theorem homeMark_lawful : (homeMark s).tray.Lawful := by
  unfold homeMark
  split
  · next hindex _ => exact takeHomeMark_lawful h hindex
  · exact h

theorem closeCamHome_lawful : (closeCamHome s).tray.Lawful := by
  unfold closeCamHome
  split
  · next hdrop =>
    have hin := Transport.inCycle_of_state hdrop
    split
    · exact enterIdle_lawful h hin
    · next hkept => exact setPhase_lawful h hin fun hk => absurd hk hkept
  · exact h

theorem expireDrop_lawful : (expireDrop s).tray.Lawful := by
  unfold expireDrop
  split
  · next hdrop =>
    have hin := Transport.inCycle_of_state hdrop
    split
    · have huncertain : Transport.Lawful { s.tray with certainty := .uncertain } :=
        ⟨.inl ((fitted_of_inCycle h hin).withCertainty nofun), h.2⟩
      exact enterIdle_lawful huncertain hin
    · exact jam_lawful h .drop hin
  · exact h

theorem endSettle_lawful : (endSettle s).tray.Lawful := by
  unfold endSettle
  split
  · next hsettle =>
    have hin := Transport.inCycle_of_state hsettle
    split
    · split
      · exact enterIdle_lawful (s := sideClear .trayJam s) h hin
      · exact enterIdle_lawful h hin
    · exact enterIdle_lawful h hin
  · exact h

/-! ### The tray -/

/-- A tray taken off leaves the laws of a Transport with none (R72). -/
theorem removeTray_bare : (removeTray s).tray.Bare ∧ QueueLawful (removeTray s).tray.queue := by
  have hlose : s.tray.inCycle = false → s.tray.state ≠ .noTray → (loseTray s).tray.Bare := fun hin hstate => by
    have hf := h.fitted hstate
    exact ⟨rfl, rfl, rfl, rfl, hf.cycle_eq_none hin, hf.keptDrop_eq_false fun hdrop => by simp [Transport.inCycle, hdrop] at hin⟩
  unfold removeTray
  split
  · next hno => exact ⟨h.bare hno, h.2⟩
  · next hidle => exact ⟨hlose (by simp [Transport.inCycle, hidle]) (by simp [hidle]), trivial⟩
  · next hjammed => exact ⟨hlose (by simp [Transport.inCycle, hjammed]) (by simp [hjammed]), trivial⟩
  · exact ⟨⟨rfl, rfl, rfl, rfl, rfl, rfl⟩, trivial⟩

theorem changeTray_lawful (size : TraySize) (hsettling : (removeTray s).tray.settling ≠ .afterPowerOn) :
    (changeTray size s).tray.Lawful := by
  unfold changeTray
  dsimp only
  split
  · exact h
  · obtain ⟨hbare, hqueue⟩ := removeTray_bare h
    split
    · exact ⟨.inr hbare, hqueue⟩
    · next hsize =>
      have hpos : 0 < size.slots := by cases size <;> simp [TraySize.slots] at hsize ⊢
      refine ⟨.inl ⟨nofun, hsize, nofun, hpos, ?_, ?_, hsettling⟩, hqueue⟩
      · simp [fitTray, raise, hbare.cycle, Transport.inCycle]
      · simp [fitTray, raise, hbare.kept]

end

theorem removeTray_settling (s : State) : (removeTray s).tray.settling = s.tray.settling := by
  unfold removeTray
  split <;> rfl

/-- A size in the retained record is the number of its slots (11 section 11.7). -/
theorem sizeOfByte_eq_iff {size : TraySize} (hsize : size ≠ .none) (b : Byte) : sizeOfByte b = size ↔ b.toNat = size.slots := by
  have h84 : b = 84#8 ↔ b.toNat = 84 := BitVec.toNat_inj.symm
  have h120 : b = 120#8 ↔ b.toNat = 120 := BitVec.toNat_inj.symm
  unfold sizeOfByte
  rw [if_congr h84 rfl (if_congr h120 rfl rfl)]
  cases size with
  | none => exact absurd rfl hsize
  | slots84 | slots120 =>
    simp only [TraySize.slots]
    split
    · simp_all
    · split <;> simp_all

/-- What a record that makes sense says of a fitted tray: its slot lies on it, and its certainty is CERTAIN or UNCERTAIN (R176). -/
theorem recorded_tray {f : Vector Byte 6} (hsense : fieldsMakeSense f = true) {size : TraySize} (hsize : size ≠ .none)
    (hslots : f[0].toNat = size.slots) :
    f[1].toNat < size.slots ∧ certaintyOfByte f[2] = if f[2] = 2#8 then .certain else .uncertain := by
  have hpos : size.slots ≠ 0 := by cases size <;> simp [TraySize.slots] at hsize ⊢
  have hbytes : ∀ n < 256, f[2].toNat = n ↔ f[2] = BitVec.ofNat 8 n := fun n hn => by
    rw [← BitVec.toNat_inj, BitVec.toNat_ofNat, Nat.mod_eq_of_lt (by omega)]
  simp only [fieldsMakeSense, hslots, Bool.and_eq_true, beq_iff_eq, decide_eq_true_eq, if_neg hpos] at hsense
  obtain ⟨⟨⟨⟨-, hle⟩, -⟩, hzero⟩, hslot⟩ := hsense
  refine ⟨hslot, ?_⟩
  have hcertain : f[2].toNat ≠ 0 := fun h0 => by simp [h0, hpos] at hzero
  unfold certaintyOfByte
  have hone : f[2] ≠ 2#8 → f[2] = 1#8 := fun h2 => (hbytes 1 (by decide)).1 (by
    have : f[2].toNat ≠ 2 := fun h => h2 ((hbytes 2 (by decide)).1 h)
    omega)
  split
  · rfl
  · next h2 => rw [if_pos (hone h2)]

/-- The first code that settles after a power-on forms a tray record within the laws (R76). -/
theorem formTray_lawful (size : TraySize) {s : State} (h : TrayLaws s) (hpower : s.tray.settling = .afterPowerOn) :
    Transport.Lawful { (formTray size s).tray with settling := .settled } := by
  obtain ⟨hlaw, hrecord⟩ := h
  have hbare : s.tray.Bare := hlaw.1.resolve_left fun hf => hf.settling hpower
  unfold formTray
  dsimp only
  split
  · exact ⟨.inr ⟨rfl, rfl, rfl, rfl, hbare.cycle, hbare.kept⟩, hlaw.2⟩
  · next hsize =>
    have hpos : 0 < size.slots := by cases size <;> simp [TraySize.slots] at hsize ⊢
    split
    · next hread =>
      obtain ⟨hvalid, hread⟩ := hread
      obtain ⟨hslot, hcertainty⟩ := recorded_tray (hrecord hvalid) hsize ((sizeOfByte_eq_iff hsize _).1 hread)
      refine ⟨.inl ⟨nofun, hsize, ?_, hslot, ?_, ?_, nofun⟩, hlaw.2⟩
      · rw [hcertainty]
        split <;> nofun
      · simp [hbare.cycle, Transport.inCycle]
      · simp [hbare.kept]
    · refine ⟨.inl ⟨nofun, hsize, nofun, hpos, ?_, ?_, nofun⟩, hlaw.2⟩
      · simp [hbare.cycle, Transport.inCycle]
      · simp [hbare.kept]

/-- A tray code that settles keeps the laws (R51). -/
theorem settleCode_lawful (size : TraySize) {s : State} (h : TrayLaws s) : (settleCode size s).tray.Lawful := by
  have hsettled : ∀ {t : Transport}, t.Lawful → Transport.Lawful { t with settling := .settled } := fun ht =>
    ⟨ht.1.imp (·.settle nofun) (·.settle _), ht.2⟩
  have hchange : s.tray.settling ≠ .afterPowerOn → (changeTray size s).tray.Lawful := fun hne =>
    changeTray_lawful h.1 size (by rwa [removeTray_settling])
  unfold settleCode
  dsimp only
  split
  · next hpower => exact formTray_lawful size h hpower
  · next hreset => exact hsettled (hchange (by simp [hreset]))
  · next hdone => exact hsettled (hchange (by simp [hdone]))

/-! ### Station states and resets -/

/-- MAINS_LOSS ends a cycle with the tray UNCERTAIN (R75). -/
theorem Transport.mainsLoss_lawful {t : Transport} (h : t.Lawful) : t.mainsLoss.Lawful := by
  unfold Transport.mainsLoss
  dsimp only
  split
  · next hstate =>
    have hidle := ((h.fitted (by simp [hstate])).withCertainty (c := .uncertain) nofun).atRest (.inl rfl)
    exact ⟨.inl { hidle with }, trivial⟩
  all_goals exact Transport.flush_lawful h

/-- A reset ends a cycle with the tray UNCERTAIN, but for a drop that a loop reset lets finish (R77, R78). -/
theorem Transport.atReset_lawful {t : Transport} (h : t.Lawful) (loopReset : Bool) : (t.atReset loopReset).Lawful := by
  have hkeep : Transport.Lawful { t.flush with demand := .opened, settling := .afterReset } :=
    ⟨h.1.imp (fun hf => { hf with settling := nofun }) (fun hb => { hb with }), trivial⟩
  have hidle : t.state ≠ .noTray → Transport.Lawful { t.flush with
      demand := .opened, settling := .afterReset, state := .idle, cycle := none, keptDrop := false, certainty := .uncertain } :=
    fun hstate => by
      have hrest := ((h.fitted hstate).withCertainty (c := .uncertain) nofun).atRest (.inl rfl)
      exact ⟨.inl { hrest with settling := nofun }, trivial⟩
  have hkept : t.state ≠ .noTray → t.state ≠ .cycle .drop → Transport.Lawful { t.flush with
      demand := .opened, settling := .afterReset, state := .idle, cycle := none, certainty := .uncertain } := fun hstate hdrop => by
    have hfalse : t.flush.keptDrop = false := (h.fitted hstate).keptDrop_eq_false hdrop
    have := hidle hstate
    rwa [← hfalse] at this
  unfold Transport.atReset
  dsimp only
  split
  · next hdrop =>
    split
    · have hf := h.fitted (by simp [hdrop])
      exact ⟨.inl { hf with kept := fun _ => hdrop, settling := nofun }, trivial⟩
    · exact hidle (by simp [hdrop])
  case h_7 | h_8 => exact hkeep
  all_goals next hstate => exact hkept (by simp [hstate]) (by simp [hstate])

end Sys2Proof.Machine

-- ==== Sys2Proof/Proofs/TrayLaws.lean ====
/-! PROOF. Every step keeps the laws of tray record, cycle record and move queue (R52, R54, R57): the Transport's operations keep them,
nothing else writes the tray than the lamp that starts a waiting record, the station states and the resets, and the retained record read
at a power-on stands until the next reset. -/

namespace Sys2Proof.Machine

open Sys2Proof (Byte Key KeySamples Frame Instr Readings)

/-! ### The retained record as read -/

/-- What the Station Controller keeps of the retained record it read (R176). -/
def Station.record (x : Station) : Bool × Vector Byte 6 := (x.valid, x.readRecord)

theorem RecordLaw.congr {x y : Station} (h : RecordLaw x) (hrecord : y.record = x.record) : RecordLaw y := by
  obtain ⟨hvalid, hread⟩ := Prod.mk.inj hrecord
  rwa [RecordLaw, hvalid, hread]

@[simp] theorem noticeConfig_record (s : State) : (noticeConfig s).stn.record = s.stn.record := by
  unfold noticeConfig
  split <;> rfl

@[simp] theorem enterActive_record (s : State) : (enterActive s).stn.record = s.stn.record := by simp [enterActive, Station.record]

@[simp] theorem standbyTest_record (s : State) : (standbyTest s).stn.record = s.stn.record := by
  unfold standbyTest
  split <;> rfl

@[simp] theorem takeWake_record (s : State) : (takeWake s).stn.record = s.stn.record := by
  unfold takeWake
  split <;> simp

@[simp] theorem configSetItem_record (code v : Nat) (s : State) : (configSetItem code v s).1.stn.record = s.stn.record := by
  unfold configSetItem
  (repeat' split) <;> rfl

@[simp] theorem holdEvent_record (s : State) : (holdEvent s).stn.record = s.stn.record := by
  unfold holdEvent
  split <;> simp [Station.record]

@[simp] theorem resumeShow_record (s : State) : (resumeShow s).stn.record = s.stn.record := by simp [resumeShow, Station.record]

@[simp] theorem endWrite_record (s : State) : (endWrite s).stn.record = s.stn.record := by
  unfold endWrite
  split <;> rfl

/-! ### From one state to another -/

/-- What leads from `s` to `t` keeps the laws of the Transport and of the record. -/
abbrev TrayKept (s t : State) : Prop := Kept TrayLaws s t

theorem Kept.tray_lawful {s t : State} (hrecord : t.stn.record = s.stn.record) (h : s.tray.Lawful → t.tray.Lawful) : TrayKept s t :=
  fun ⟨hlaw, hread⟩ => ⟨h hlaw, hread.congr hrecord⟩

theorem Kept.tray_same {s t : State} (htray : t.tray = s.tray) (hrecord : t.stn.record = s.stn.record) : TrayKept s t :=
  .tray_lawful hrecord fun h => by rwa [htray]

theorem Kept.tray_of_stn {s t : State} (hstn : t.stn = s.stn) (h : s.tray.Lawful → t.tray.Lawful) : TrayKept s t :=
  .tray_lawful (by rw [hstn]) h

/-- The test of the standby condition after an event leaves the laws alone (R168). -/
theorem Kept.tray_tested {s t : State} (h : TrayKept s t) : TrayKept s (standbyTest t) := h.trans (.tray_same (by simp) (by simp))

theorem startMoves_trayKept (s : State) : TrayKept s (startMoves s) := .tray_of_stn (by simp) startMoves_lawful

/-! ### Lamp and fan: a lamp that goes dark may start a waiting record (R58, R98) -/

theorem setLamp_trayKept (l : Lamp) (s : State) : TrayKept s (setLamp l s) := by
  have hlamp : TrayKept s (if l.state = s.lamp.state then { s with lamp := l } else chooseFan { s with lamp := l }) :=
    .ite (.tray_same rfl rfl) (.tray_same rfl rfl)
  exact hlamp.trans (startMoves_trayKept _)

theorem requestPosition_trayKept (target ticks : Nat) (o : Origin) (s : State) : TrayKept s (requestPosition target ticks o s) := by
  unfold requestPosition
  refine .ite (.refl s) ?_
  split
  case h_1 => exact .ite (.refl s) (setLamp_trayKept _ s)
  case h_2 | h_3 => exact setLamp_trayKept _ s
  case h_4 | h_5 => exact .refl s

theorem requestLamp_trayKept (level tenths : Nat) (o : Origin) (s : State) : TrayKept s (requestLamp level tenths o s) :=
  requestPosition_trayKept _ _ o s

theorem requestLampOff_trayKept (s : State) : TrayKept s (requestLampOff s) := by
  unfold requestLampOff
  split
  case h_1 | h_2 => exact .refl s
  all_goals exact setLamp_trayKept _ s

theorem requestDark_trayKept (s : State) : TrayKept s (requestDark s) := by
  unfold requestDark
  dsimp only
  split
  case h_4 | h_5 => exact .refl s
  all_goals exact requestPosition_trayKept _ _ _ s

theorem tripsChanged_trayKept (s : State) : TrayKept s (tripsChanged s) :=
  .trans (.tray_same rfl rfl)
    (startMoves_trayKept (chooseFan { s with lamp := s.lamp.meetTrips s.cool.tripped, cool := s.cool.markTrip }))

theorem testThermal_trayKept (s : State) : TrayKept s (testThermal s) := by
  have htrips : ∀ c : Cooling, TrayKept s (tripsChanged { s with cool := c }) := fun c =>
    .trans (.tray_same rfl rfl) (tripsChanged_trayKept { s with cool := c })
  exact .ite (.ite (htrips _) (.refl s)) (.ite ((htrips _).trans (.tray_same rfl rfl)) (.refl s))

theorem coolingTick_trayKept (energy : Nat) (s : State) : TrayKept s (coolingTick energy s) := by
  have hheat : ∀ c : Cooling, TrayKept s (testThermal { s with cool := c }) := fun c =>
    .trans (.tray_same rfl rfl) (testThermal_trayKept { s with cool := c })
  have hafter : ∀ t, TrayKept t (updateCool (updateCeiling (updateStages t))) := fun t => .tray_same (by simp) (by simp)
  exact (hheat _).trans (hafter _)

theorem handOver_trayKept (s : State) : TrayKept s (handOver s) :=
  .ite (.trans (.tray_same rfl rfl) (coolingTick_trayKept s.lamp.energy { s with lamp := { s.lamp with energy := 0, ticks := 0 } }))
    (.refl s)

theorem failLamp_trayKept (drive : Nat) (l : Lamp) (s : State) : TrayKept s (failLamp drive l s) :=
  (setLamp_trayKept _ s).trans (.tray_same rfl rfl)

theorem lampTickIn_trayKept (first current : Bool) (s : State) : TrayKept s (lampTickIn first current s) := by
  have honly : TrayKept s (lampTickOnly current s) := .ite (failLamp_trayKept _ _ s) (setLamp_trayKept _ s)
  have hhand : TrayKept s (handOver (setLamp (tickedLamp current s) s)) := (setLamp_trayKept _ s).trans (handOver_trayKept _)
  exact .ite (.ite (hhand.trans (failLamp_trayKept _ _ _)) hhand) (honly.trans (handOver_trayKept _))

theorem lampTick_trayKept (current : Bool) (s : State) : TrayKept s (lampTick current s) :=
  .ite (.trans (.tray_same rfl rfl) (lampTickIn_trayKept _ current { s with openValues := s.openValues + 1 }))
    (lampTickIn_trayKept false current s)

theorem endTachGate_trayKept (s : State) : TrayKept s (endTachGate s) := by
  have hcount : ∀ c : Cooling, TrayKept s { s with cool := c } := fun c => .tray_same rfl rfl
  have htrips : ∀ t (c : Cooling), TrayKept t (tripsChanged { t with cool := c }) := fun t c =>
    .trans (.tray_same rfl rfl) (tripsChanged_trayKept { t with cool := c })
  have hstall : ∀ n t, TrayKept t (stallTest n t) := fun n t =>
    .ite (.ite (.refl t) (htrips t _)) (.ite ((htrips t _).trans (.tray_same rfl rfl)) (.refl t))
  have htested : TrayKept s (if gateTested s.cool = true then
      stallTest s.cool.gateCount { s with cool := { s.cool with lastTach := s.cool.gateCount } }
      else { s with cool := { s.cool with lastTach := s.cool.gateCount } }) :=
    .ite ((hcount _).trans (hstall _ _)) (hcount _)
  exact htested.trans (.tray_same rfl rfl)

theorem takeCutout_trayKept (opened : Bool) (s : State) : TrayKept s (takeCutout opened s) := by
  have htrips : TrayKept s (tripsChanged { s with cool := { s.cool with cutout := opened } }) :=
    .trans (.tray_same rfl rfl) (tripsChanged_trayKept { s with cool := { s.cool with cutout := opened } })
  exact .ite (.refl s) (.ite (htrips.trans (.tray_same rfl rfl)) htrips)

/-! ### Steps and cues -/

theorem offerMove_trayKept (k : MoveKind) (dark : Bool) (o : Origin) (s : State) : TrayKept s (offerMove k dark o s) :=
  .tray_of_stn (by simp) (offerMove_lawful k dark o)

theorem routeStep_trayKept (st : Step) (o : Origin) (s : State) : TrayKept s (routeStep st o s) := by
  have hdemand : ∀ d, TrayKept s (setDemand d s) := fun d => .tray_of_stn rfl fun h => h.requeue h.2 _ _
  unfold routeStep
  split
  case h_1 | h_11 => exact .refl s
  case h_2 | h_3 => exact .ite (.refl s) (offerMove_trayKept _ _ o s)
  case h_4 | h_5 => exact offerMove_trayKept _ _ o s
  case h_6 => exact .ite (hdemand _) (.ite (hdemand _) (.refl s))
  case h_7 => exact requestLamp_trayKept _ _ o s
  case h_8 => exact requestLampOff_trayKept s
  case h_9 => exact .tray_same rfl rfl
  case h_10 =>
    split
    · exact .tray_same (by simp) (by simp)
    · exact .refl s

theorem schedule_trayKept (r : Record) (s : State) : TrayKept s (schedule r s) := .tray_same (by simp) (by simp)

theorem recordCue_trayKept (cue : Nat) (src : CueSource) (s : State) : TrayKept s (recordCue cue src s) := .tray_same rfl rfl

theorem loadedCue_trayKept (cue : Nat) (src : CueSource) (s : State) : TrayKept s (loadedCue cue src s) := by
  have hexpand : ∀ (t : State) (p : PoolStep), TrayKept t (expandStep cue t p) := fun t p => by
    unfold expandStep
    split
    · exact .refl t
    · exact .ite (routeStep_trayKept _ .ofShow t) (schedule_trayKept _ t)
  exact .ite (.tray_same rfl rfl) ((recordCue_trayKept cue src s).trans (.foldl hexpand _ _))

theorem stepCue_trayKept (cue : Nat) (v : Verb) (src : CueSource) (s : State) : TrayKept s (stepCue cue v src s) :=
  (recordCue_trayKept cue src s).trans (.ite (routeStep_trayKept _ .ofShow _) (schedule_trayKept _ _))

theorem endOfShow_trayKept (s : State) : TrayKept s (endOfShow s) :=
  .trans (.tray_same rfl rfl) ((routeStep_trayKept ⟨.tape, 1, 0⟩ .ofShow (emptySchedule s)).trans (routeStep_trayKept _ .ofShow _))

theorem holdEvent_trayKept (s : State) : TrayKept s (holdEvent s) := .tray_same (by simp) (by simp)

/-- A cue arrival keeps the laws if what a RESUME does keeps them (R36 to R40). -/
theorem cueArrivalWith_trayKept {resume : State → State} (h : ∀ s, TrayKept s (resume s)) (cue : Nat) (src : CueSource) (s : State) :
    TrayKept s (cueArrivalWith resume cue src s) := by
  have hrecord := recordCue_trayKept cue src s
  have hcount : ∀ k, TrayKept s (count k s) := fun k => .tray_same rfl rfl
  have hcommit : TrayKept s (commitCue src s) := .ite (hcount _) (.tray_same rfl rfl)
  exact .ite (hcount _) <| .ite (hcount _) <| .ite (loadedCue_trayKept cue src s) <| .ite (hrecord.trans (holdEvent_trayKept _)) <|
    .ite (hrecord.trans (h _)) <| .ite hcommit <| .ite (hrecord.trans (endOfShow_trayKept _)) <|
    .ite (hrecord.trans (routeStep_trayKept _ .ofShow _)) <| .ite (stepCue_trayKept cue .advance src s) <|
    .ite (stepCue_trayKept cue .reverse src s) (hcount _)

theorem routeDueUpTo_trayKept (n : Nat) (s : State) : TrayKept s (routeDueUpTo n s) := by
  have hrecord : ∀ r t, TrayKept t (routeRecord r t) := fun r t =>
    .ite (cueArrivalWith_trayKept .refl r.a .follow t) (routeStep_trayKept _ .ofShow t)
  induction n generalizing s with
  | zero => exact .refl s
  | succ n ih =>
    unfold routeDueUpTo
    split
    · exact .refl s
    · next r rest _ =>
      have htail : TrayKept s { s with disp := { s.disp with schedule := rest } } := .tray_same rfl rfl
      exact .ite (htail.trans ((hrecord r _).trans (ih _))) (.refl s)

theorem resumeEvent_trayKept (s : State) : TrayKept s (resumeEvent s) := by
  have hshow : TrayKept s (resumeShow s) := .tray_same (by simp) (by simp)
  exact .ite (hshow.trans (routeDueUpTo_trayKept _ _)) (.refl s)

theorem cueArrival_trayKept (cue : Nat) (src : CueSource) (s : State) : TrayKept s (cueArrival cue src s) :=
  cueArrivalWith_trayKept resumeEvent_trayKept cue src s

theorem holdToggle_trayKept (s : State) : TrayKept s (holdToggle s) := .ite (resumeEvent_trayKept s) (holdEvent_trayKept s)

theorem showTick_trayKept (s : State) : TrayKept s (showTick s) := by
  have htick : TrayKept s (tickRecords s) := .tray_same rfl rfl
  exact .ite (htick.trans (routeDueUpTo_trayKept _ _)) (.refl s)

theorem directStep_trayKept (verb a b : Byte) (s : State) : TrayKept s (directStep verb a b s) := by
  unfold directStep
  split
  · exact .refl s
  · exact .ite (cueArrival_trayKept _ .follow s) (routeStep_trayKept _ .direct s)

/-! ### Station states and resets -/

theorem closeConfiguration_trayKept (s : State) : TrayKept s (closeConfiguration s) := by
  have hlock : TrayKept s (lockConfiguration s) := .tray_same (by simp) rfl
  have hactive : ∀ t, TrayKept t (enterActive t) := fun t => .tray_same (by simp) (by simp)
  exact hlock.trans (hactive _)

/-- Lamp and Transport take a station state, in either order (R163; log 12). -/
theorem tellLampAndTray_trayKept (l : Lamp → Lamp) {f : Transport → Transport} (hf : ∀ {t : Transport}, t.Lawful → (f t).Lawful)
    (s : State) :
    TrayKept s (tellLampAndTray l f s) := by
  have hopen : TrayKept s { s with openValues := s.openValues + 1 } := .tray_same rfl rfl
  have htray : ∀ t : State, TrayKept t { t with tray := f t.tray } := fun t => .tray_of_stn rfl hf
  exact .ite (hopen.trans ((setLamp_trayKept _ _).trans (htray _))) (hopen.trans ((htray _).trans (setLamp_trayKept _ _)))

theorem takeStandby_trayKept (s : State) : TrayKept s (takeStandby s) := by
  have hlock : ∀ t, TrayKept t (lockConfiguration t) := fun t => .tray_same (by simp) rfl
  have hbefore : ∀ t, TrayKept t (stopSilence { t with
      stn := { t.stn with state := .coolingDown, showState := .none, window := .off }, cool := fanBeforeCoolingDown t }) := fun t =>
    .tray_same rfl rfl
  have hafter : ∀ t, TrayKept t (emptySchedule (cancelSound (tapeStop (chooseFan t)))) := fun t => .tray_same (by simp) (by simp)
  have hcooling : ∀ t, TrayKept t (enterCoolingDown t) := fun t =>
    (hbefore t).trans ((tellLampAndTray_trayKept Lamp.coolDown Transport.flush_lawful _).trans (hafter _))
  have hclosed : TrayKept s (if s.stn.state = .configuring then lockConfiguration s else s) := .ite (hlock s) (.refl s)
  exact (hclosed.trans (hcooling _)).tray_tested

theorem mainsWarnOn_trayKept (s : State) : TrayKept s (mainsWarnOn s) := by
  have hwarn : TrayKept s { s with stn := { s.stn with mainsWarn := true } } := .tray_same rfl rfl
  have hbefore : ∀ t, TrayKept t (stopSilence { t with stn := { t.stn with state := .mainsLoss, showState := .none, window := .off } }) :=
    fun t => .tray_same rfl rfl
  have hfan : ∀ (c : Prop) [Decidable c] t, TrayKept t (if c then chooseFan t else t) := fun c _ t => .ite (.tray_same rfl rfl) (.refl t)
  have hafter : ∀ t : State, TrayKept t (beginWrite { emptySchedule (deckMainsLoss t) with remote := t.remote.mainsLoss }) := fun t =>
    .tray_same (by simp) (by simp [beginWrite, Station.record])
  have henter : ∀ t, TrayKept t (enterMainsLoss t) := fun t =>
    (hbefore t).trans ((tellLampAndTray_trayKept _ Transport.mainsLoss_lawful _).trans ((hfan _ _).trans (hafter _)))
  exact .ite hwarn (hwarn.trans (henter _))

/-- A reset keeps the laws where the Station Controller's record, as taken, makes sense (R76 to R78, R176). -/
theorem resetWith_trayLaws (kind : ResetKind) (x : Station) (r : Readings) (s : State) (h : s.tray.Lawful)
    (hread : kind = .powerOn → RecordLaw x) : TrayLaws (resetWith kind x r s) := by
  have hpowerOn : Transport.atPowerOn.Lawful := ⟨.inr ⟨rfl, rfl, rfl, rfl, rfl, rfl⟩, trivial⟩
  have hblocks : TrayLaws (resetBlocks kind x r s) := by
    refine ⟨?_, fun hvalid => ?_⟩
    · show Transport.Lawful (if kind = .powerOn then .atPowerOn else s.tray.atReset (kind == .loop))
      split
      · exact hpowerOn
      · exact Transport.atReset_lawful h _
    · by_cases hkind : kind = .powerOn
      · exact hread hkind (by simpa [resetBlocks, Station.atReset, hkind] using hvalid)
      · exact absurd hvalid (by simp [resetBlocks, Station.atReset, hkind])
  have hraise : ∀ d, TrayKept (resetBlocks kind x r s) (raise .restarted d (resetBlocks kind x r s)) := fun d => .tray_same rfl rfl
  have htrips : ∀ t, TrayKept t (raiseActiveTrips t) := fun t => by
    obtain ⟨a, hstate, -⟩ := raiseActiveTrips_frame t
    rw [hstate]
    exact .tray_same rfl rfl
  have hfan : ∀ t, TrayKept t (fanAtReset kind s.cool.cutout t) := fun t => .ite (.tray_same rfl rfl) (.refl t)
  have hwarn : ∀ t, TrayKept t (readMainsWarn r.mainsWarn t) := fun t => .ite (mainsWarnOn_trayKept t) (.refl t)
  exact (hraise _).trans ((htrips _).trans ((hfan _).trans (hwarn _))) hblocks

theorem resetWith_trayKept {kind : ResetKind} (x : Station) (r : Readings) (s : State) (hkind : kind ≠ .powerOn) :
    TrayKept s (resetWith kind x r s) := fun ⟨hlaw, _⟩ => resetWith_trayLaws kind x r s hlaw fun h => absurd h hkind

/-- The retained record read as valid makes sense (R176). -/
theorem powerOn_trayKept (st : Straps) (r : Readings) (s : State) : TrayKept s (powerOn st r s) := fun ⟨hlaw, _⟩ =>
  resetWith_trayLaws .powerOn _ r s hlaw fun _ hvalid => by
    obtain ⟨-, hsense⟩ := (Bool.and_eq_true _ _).mp (show s.retained.valid = true from hvalid)
    exact hsense

/-! ### Commands and frames -/

/-- Every COMMAND keeps the laws. -/
theorem trayLaws_keptByCommands : KeptByCommands TrayLaws where
  step := directStep_trayKept
  hold := holdEvent_trayKept
  resume := resumeEvent_trayKept
  commit := fun _ => .tray_same rfl rfl
  set := fun _ _ _ => .tray_same (by simp) (by simp)
  close := closeConfiguration_trayKept
  standby := takeStandby_trayKept
  wake := fun _ => .tray_same (by simp) (by simp)
  attention := fun _ _ => .tray_same rfl rfl
  notice := fun _ => .tray_same (by simp) (by simp)

/-- Every frame keeps the laws. -/
theorem trayLaws_keptAtCheck : KeptAtCheck TrayLaws where
  blocks := fun {_ _} ⟨⟨htray, _, _, _, _, hstn⟩, _⟩ => Kept.tray_same htray (by rw [hstn])
  cue := fun cue s => cueArrival_trayKept cue .loop s
  command := trayLaws_keptByCommands.judgeCommand
  load := fun payload s => .tray_same (by simp) (by simp)
  notice := fun s => .tray_same (by simp) (by simp)

/-! ### The tape's cues and the pendant (R150, R157) -/

theorem handOn_trayKept (cue : Nat) (s : State) : TrayKept s (handOn cue s) := by
  have hoffer : ∀ x t, TrayKept t (offerFrame x t) := fun x t => .tray_same (by simp) (by simp)
  exact (cueArrival_trayKept cue .tape s).trans (.ite (hoffer _ _) (.refl _))

/-- A change of the decoder alone, and then a cue handed on. -/
theorem handOn_trayKept_of_decoder (cue : Nat) (d : Decoder) (s : State) : TrayKept s (handOn cue { s with dec := d }) :=
  .trans (.tray_same rfl rfl) (handOn_trayKept cue { s with dec := d })

theorem readSample_trayKept (q : Nat) (v : Bool) (s : State) : TrayKept s (readSample q v s) := by
  have hmeet : ∀ w t, TrayKept t (meetCandidate w t) := fun w t => by
    unfold meetCandidate
    split
    · exact .tray_same rfl rfl
    · exact .ite (handOn_trayKept_of_decoder _ _ t) (.tray_same rfl rfl)
  have hset : ∀ st t, TrayKept t (setDecoder st t) := fun st t => .tray_same rfl rfl
  have hgood : ∀ w t, TrayKept t (goodWord w t) := fun w t => .ite (hset _ t) ((hset .hunting t).trans (hmeet w _))
  exact .ite (.ite (.tray_same rfl rfl) (.tray_same rfl rfl)) <|
    .ite (.ite ((hset _ s).trans (hgood _ _)) (.tray_same rfl rfl)) (.ite (.tray_same rfl rfl) (.tray_same rfl rfl))

theorem readWordUpTo_trayKept (data : Byte) (parity stop : Bool) (n : Nat) (s : State) :
    TrayKept s (readWordUpTo data parity stop n s) := by
  induction n generalizing s with
  | zero => exact .refl s
  | succ n ih =>
    unfold readWordUpTo
    split
    · exact (readSample_trayKept _ _ s).trans (ih _)
    · exact .refl s

theorem pulseSample_trayKept (mark : Bool) (s : State) : TrayKept s (pulseSample mark s) := by
  have hend : TrayKept s (endBurst s) := .ite (handOn_trayKept_of_decoder 248 _ s) (.tray_same rfl rfl)
  have hlengthen : TrayKept s (lengthenBurst s) := .ite (handOn_trayKept_of_decoder 249 _ s) (.tray_same rfl rfl)
  have hcount : TrayKept s (countNonMark s) := .tray_same rfl rfl
  unfold pulseSample
  split
  case h_1 => exact .ite (.tray_same rfl rfl) (.refl s)
  case h_2 => exact .ite hlengthen (.ite hcount hend)
  case h_3 => exact .ite (.tray_same rfl rfl) (.ite hcount (.tray_same rfl rfl))
  all_goals exact .refl s

theorem takeSample_trayKept (age : Nat) (s : State) : TrayKept s (takeSample age s) := by
  have hset : ∀ st, TrayKept s (setDecoder st s) := fun st => .tray_same rfl rfl
  have hbegin : TrayKept s (beginReading s) := .tray_same rfl rfl
  have hword : ∀ v, TrayKept s (wordSample v s) := fun v => by
    unfold wordSample
    split
    case h_1 => exact .ite (.refl s) (hset _)
    case h_2 => exact .ite (hset _) (.ite (hset _) hbegin)
    case h_3 => exact readSample_trayKept _ v s
    all_goals exact .refl s
  unfold takeSample
  split
  case h_1 => exact .refl s
  case h_2 | h_3 | h_4 => exact hword _
  all_goals exact pulseSample_trayKept _ s

theorem recognizePress_trayKept (k : Key) (s : State) : TrayKept s (recognizePress k s) := by
  have hrelay : ∀ k t, TrayKept t (relayKey k t) := fun k t => .tray_same (by simp) (by simp)
  have hkey : ∀ t, TrayKept t (keyAction k t) := fun t => by
    cases k with
    | fwd | rev => exact .ite (offerMove_trayKept _ false .direct t) (hrelay _ t)
    | hold => exact .ite (.refl t) (.ite (holdToggle_trayKept t) (hrelay _ t))
    | dark => exact .ite (requestDark_trayKept t) (hrelay _ t)
    | focusIn | focusOut => exact .refl t
  have hwake : ∀ (t : State) r, TrayKept t (takeWake { t with remote := r }) := fun t r => .tray_same (by simp) (by simp)
  have hact : ∀ t, TrayKept t (actOnPress k t) := fun t => by
    unfold actOnPress
    split
    case h_1 | h_2 => exact hkey t
    case h_3 | h_4 => exact hwake t _
    case h_5 => exact .tray_same rfl rfl
  have hpress : TrayKept s (pressKey k s) := .tray_same rfl rfl
  have hfocus : ∀ t, TrayKept t (chooseFocus t) := fun t => .tray_same rfl rfl
  exact (Kept.ite hpress (hpress.trans (hact _))).trans (hfocus _)

theorem takeScan_trayKept (x : KeySamples) (order : List Key) (s : State) : TrayKept s (takeScan x order s) := by
  have hsamples : TrayKept s { s with remote := s.remote.sampleAll x } := .tray_same rfl rfl
  have hkey : ∀ t k, TrayKept t (recognizeKey t k) := fun t k =>
    .ite (.ite (.tray_same rfl rfl) (recognizePress_trayKept k t)) (.refl t)
  exact hsamples.trans (.foldl hkey (order ++ allKeys) _)

theorem expireSilence_trayKept (s : State) : TrayKept s (expireSilence s) := by
  have hexpire : ∀ n x, TrayKept s (raise .loopSilent n { s with loop := x }) := fun _ _ => .tray_same rfl rfl
  unfold expireSilence
  refine .ite ?_ (.refl s)
  dsimp only
  split
  · exact hexpire _ _
  · exact (hexpire _ _).trans (holdEvent_trayKept _)
  · exact (hexpire _ _).trans (requestLamp_trayKept _ _ _ _)
  · exact (hexpire _ _).trans ((holdEvent_trayKept _).trans (requestLamp_trayKept _ _ _ _))

/-! ### A step -/

/-- Every command is a change of the state that keeps the laws. -/
theorem exec_trayKept (i : Instr) (s : State) : ∃ t, exec i s = .next t ∧ TrayKept s t := by
  have hframe : ∀ f bytes, TrayKept s (whenRunning (frameArrives f bytes) s) := fun f bytes =>
    (trayLaws_keptAtCheck.frameArrives f bytes s).whenRunning
  have hpulse : ∀ (c : Prop) [Decidable c] (m : Bool), TrayKept s (if c then pulseSample m s else s) := fun c _ m =>
    .ite (pulseSample_trayKept m s) (.refl s)
  have htray : ∀ {t : State}, t.stn = s.stn → (s.tray.Lawful → t.tray.Lawful) → TrayKept s t := Kept.tray_of_stn
  cases i
  case trayCodeChange code =>
    have hsettle : TrayKept s (settleCode (sizeOfCode code) s) := fun h => ⟨settleCode_lawful _ h, by simpa using h.2⟩
    exact ⟨_, rfl, hsettle.tray_tested.whenRunning⟩
  case moveStart => exact ⟨_, rfl, (startMoves_trayKept s).whenRunning⟩
  case darkWaitTimeout => exact ⟨_, rfl, (Kept.ite (htray (by simp) expireDarkWait_lawful) (.refl s)).whenRunning⟩
  case closePhaseEnd b => exact ⟨_, rfl, (htray (by simp) (endClose_lawful · b)).whenRunning⟩
  case camMid => exact ⟨_, rfl, (htray (by simp) closeCamMid_lawful).whenRunning⟩
  case liftTimeout => exact ⟨_, rfl, (htray (by simp) expireLift_lawful).tray_tested.whenRunning⟩
  case indexPulse => exact ⟨_, rfl, (htray (by simp) indexPulse_lawful).tray_tested.whenRunning⟩
  case indexTimeout => exact ⟨_, rfl, (htray (by simp) expireIndex_lawful).tray_tested.whenRunning⟩
  case homingPassLimit =>
    exact ⟨_, rfl, (Kept.ite (htray (by simp) indexPulse_lawful).tray_tested (.refl s)).whenRunning⟩
  case homeMark => exact ⟨_, rfl, (htray (by simp) homeMark_lawful).whenRunning⟩
  case camHome => exact ⟨_, rfl, (htray (by simp) closeCamHome_lawful).tray_tested.whenRunning⟩
  case dropTimeout => exact ⟨_, rfl, (htray (by simp) expireDrop_lawful).tray_tested.whenRunning⟩
  case settleEnd => exact ⟨_, rfl, (htray (by simp) endSettle_lawful).tray_tested.whenRunning⟩
  case showTick => exact ⟨_, rfl, (showTick_trayKept s).whenRunning⟩
  case scheduledRecordDue => exact ⟨_, rfl, (routeDueUpTo_trayKept _ s).whenRunning⟩
  case lampTick c => exact ⟨_, rfl, (lampTick_trayKept c s).tray_tested.whenRunning⟩
  case lampRampEnd c => exact ⟨_, rfl, (Kept.ite (lampTick_trayKept c s).tray_tested (.refl s)).whenRunning⟩
  case lampFailed => exact ⟨_, rfl, (Kept.ite (lampTickIn_trayKept false false s).tray_tested (.refl s)).whenRunning⟩
  case coolingTick c => exact ⟨_, rfl, (Kept.ite (lampTickIn_trayKept true c s).tray_tested (.refl s)).whenRunning⟩
  case cutoutChange opened => exact ⟨_, rfl, (takeCutout_trayKept opened s).whenRunning⟩
  case tachGateEnd => exact ⟨_, rfl, (endTachGate_trayKept s).whenRunning⟩
  case configWindowExpiry => exact ⟨_, rfl, (Kept.ite (closeConfiguration_trayKept s) (.refl s)).whenRunning⟩
  case mainsWarnAssert => exact ⟨_, rfl, (mainsWarnOn_trayKept s).whenRunning⟩
  case powerOn st r => exact ⟨_, rfl, powerOn_trayKept st r s⟩
  case pinReset st r => exact ⟨_, rfl, .ite (.refl s) (resetWith_trayKept _ r s (by decide))⟩
  case loopReset r => exact ⟨_, rfl, (Kept.ite (resetWith_trayKept _ r s (by decide)) (.refl s)).whenRunning⟩
  case brownoutRestart st r => exact ⟨_, rfl, (Kept.ite (resetWith_trayKept _ r s (by decide)) (.refl s)).whenRunning⟩
  case supplyFall => exact ⟨_, rfl, .tray_same rfl rfl⟩
  case strayByteRun gap bytes => exact ⟨_, rfl, (trayLaws_keptAtCheck.strayRun gap bytes s).whenRunning⟩
  case tapeWord data parity stop => exact ⟨_, rfl, (readWordUpTo_trayKept data parity stop 50 s).whenRunning⟩
  case burstEnd | burstLimit | spentEnd => exact ⟨_, rfl, (hpulse _ _).whenRunning⟩
  case cueTrackSample age => exact ⟨_, rfl, (takeSample_trayKept age s).whenRunning⟩
  case keyPress k => exact ⟨_, rfl, (Kept.ite (.refl s) (recognizePress_trayKept k s)).whenRunning⟩
  case keyScan samples order => exact ⟨_, rfl, (takeScan_trayKept samples order s).whenRunning⟩
  case cueFrame | poll | query | load | remoteFrame | assign | unknownKind | lengthAbove32 | unknownCommandCode | step | hold | resume |
      commit | configSet | configClose | standby | wake | ack | attnSet | clearCounters | reset =>
    exact ⟨_, rfl, hframe _ _⟩
  case loopSilenceExpiry => exact ⟨_, rfl, (expireSilence_trayKept s).whenRunning⟩
  case spinUpElapsed => exact ⟨_, rfl, .whenRunning (.ite (.tray_same rfl rfl) (.refl s))⟩
  case soundRampEnd => exact ⟨_, rfl, .whenRunning (.ite (.tray_same (by simp) (by simp)) (.refl s))⟩
  case pinResetAssert | mirrorComplete | mainsWarnDeassert => exact ⟨_, rfl, .whenRunning (.tray_same rfl rfl)⟩
  all_goals exact ⟨_, rfl, .whenRunning (.tray_same (by simp) (by simp))⟩

/-- Settles O53: a step idles, or is a command on the queue's rest. -/
theorem stepKeepsTrayLaws : Obligations.StepKeepsTrayLaws := by
  unfold Obligations.StepKeepsTrayLaws
  intro s s' hlaws hstep
  rw [← trayLaws_iff] at hlaws ⊢
  unfold step at hstep
  split at hstep
  · obtain rfl := Host.Outcome.next.inj hstep
    exact hlaws
  · next i rest _ =>
    obtain ⟨t, ht, hkept⟩ := exec_trayKept i { s with pending := rest }
    obtain rfl := Host.Outcome.next.inj (ht.symm.trans hstep)
    exact hkept hlaws

end Sys2Proof.Machine

-- ==== Sys2Proof/Proofs/TrayChanges.lean ====
/-! PROOF. A tray taken off, fitted and changed (R51, R72, R73), and the first tray code that settles after a power-on (R76) and after
another reset (R77). -/

namespace Sys2Proof.Machine

open Sys2Proof (TrayCode)

/-! ### A code that has settled -/

/-- The tray code contacts have settled. -/
def codeSettled (s : State) : State := { s with tray := { s.tray with settling := .settled } }

theorem codeSettled_of_settled {s : State} (h : s.tray.settling = .settled) : codeSettled s = s := by
  rw [codeSettled, ← h]

/-- A code that settles, but for the first after a power-on, is compared with the record's size (R77). -/
theorem settleCode_compared {s : State} (h : s.tray.settling ≠ .afterPowerOn) (size : TraySize) :
    settleCode size s = codeSettled (changeTray size s) := by
  unfold settleCode
  cases hsettling : s.tray.settling with
  | afterPowerOn => exact absurd hsettling h
  | afterReset | settled => rfl

/-- The first code that settles after a power-on forms the tray record (R76). -/
theorem settleCode_first {s : State} (h : s.tray.settling = .afterPowerOn) (size : TraySize) :
    settleCode size s = codeSettled (formTray size s) := by
  unfold settleCode
  rw [h]
  rfl

theorem removeTray_codeSettled (s : State) : removeTray (codeSettled s) = codeSettled (removeTray s) := by
  have hstate : (codeSettled s).tray.state = s.tray.state := rfl
  unfold removeTray
  rw [hstate]
  cases s.tray.state <;> rfl

/-- What a code changes does not hang on whether one has settled before (R77). -/
theorem changeTray_codeSettled (size : TraySize) (s : State) : changeTray size (codeSettled s) = codeSettled (changeTray size s) := by
  have hsize : (codeSettled s).tray.size = s.tray.size := rfl
  unfold changeTray
  rw [hsize, removeTray_codeSettled]
  by_cases hsame : size = s.tray.size
  · simp only [if_pos hsame]
  · simp only [if_neg hsame]
    split <;> rfl

/-! ### Off, on, and both -/

/-- The Transport once its tray is taken off: what a cycle kept goes with the jam (R70, R72). -/
def trayOff (t : Transport) : Transport :=
  let off : Transport := { t with
    queue := [], darkTimer := false, state := .noTray, size := .none, slot := 0, certainty := .invalid }
  if t.inCycle then { off with cycle := none, keptDrop := false } else off

/-- The Attention Unit once a tray taken off in a cycle has jammed it (R72). -/
def jamReported (s : State) : Attn :=
  match s.tray.state with
  | .cycle ph => s.attn.raise .trayJam ph.code
  | _ => s.attn

/-- A tray taken off (R72). -/
theorem removeTray_eq {s : State} (h : s.tray.state ≠ .noTray) :
    removeTray s = { s with tray := trayOff s.tray, attn := (jamReported s).raise .trayChanged 0 } := by
  unfold removeTray trayOff jamReported Transport.inCycle
  cases hstate : s.tray.state with
  | noTray => exact absurd hstate h
  | idle | jammed | cycle => rfl

theorem removeTray_noTray {s : State} (h : s.tray.state = .noTray) : removeTray s = s := by
  unfold removeTray
  rw [h]

theorem changeTray_same {s : State} {size : TraySize} (h : s.tray.size = size) : changeTray size s = s := if_pos h.symm

theorem changeTray_off {s : State} (h : s.tray.size ≠ .none) : changeTray .none s = removeTray s := by
  rw [changeTray, if_neg h.symm]
  rfl

theorem changeTray_on {s : State} {size : TraySize} (hne : size ≠ s.tray.size) (hsize : size ≠ .none) :
    changeTray size s = fitTray size (removeTray s) := by
  rw [changeTray, if_neg hne]
  exact if_neg hsize

/-- A tray fitted where there was none (R73). -/
theorem changeTray_fresh {s : State} {size : TraySize} (hstate : s.tray.state = .noTray) (hempty : s.tray.size = .none)
    (hsize : size ≠ .none) : changeTray size s = fitTray size s := by
  rw [changeTray_on (by rwa [hempty]) hsize, removeTray_noTray hstate]

theorem changeTray_settling (size : TraySize) (s : State) : (changeTray size s).tray.settling = s.tray.settling := by
  unfold changeTray
  dsimp only
  (repeat' split) <;> simp [fitTray, raise, removeTray_settling]

theorem sizeOfCode_empty {code : TrayCode} (h : code = .none ∨ code = .invalid) : sizeOfCode code = .none := by
  rcases h with rfl | rfl <;> rfl

theorem sizeOfCode_tray {code : TrayCode} {size : TraySize}
    (h : (code = .slots84 ∧ size = .slots84) ∨ (code = .slots120 ∧ size = .slots120)) : sizeOfCode code = size ∧ size ≠ .none := by
  rcases h with ⟨rfl, rfl⟩ | ⟨rfl, rfl⟩ <;> exact ⟨rfl, nofun⟩

/-! ### The event -/

/-- The event of a code leaves what its settling leaves (R51, R168). -/
theorem eventLeaves_trayCode {s t : State} {code : TrayCode} (hpower : s.power = .running)
    (h : settleCode (sizeOfCode code) s = t) : EventLeaves (.trayCodeChange code) s t := by
  subst h
  exact eventLeaves_of_exec (exec_trayCodeChange hpower code) (by simpa using hpower) (by simp)

/-- Once a code has settled, the event of the next one leaves what the change of trays leaves. -/
theorem eventLeaves_changeTray {s t : State} {code : TrayCode} (hpower : s.power = .running) (hsettled : s.tray.settling = .settled)
    (h : changeTray (sizeOfCode code) s = t) : EventLeaves (.trayCodeChange code) s t :=
  eventLeaves_trayCode hpower (by
    rw [settleCode_compared (by simp [hsettled]), codeSettled_of_settled (by rw [changeTray_settling, hsettled]), h])

/-- Settles O37, by its three parts: a settled code, the first one after another reset, and the first one after a power-on. -/
theorem trayRemovalAndFitting : Obligations.TrayRemovalAndFitting := by
  unfold Obligations.TrayRemovalAndFitting
  refine ⟨fun s hpower hsettled => ⟨fun old new code hstate hold hne => ⟨fun hcode => ?_, fun hcode hnew => ?_⟩,
    fun hstate hsize => ?_⟩, fun s hpower hsettling => ⟨⟨fun hsize => ?_, fun hsize => ?_, fun hsize => ?_⟩, fun code => ?_⟩,
    fun s hpower hsettling hlaw => ⟨fun code hcode => ?_, fun code size hcode => ⟨fun hvalid hslots => ?_, fun hother => ?_⟩⟩⟩
  · refine eventLeaves_changeTray hpower hsettled ?_
    rw [sizeOfCode_empty hcode, changeTray_off (hold ▸ hne), removeTray_eq hstate]
    rfl
  · obtain ⟨hcodeSize, hnone⟩ := sizeOfCode_tray hcode
    refine eventLeaves_changeTray hpower hsettled ?_
    rw [hcodeSize, changeTray_on (hold ▸ hnew) hnone, removeTray_eq hstate]
    rfl
  · have hfit : ∀ size, size ≠ .none → changeTray size s = fitTray size s := fun size => changeTray_fresh hstate hsize
    exact ⟨eventLeaves_changeTray hpower hsettled (hfit .slots84 (by decide)),
      eventLeaves_changeTray hpower hsettled (hfit .slots120 (by decide))⟩
  · exact eventLeaves_trayCode hpower (by rw [settleCode_compared hsettling, sizeOfCode, changeTray_same hsize]; rfl)
  · exact eventLeaves_trayCode hpower (by rw [settleCode_compared hsettling, sizeOfCode, changeTray_same hsize]; rfl)
  · constructor
    all_goals exact eventLeaves_trayCode hpower (by rw [settleCode_compared hsettling, sizeOfCode, changeTray_same hsize]; rfl)
  · refine ⟨_, exec_trayCodeChange hpower code, ?_, by simp [settleCode]⟩
    have hagain : settleCode (sizeOfCode code) (codeSettled s) = settleCode (sizeOfCode code) s := by
      rw [settleCode_compared (s := codeSettled s) nofun, settleCode_compared hsettling, changeTray_codeSettled]
      rfl
    rw [← hagain]
    exact exec_trayCodeChange (s := codeSettled s) hpower code
  · refine eventLeaves_trayCode hpower ?_
    rw [settleCode_first hsettling, sizeOfCode_empty hcode]
    rfl
  · obtain ⟨hcodeSize, hnone⟩ := sizeOfCode_tray hcode
    obtain ⟨-, -, -, hrecord⟩ := hlaw
    obtain ⟨-, hcertainty⟩ := recorded_tray (hrecord hvalid) hnone hslots
    refine eventLeaves_trayCode hpower ?_
    rw [settleCode_first hsettling, hcodeSize, formTray, ← hcertainty]
    simp only [if_neg hnone, if_pos (And.intro hvalid ((sizeOfByte_eq_iff hnone _).2 hslots))]
    rfl
  · obtain ⟨hcodeSize, hnone⟩ := sizeOfCode_tray hcode
    have hunread : ¬(s.stn.valid = true ∧ sizeOfByte s.stn.readRecord[0] = size) := fun ⟨hvalid, hread⟩ =>
      hother.elim (fun h => by simp [h] at hvalid) fun h => h ((sizeOfByte_eq_iff hnone _).1 hread)
    refine eventLeaves_trayCode hpower ?_
    rw [settleCode_first hsettling, hcodeSize, formTray]
    simp only [if_neg hnone, if_neg hunread]
    rfl

end Sys2Proof.Machine

-- ==== Sys2Proof/Proofs/IndexAndJams.lean ====
/-! PROOF. INDEX: the pulses it counts and the home mark (R53, R62, R64, R65); jams (R70); and the end of a drop that a loop reset let
finish (R78). -/

namespace Sys2Proof.Machine

/-! ### Pulses and the home mark -/

theorem indexPulse_index {s : State} {cy : Cycle} (hstate : s.tray.state = .cycle .index) (hcycle : s.tray.cycle = some cy) :
    indexPulse s = takeIndexPulse cy s := by
  rw [indexPulse, hstate, hcycle]

theorem homeMark_index {s : State} {cy : Cycle} (hstate : s.tray.state = .cycle .index) (hcycle : s.tray.cycle = some cy) :
    homeMark s = takeHomeMark cy s := by
  rw [homeMark, hstate, hcycle]

/-- Outside INDEX a pulse and a home mark do nothing, and no homing pass is at its limit (R53). -/
theorem outside_index {s : State} (h : s.tray.state ≠ .cycle .index) :
    indexPulse s = s ∧ homeMark s = s ∧ homingAtLimit s = false := by
  refine ⟨?_, ?_, ?_⟩
  · unfold indexPulse
    split
    · contradiction
    · rfl
  · unfold homeMark
    split
    · contradiction
    · rfl
  · unfold homingAtLimit
    split
    · contradiction
    · rfl

/-- The Transport with one more pulse counted, the slot moved by one (R64). -/
def pulsed (cy : Cycle) (s : State) : State :=
  { s with tray := { s.tray with
      slot := nextSlot cy.dir s.tray.size.slots s.tray.slot, cycle := some { cy with counted := cy.counted + 1 } } }

/-- A pulse counted, with its end of the pass (R64). -/
theorem takeIndexPulse_eq (cy : Cycle) (s : State) :
    takeIndexPulse cy s =
      if cy.homing = true then if s.tray.size.slots + 2 ≤ cy.counted + 1 then jam .index (pulsed cy s) else pulsed cy s
      else if cy.count ≤ cy.counted + 1 then setPhase .drop (pulsed cy s) else pulsed cy s := rfl

/-- In a counted INDEX a pulse ends INDEX at the cycle's number (R64). -/
theorem takeIndexPulse_counted {cy : Cycle} (h : cy.homing = false) (s : State) :
    takeIndexPulse cy s = if cy.count ≤ cy.counted + 1 then setPhase .drop (pulsed cy s) else pulsed cy s :=
  (takeIndexPulse_eq cy s).trans (if_neg (by simp [h]))

/-- In a homing pass a pulse jams the Transport where it is the pass's last (R64). -/
theorem takeIndexPulse_homing {cy : Cycle} (h : cy.homing = true) (s : State) :
    takeIndexPulse cy s = if s.tray.size.slots + 2 ≤ cy.counted + 1 then jam .index (pulsed cy s) else pulsed cy s :=
  (takeIndexPulse_eq cy s).trans (if_pos h)

/-- A slot that is right is left as it is (R65). -/
theorem correctSlot_right {s : State} (hcertain : s.tray.certainty = .certain) (hslot : s.tray.slot = 0) : correctSlot s = s := by
  unfold correctSlot
  simp only [if_pos hcertain, if_pos hslot]

/-- The home mark ends a homing pass (R62, R64, R65): in DROP where the target is slot 0, and else on the shorter path to it. -/
theorem endHomingPass_eq {cy : Cycle} {n : Nat} {s : State} (hn : cy.target.getD 0 = n) (hlt : n < s.tray.size.slots) :
    endHomingPass cy s =
      if n = 0 then setPhase .drop (sideClear .trayJam s)
      else { sideClear .trayJam s with tray := { s.tray with
        cycle := some (if n ≤ s.tray.size.slots - n then countedCycle .forward n
          else countedCycle .backward (s.tray.size.slots - n)) } } := by
  have hpath := pathTo_from_zero hlt
  have hfrom : (sideClear .trayJam s).tray = s.tray := rfl
  unfold endHomingPass
  cases htarget : cy.target with
  | none =>
    obtain rfl : 0 = n := by simpa [htarget] using hn
    rfl
  | some target =>
    obtain rfl : target = n := by simpa [htarget] using hn
    simp only [hfrom, hpath]
    split
    · rfl
    · split <;> rfl

/-- Settles O39: a counted INDEX, everything outside INDEX, and a homing pass. -/
theorem indexCountsAndCorrects : Obligations.IndexCountsAndCorrects := by
  unfold Obligations.IndexCountsAndCorrects
  refine ⟨fun cy s hpower hcycle hhoming hstate => ⟨?_, ?_⟩, fun s hpower hstate => ?_,
    fun cy s hpower hcycle hhoming hstate => ⟨fun hcount => ?_, fun n hn hlt => ?_⟩⟩
  · have hin : (takeIndexPulse cy s).tray.inCycle = true := by
      rw [takeIndexPulse_counted hhoming]
      split
      · rfl
      · exact Transport.inCycle_of_state hstate
    rw [exec_indexPulse hpower, indexPulse_index hstate hcycle, standbyTest_of_inCycle hin, takeIndexPulse_counted hhoming]
    split
    · rfl
    · rw [← hstate]
      rfl
  · rw [exec_homeMark hpower, homeMark_index hstate hcycle, takeHomeMark, hhoming]
    refine congrArg Host.Outcome.next (Eq.trans (if_neg nofun) ?_)
    split
    · next hright => exact correctSlot_right hright.1 hright.2
    · next hwrong =>
      have hreported : (s.tray.certainty = .certain ∧ s.tray.slot ≠ 0) ↔ s.tray.certainty = .certain :=
        ⟨And.left, fun hcertain => ⟨hcertain, fun hslot => hwrong ⟨hcertain, hslot⟩⟩⟩
      rw [correctSlot_eq]
      simp only [hreported]
  · obtain ⟨hpulse, hmark, hlimit⟩ := outside_index hstate
    refine ⟨eventLeaves_of_exec ?_ hpower rfl, ?_, ?_⟩
    · rw [exec_indexPulse hpower, hpulse]
    · rw [exec_homeMark hpower, hmark]
    · rw [exec_homingPassLimit hpower, hlimit]
      rfl
  · have hpulse : takeIndexPulse cy s = pulsed cy s := by rw [takeIndexPulse_homing hhoming, if_neg (by omega)]
    rw [exec_indexPulse hpower, indexPulse_index hstate hcycle, hpulse,
      standbyTest_of_inCycle (Transport.inCycle_of_state (t := (pulsed cy s).tray) hstate)]
    rfl
  · have hsize : (correctSlot s).tray.size = s.tray.size := by rw [correctSlot_tray]
    rw [exec_homeMark hpower, homeMark_index hstate hcycle, takeHomeMark, if_pos hhoming, endHomingPass_eq hn (by rwa [hsize]), hsize,
      correctSlot_eq]
    by_cases hzero : n = 0
    · simp only [if_pos hzero, ← hcycle]
      rfl
    · simp only [if_neg hzero, ← hstate]
      rfl

/-! ### Jams -/

/-- A jam leaves the Transport in JAMMED with the queue flushed, and reports its phase (R70). -/
theorem jam_eq (ph : Phase) (s : State) :
    jam ph s = { s with
      tray := { s.tray with
        queue := [], darkTimer := false, state := .jammed, cycle := none, keptDrop := false
        certainty := if ph = .index then .uncertain else s.tray.certainty }
      attn := s.attn.raise .trayJam ph.code } := rfl

/-! ### A kept drop -/

/-- The Transport back in IDLE with its cycle over (R66, R78). -/
def cycleOver (s : State) : State := { s with tray := { s.tray with state := .idle, cycle := none, keptDrop := false } }

theorem enterIdle_empty {s : State} (h : s.tray.queue = []) : enterIdle s = cycleOver s := startMoves_of_empty (cycleOver s) h

/-- A STEP that waits starts as the cycle before it ends (R58, R66). -/
theorem enterIdle_step {s : State} {c : Int} {w : Bool} {o : Origin} (h : s.tray.queue = [⟨.step c, false, w, o⟩]) (hc : c ≠ 0) :
    enterIdle s =
      begun ⟨false, if 0 < c then .forward else .backward, false, c.natAbs, 0, none, false⟩ (headGone [] (cycleOver s)) :=
  startMoves_begins (s := cycleOver s) h (canStart_idle _ rfl) (startMove_step hc false w o _)

/-- A drop that a loop reset let finish ends at CAM HOME in IDLE (R78). -/
theorem closeCamHome_kept {s : State} (hstate : s.tray.state = .cycle .drop) (hkept : s.tray.keptDrop = true) :
    closeCamHome s = enterIdle s := by
  rw [closeCamHome, if_pos hstate, if_pos hkept]

/-- The tray no longer CERTAIN. -/
def trayUncertain (s : State) : State := { s with tray := { s.tray with certainty := .uncertain } }

/-- At its timer it ends in IDLE too, with the tray UNCERTAIN (R78). -/
theorem expireDrop_kept {s : State} (hstate : s.tray.state = .cycle .drop) (hkept : s.tray.keptDrop = true) :
    expireDrop s = enterIdle (trayUncertain s) := by
  rw [expireDrop, if_pos hstate, if_pos hkept]
  rfl

/-- Settles O40: the ends of a kept drop, then the phases that outlast their time and the homing pass at its limit. -/
theorem overrunJams : Obligations.OverrunJams := by
  unfold Obligations.OverrunJams
  refine ⟨fun s hpower hstn hkept hstate => ⟨fun hqueue => ⟨?_, ?_⟩, fun c w o hqueue hc => ⟨?_, ?_⟩⟩,
    fun s hpower hstn hkept => ⟨fun hstate => ?_, fun hstate => ?_, fun hstate => ?_, fun hstate cy hcycle hhoming hcount => ?_⟩⟩
  · rw [exec_camHome hpower, closeCamHome_kept hstate hkept, enterIdle_empty hqueue]
    exact congrArg _ (standbyTest_of_not_coolingDown hstn)
  · rw [exec_dropTimeout hpower, expireDrop_kept hstate hkept, enterIdle_empty (s := trayUncertain s) hqueue]
    exact congrArg _ (standbyTest_of_not_coolingDown hstn)
  · rw [exec_camHome hpower, closeCamHome_kept hstate hkept, enterIdle_step hqueue hc]
    exact congrArg _ (standbyTest_of_not_coolingDown hstn)
  · rw [exec_dropTimeout hpower, expireDrop_kept hstate hkept, enterIdle_step (s := trayUncertain s) hqueue hc]
    exact congrArg _ (standbyTest_of_not_coolingDown hstn)
  · rw [exec_liftTimeout hpower, expireLift, if_pos hstate, jam_eq, ← hkept]
    exact congrArg _ (standbyTest_of_not_coolingDown hstn)
  · rw [exec_indexTimeout hpower, expireIndex, if_pos hstate, jam_eq, ← hkept]
    exact congrArg _ (standbyTest_of_not_coolingDown hstn)
  · rw [exec_dropTimeout hpower, expireDrop, if_pos hstate, if_neg (by simp [hkept]), jam_eq, ← hkept]
    exact congrArg _ (standbyTest_of_not_coolingDown hstn)
  · have hlimit : homingAtLimit s = true := by
      rw [homingAtLimit, hstate, hcycle]
      simp [hhoming, hcount]
    have hpulse : indexPulse s = jam .index (pulsed cy s) := by
      rw [indexPulse_index hstate hcycle, takeIndexPulse_homing hhoming, if_pos (Nat.le_of_eq hcount.symm)]
    refine ⟨jam .index (pulsed cy s), ?_, rfl, rfl, rfl, rfl, rfl⟩
    rw [exec_homingPassLimit hpower, if_pos hlimit, hpulse]
    exact congrArg _ (standbyTest_of_not_coolingDown hstn)

end Sys2Proof.Machine

-- ==== Sys2Proof/Proofs/MovesAndPhases.lean ====
/-! PROOF. Moves offered (R55 to R57), their start from the head of the queue and the end of their dark wait (R58 to R62), and the phases
of a cycle (R63, R66). -/

namespace Sys2Proof.Machine

/-! ### Offers -/

theorem offerMove_refused {k : MoveKind} {s : State} {d : Nat} (h : moveRefusal s.tray k = some d) (dark : Bool) (o : Origin) :
    offerMove k dark o s = raise .moveRefused d s := by
  unfold offerMove
  rw [h]

/-- Which offers are refused, and why (R55). -/
theorem moveRefusal_cases (t : Transport) (k : MoveKind) :
    (t.state = .noTray → moveRefusal t k = some 1) ∧
    (t.state = .jammed → k ≠ .home → moveRefusal t k = some 2) ∧
    (t.state ≠ .noTray → t.state ≠ .jammed → ∀ n, k = .goto n → moveRefusal t k = if t.size.slots ≤ n then some 3 else none) ∧
    (t.state ≠ .noTray → t.state ≠ .jammed → ∀ c, k = .step c → moveRefusal t k = none) ∧
    (t.state ≠ .noTray → k = .home → moveRefusal t k = none) := by
  refine ⟨fun h => ?_, fun h hk => ?_, fun h h' n hk => ?_, fun h h' c hk => ?_, fun h hk => ?_⟩ <;> simp_all [moveRefusal]

/-- A Transport in IDLE or in a cycle has a tray and is not jammed. -/
theorem state_of_ready {t : Transport} (h : t.state = .idle ∨ t.inCycle = true) : t.state ≠ .noTray ∧ t.state ≠ .jammed := by
  rcases h with h | h
  · simp [h]
  · obtain ⟨ph, hph⟩ := t.inCycle_iff.1 h
    simp [hph]

/-- An offer taken leaves the queue as `t` holds it, and R58 is tested; while a cycle runs that is all (R56 to R58). -/
theorem offerTaken_of_eq {k : MoveKind} {dark : Bool} {o : Origin} {s t : State} (h : offerMove k dark o s = startMoves t)
    (hpower : t.power = .running) (hstate : t.tray.state = s.tray.state) : OfferTaken k dark o s t := by
  refine ⟨by rw [exec_moveStart hpower, h], fun hin => h.trans (startMoves_inCycle ?_)⟩
  rwa [Transport.inCycle, hstate, ← Transport.inCycle]

/-- A STEP offered to a Transport in IDLE or in a cycle is taken (R55, R56). -/
theorem offerMove_step {s : State} (h : s.tray.state = .idle ∨ s.tray.inCycle = true) (c : Int) (dark : Bool) (o : Origin) :
    offerMove (.step c) dark o s = startMoves { s with tray := s.tray.takeStep c dark o } := by
  obtain ⟨hno, hjam⟩ := state_of_ready h
  obtain ⟨-, -, -, hstep, -⟩ := moveRefusal_cases s.tray (.step c)
  rw [offerMove, hstep hno hjam c rfl]

/-- A GOTO to a slot of the tray is taken (R55, R57). -/
theorem offerMove_goto {s : State} (h : s.tray.state = .idle ∨ s.tray.inCycle = true) {n : Nat} (hn : n < s.tray.size.slots)
    (dark : Bool) (o : Origin) :
    offerMove (.goto n) dark o s =
      startMoves { s with tray := { s.tray with queue := [⟨.goto n, dark, false, o⟩], darkTimer := dark } } := by
  obtain ⟨hno, hjam⟩ := state_of_ready h
  obtain ⟨-, -, hgoto, -, -⟩ := moveRefusal_cases s.tray (.goto n)
  rw [offerMove, hgoto hno hjam n rfl, if_neg (Nat.not_le.2 hn)]
  simp only [Transport.takeOther_eq]

/-- A HOME is taken wherever a tray is fitted, and never waits for the dark (R55, R57). -/
theorem offerMove_home {s : State} (h : s.tray.state ≠ .noTray) (dark : Bool) (o : Origin) :
    offerMove .home dark o s =
      startMoves { s with tray := { s.tray with queue := [⟨.home, false, false, o⟩], darkTimer := false } } := by
  obtain ⟨-, -, -, -, hhome⟩ := moveRefusal_cases s.tray .home
  rw [offerMove, hhome h rfl]
  simp only [Transport.takeOther_eq]

theorem offerTaken_step {c : Int} {dark : Bool} {o : Origin} {s : State} {t : Transport} (hpower : s.power = .running)
    (h : s.tray.state = .idle ∨ s.tray.inCycle = true) (htake : s.tray.takeStep c dark o = t) (hstate : t.state = s.tray.state) :
    OfferTaken (.step c) dark o s { s with tray := t } :=
  offerTaken_of_eq (by rw [offerMove_step h, htake]) hpower hstate

/-! ### The head record -/

section
variable {s : State} (dark w : Bool) (o : Origin)

/-- A GOTO to the slot that is CERTAIN completes at once (R62). -/
theorem startMove_goto_here {target : Nat} (hcertain : s.tray.certainty = .certain) (hslot : target = s.tray.slot) :
    startMove ⟨.goto target, dark, w, o⟩ s = s := by
  simp only [startMove, if_pos hcertain, if_pos hslot]

/-- A GOTO from another slot that is CERTAIN counts the shorter path (R62). -/
theorem startMove_goto_counted {target : Nat} (hcertain : s.tray.certainty = .certain) (hslot : target ≠ s.tray.slot) :
    startMove ⟨.goto target, dark, w, o⟩ s =
      begun (if (target + s.tray.size.slots - s.tray.slot) % s.tray.size.slots ≤
            s.tray.size.slots - (target + s.tray.size.slots - s.tray.slot) % s.tray.size.slots
          then countedCycle .forward ((target + s.tray.size.slots - s.tray.slot) % s.tray.size.slots)
          else countedCycle .backward (s.tray.size.slots - (target + s.tray.size.slots - s.tray.slot) % s.tray.size.slots)) s := by
  simp only [startMove, if_pos hcertain, if_neg hslot, pathTo_eq]
  split <;> rfl

/-- A GOTO from a slot that is not CERTAIN homes first (R62). -/
theorem startMove_goto_homing {target : Nat} (hcertain : s.tray.certainty ≠ .certain) :
    startMove ⟨.goto target, dark, w, o⟩ s = begun (homingCycle false .forward (some target) false) s := by
  simp only [startMove, if_neg hcertain]
  rfl

/-- A HOME at slot 0, CERTAIN and not jammed, completes at once and clears TRAY_JAM (R62). -/
theorem startMove_home_here (hcertain : s.tray.certainty = .certain) (hslot : s.tray.slot = 0) (hstate : s.tray.state ≠ .jammed) :
    startMove ⟨.home, dark, w, o⟩ s = sideClear .trayJam s := by
  simp only [startMove, if_pos hcertain, if_pos hslot, if_neg hstate]

/-- A HOME from JAMMED at slot 0, CERTAIN, begins a cycle whose INDEX ends at once (R62). -/
theorem startMove_home_jammed (hcertain : s.tray.certainty = .certain) (hslot : s.tray.slot = 0) (hstate : s.tray.state = .jammed) :
    startMove ⟨.home, dark, w, o⟩ s = begun (homingCycle true .forward none true) s := by
  simp only [startMove, if_pos hcertain, if_pos hslot, if_pos hstate]
  rfl

/-- A HOME from another slot that is CERTAIN homes on the shorter path (R62). -/
theorem startMove_home_shorter (hcertain : s.tray.certainty = .certain) (hslot : s.tray.slot ≠ 0)
    (hlt : s.tray.slot < s.tray.size.slots) :
    startMove ⟨.home, dark, w, o⟩ s =
      begun (homingCycle true (if s.tray.size.slots - s.tray.slot ≤ s.tray.slot then .forward else .backward) none false) s := by
  simp only [startMove, if_pos hcertain, if_neg hslot, pathTo_zero hslot hlt]
  split <;> rfl

/-- A HOME from a slot that is not CERTAIN homes forward (R62). -/
theorem startMove_home_uncertain (hcertain : s.tray.certainty ≠ .certain) :
    startMove ⟨.home, dark, w, o⟩ s = begun (homingCycle true .forward none false) s := by
  simp only [startMove, if_neg hcertain]
  rfl

end

/-- The state with the head's wait over, and its kind and origin reported (R59). -/
def darkWaitOver (m : Move) (rest : List Move) (s : State) : State :=
  { s with
    tray := { s.tray with queue := { m with waitOver := true } :: rest, darkTimer := false }
    attn := s.attn.raise .darkWaitTimeout ((if m.isStep then 256 else 512) + if m.origin = .direct then 1 else 0) }

/-- A dark wait that expires marks the head, which then starts if it may (R58, R59). -/
theorem expireDarkWait_eq {s : State} {m : Move} {rest : List Move} (hqueue : s.tray.queue = m :: rest) (hhome : m.kind ≠ .home) :
    expireDarkWait s = startMoves (darkWaitOver m rest s) := by
  rw [expireDarkWait, hqueue]
  obtain ⟨kind, _, _, _⟩ := m
  cases kind with
  | step | goto => simp [Move.isStep, raise, darkWaitOver]
  | home => exact absurd rfl hhome

section
variable {s : State} {m : Move} {rest : List Move} (hpower : s.power = .running) (hqueue : s.tray.queue = m :: rest)
include hpower hqueue

/-- A head that waits stays (R58). -/
theorem exec_moveStart_waiting (h : canStart m s = false) : exec .moveStart s = .next s := by
  rw [exec_moveStart hpower, startMoves_waiting hqueue h]

/-- A head that begins a cycle (R63). -/
theorem exec_moveStart_begins {c : Cycle} (h : canStart m s = true)
    (hstart : startMove m (headGone rest s) = begun c (headGone rest s)) :
    exec .moveStart s = .next (begun c (headGone rest s)) := by
  rw [exec_moveStart hpower, startMoves_begins hqueue h hstart]

/-- A head that completes at once: the record behind it becomes the head (R58, R62). -/
theorem exec_moveStart_completes {t : State} (h : canStart m s = true) (hstart : startMove m (headGone rest s) = t)
    (hleft : t.tray.queue = rest) (hpower' : t.power = .running) :
    exec .moveStart s = exec .moveStart t ∧ (rest = [] → exec .moveStart s = .next t) := by
  rw [exec_moveStart hpower, exec_moveStart hpower', startMoves_completes hqueue h hstart hleft]
  exact ⟨rfl, fun hempty => by rw [startMoves_of_empty t (hleft.trans hempty)]⟩

/-- The dark-wait timer that expires while the show is not held (R59, R60). -/
theorem exec_darkWaitTimeout_expires (hhome : m.kind ≠ .home) (htimer : s.tray.darkTimer = true)
    (hheld : ¬(s.stn.state = .active ∧ s.stn.showState = .held)) :
    exec .darkWaitTimeout s = .next (startMoves (darkWaitOver m rest s)) := by
  have hno : showHeld s = false := Bool.eq_false_iff.2 fun h => hheld ((showHeld_iff s).1 h)
  rw [exec_darkWaitTimeout hpower, if_pos (by simp [htimer, hno]), expireDarkWait_eq hqueue hhome]

end

/-- Of an IDLE Transport's head that does not wait for the dark, or whose wait is over (R58). -/
theorem canStart_of_ready {s : State} {m : Move} (hidle : s.tray.state = .idle)
    (h : m.afterDark = false ∨ s.lamp.dark = true ∨ m.waitOver = true) : canStart m s = true := by
  rw [canStart_idle m hidle]
  rcases h with h | h | h <;> simp [h]

theorem canStart_of_dark_wait {s : State} {m : Move} (hidle : s.tray.state = .idle) (hdark : m.afterDark = true)
    (hlamp : s.lamp.dark = false) (hwait : m.waitOver = false) : canStart m s = false := by
  rw [canStart_idle m hidle, hdark, hlamp, hwait]
  rfl

/-! ### Phases -/

/-- INDEX begins, and ends at once where R62 says so (R64). -/
theorem enterIndex_eq {s : State} {cy : Cycle} (hcycle : s.tray.cycle = some cy) :
    enterIndex s = if cy.atOnce = true then takeHomeMark cy (setPhase .index s) else setPhase .index s := by
  have hsame : (setPhase .index s).tray.cycle = some cy := hcycle
  unfold enterIndex
  simp only [hsame]

theorem enterIndex_stays {s : State} {cy : Cycle} (hcycle : s.tray.cycle = some cy) (honce : cy.atOnce = false) :
    enterIndex s = setPhase .index s := by
  rw [enterIndex_eq hcycle, if_neg (by simp [honce])]

section
variable {s : State} {cy : Cycle} (hpower : s.power = .running)
include hpower

/-- An event of a phase does nothing in any other (R63, R66). -/
theorem exec_phase_elsewhere :
    (s.tray.state ≠ .cycle .close → exec (.closePhaseEnd false) s = .next s) ∧
    (s.tray.state ≠ .cycle .lift → exec .camMid s = .next s) ∧
    (s.stn.state ≠ .coolingDown → s.tray.state ≠ .cycle .drop → exec .camHome s = .next s) ∧
    (s.stn.state ≠ .coolingDown → s.tray.state ≠ .cycle .settle → exec .settleEnd s = .next s) := by
  refine ⟨fun h => ?_, fun h => ?_, fun hstn h => ?_, fun hstn h => ?_⟩
  · rw [exec_closePhaseEnd hpower, endClose, if_neg h]
  · rw [exec_camMid hpower, closeCamMid, if_neg h]
  · rw [exec_camHome hpower, closeCamHome, if_neg h, standbyTest_of_not_coolingDown hstn]
  · rw [exec_settleEnd hpower, endSettle, if_neg h, standbyTest_of_not_coolingDown hstn]

/-- CLOSE goes on to LIFT, and where CAM MID is closed already, to INDEX (R63). -/
theorem exec_closePhaseEnd_close (hcycle : s.tray.cycle = some cy) (honce : cy.atOnce = false) (hstate : s.tray.state = .cycle .close) :
    exec (.closePhaseEnd false) s = .next (setPhase .lift s) ∧ exec (.closePhaseEnd true) s = .next (setPhase .index s) := by
  constructor
  · rw [exec_closePhaseEnd hpower, endClose, if_pos hstate]
    rfl
  · have hindex : enterIndex (setPhase .lift s) = setPhase .index s := enterIndex_stays hcycle honce
    rw [exec_closePhaseEnd hpower, endClose, if_pos hstate, if_pos rfl, hindex]

/-- CAM MID ends LIFT (R63). -/
theorem exec_camMid_lift (hstate : s.tray.state = .cycle .lift) : exec .camMid s = .next (enterIndex s) := by
  rw [exec_camMid hpower, closeCamMid, if_pos hstate]

/-- CAM HOME ends a DROP that is not a kept one (R66). -/
theorem exec_camHome_drop (hkept : s.tray.keptDrop = false) (hstn : s.stn.state ≠ .coolingDown) (hstate : s.tray.state = .cycle .drop) :
    exec .camHome s = .next (setPhase .settle s) := by
  rw [exec_camHome hpower, closeCamHome, if_pos hstate, if_neg (by simp [hkept])]
  exact congrArg _ (standbyTest_of_not_coolingDown hstn)

/-- SETTLE ends in IDLE, a HOME's with TRAY_JAM cleared (R66). -/
theorem exec_settleEnd_settle (hcycle : s.tray.cycle = some cy) (hstn : s.stn.state ≠ .coolingDown)
    (hstate : s.tray.state = .cycle .settle) (hqueue : s.tray.queue = []) :
    exec .settleEnd s = .next (cycleOver (if cy.isHome = true then sideClear .trayJam s else s)) := by
  have hstn' : (cycleOver (if cy.isHome = true then sideClear .trayJam s else s)).stn.state ≠ .coolingDown := by
    split <;> exact hstn
  have hempty : (if cy.isHome = true then sideClear .trayJam s else s).tray.queue = [] := by split <;> exact hqueue
  rw [exec_settleEnd hpower, endSettle, if_pos hstate, hcycle]
  simp only [enterIdle_empty hempty]
  exact congrArg _ (standbyTest_of_not_coolingDown hstn')

end

/-! ### The clauses of O38 -/

/-- Offers, but for STEPs (R55, R57). -/
theorem offers_refused_or_taken (k : MoveKind) (dark : Bool) (o : Origin) (s : State) :
    (s.tray.state = .noTray → offerMove k dark o s = raise .moveRefused 1 s) ∧
    (s.tray.state = .jammed → k ≠ .home → offerMove k dark o s = raise .moveRefused 2 s) ∧
    (s.tray.state ≠ .noTray → s.tray.state ≠ .jammed → ∀ n, k = .goto n → s.tray.size.slots ≤ n →
      offerMove k dark o s = raise .moveRefused 3 s) ∧
    (s.power = .running → s.tray.state = .idle ∨ s.tray.inCycle = true → ∀ n, k = .goto n → n < s.tray.size.slots →
      OfferTaken k dark o s { s with tray := { s.tray with queue := [⟨k, dark, false, o⟩], darkTimer := dark } }) ∧
    (s.power = .running → s.tray.state ≠ .noTray → k = .home →
      OfferTaken k dark o s { s with tray := { s.tray with queue := [⟨k, false, false, o⟩], darkTimer := false } }) := by
  obtain ⟨hnoTray, hjammed, hgoto, -, -⟩ := moveRefusal_cases s.tray k
  refine ⟨fun h => offerMove_refused (hnoTray h) dark o, fun h hk => offerMove_refused (hjammed h hk) dark o,
    fun hno hjam n hk hle => offerMove_refused ((hgoto hno hjam n hk).trans (if_pos hle)) dark o,
    fun hpower h n hk hn => ?_, fun hpower h hk => ?_⟩
  · subst hk
    exact offerTaken_of_eq (offerMove_goto h hn dark o) hpower rfl
  · subst hk
    exact offerTaken_of_eq (offerMove_home h dark o) hpower rfl

/-- Settles O38, by its eight parts: offers, STEPs offered, a GOTO, a HOME and a STEP at the head, the dark wait's end, the phases of a
cycle, and the INDEX that ends at once. -/
theorem headRecordStartsItsCycle : Obligations.HeadRecordStartsItsCycle := by
  unfold Obligations.HeadRecordStartsItsCycle
  refine ⟨offers_refused_or_taken, fun c c0 dark d0 w o o0 m s hpower hready => ?_,
    fun target dark waited o rest s hpower hidle hqueue => ⟨fun hdark hlamp hwait => ?_, fun hmay htarget hslot => ?_⟩,
    fun o rest s hpower hstate hqueue hslot => ?_, fun c dark waited o rest s hpower hidle hqueue hc => ?_,
    fun m rest s hpower hqueue hhome => ?_, fun cy s hpower hcycle honce hkept hstn => ?_,
    fun cy s hpower hcycle honce hhoming htarget hcertain hslot hstate => ?_⟩
  · refine ⟨fun hqueue => offerTaken_step hpower hready (Transport.takeStep_empty c dark o hqueue) rfl,
      fun hqueue => offerTaken_step hpower hready (Transport.takeStep_alone c dark o hqueue) rfl,
      fun hm hqueue => offerTaken_step hpower hready (Transport.takeStep_behind c dark o hm hqueue) rfl,
      fun _ hqueue => offerTaken_step hpower hready (Transport.takeStep_second c dark o hqueue) rfl,
      fun hidle hqueue hc => ?_⟩
    rw [offerMove_step hready, Transport.takeStep_empty c dark o hqueue]
    refine ⟨fun hmay => ?_, fun hdark hlamp => ?_⟩
    · exact startMoves_begins rfl (canStart_of_ready hidle (hmay.imp_right .inl)) (startMove_step hc dark false o _)
    · subst hdark
      exact startMoves_waiting rfl (canStart_of_dark_wait hidle rfl hlamp rfl)
  · exact exec_moveStart_waiting hpower hqueue (canStart_of_dark_wait hidle hdark hlamp hwait)
  · have hstart := canStart_of_ready (m := ⟨.goto target, dark, waited, o⟩) hidle hmay
    have hzero := forward_eq_zero_iff hslot htarget
    refine ⟨fun hcertain hdf => ?_, fun hcertain hdf => ?_, fun hcertain => ?_⟩
    · exact exec_moveStart_completes hpower hqueue hstart (startMove_goto_here _ _ _ hcertain (hzero.1 hdf)) rfl hpower
    · exact exec_moveStart_begins hpower hqueue hstart
        (startMove_goto_counted (s := headGone rest s) _ _ _ hcertain fun h => hdf (hzero.2 h))
    · exact exec_moveStart_begins hpower hqueue hstart (startMove_goto_homing _ _ _ hcertain)
  · have hstart : canStart ⟨.home, false, false, o⟩ s = true := by rcases hstate with h | h <;> simp [canStart, h]
    refine ⟨fun hcertain hzero hidle => ?_, fun hcertain hzero hjammed => ?_, fun hcertain hzero => ?_, fun hcertain => ?_⟩
    · have hhere := startMove_home_here (s := headGone rest s) false false o hcertain hzero (by simp [headGone, hidle])
      exact exec_moveStart_completes hpower hqueue hstart hhere rfl hpower
    · exact exec_moveStart_begins hpower hqueue hstart (startMove_home_jammed _ _ _ hcertain hzero hjammed)
    · exact exec_moveStart_begins hpower hqueue hstart (startMove_home_shorter (s := headGone rest s) _ _ _ hcertain hzero hslot)
    · exact exec_moveStart_begins hpower hqueue hstart (startMove_home_uncertain _ _ _ hcertain)
  · refine ⟨fun hmay => ?_, fun hdark hlamp hwait => ?_, fun htimer hheld => ?_⟩
    · exact exec_moveStart_begins hpower hqueue (canStart_of_ready hidle hmay) (startMove_step hc _ _ _ _)
    · exact exec_moveStart_waiting hpower hqueue (canStart_of_dark_wait hidle hdark hlamp hwait)
    · rw [exec_darkWaitTimeout_expires hpower hqueue nofun htimer hheld]
      exact congrArg _ (startMoves_begins rfl (canStart_of_ready hidle (.inr (.inr rfl))) (startMove_step hc _ _ _ _))
  · refine ⟨fun htimer hheld => ?_, fun hstill => ?_⟩
    · rw [exec_darkWaitTimeout_expires hpower hqueue hhome htimer hheld]
      exact ⟨(exec_moveStart (s := darkWaitOver m rest s) hpower).symm, fun hin => congrArg _ (startMoves_inCycle hin)⟩
    · refine (exec_darkWaitTimeout hpower).trans (congrArg _ (if_neg ?_))
      rcases hstill with h | h
      · simp [h]
      · simp [(showHeld_iff s).2 h]
  · obtain ⟨hclose, hlift, hdrop, hsettle⟩ := exec_phase_elsewhere hpower
    refine ⟨exec_closePhaseEnd_close hpower hcycle honce, fun hstate => ?_, exec_camHome_drop hpower hkept hstn,
      fun hstate hqueue => ?_, hclose, hlift, hdrop hstn, hsettle hstn⟩
    · rw [exec_camMid_lift hpower hstate, enterIndex_stays hcycle honce]
      rfl
    · rw [exec_settleEnd_settle hpower hcycle hstn hstate hqueue]
      split <;> rfl
  · have hright : correctSlot (setPhase .index s) = setPhase .index s := correctSlot_right hcertain hslot
    rw [exec_camMid_lift hpower hstate, enterIndex_eq hcycle, if_pos honce, takeHomeMark, if_pos hhoming, hright, endHomingPass, htarget]
    rfl

end Sys2Proof.Machine

-- ==== Sys2Proof/Proofs/RampsAndStages.lean ====
/-! PROOF. The arithmetic of lamp, sound and cooling: a ramp's step (R86, R135), the dissolve curve between its points (R88), the heat stage
(R106) and the ceiling (R115). -/

namespace Sys2Proof.Machine

/-! ### Ramps (R86, R135) -/

/-- A ramp that rises, in whole steps toward its start (R86). -/
theorem Ramp.value_up {r : Ramp} (h : r.start ≤ r.target) :
    r.value = r.start + (r.target - r.start) * r.count / r.length := by
  obtain ⟨d, hd⟩ := Nat.exists_eq_add_of_le h
  have hway : ((r.target : Int) - r.start) * r.count = ((d * r.count : Nat) : Int) := by rw [hd]; push_cast; ring
  rw [Ramp.value, hway, ← Int.ofNat_tdiv, hd, Nat.add_sub_cancel_left]
  generalize d * r.count / r.length = n
  omega

/-- A ramp that falls, in whole steps toward its start (R86). -/
theorem Ramp.value_down {r : Ramp} (h : r.target ≤ r.start) :
    r.value = r.start - (r.start - r.target) * r.count / r.length := by
  obtain ⟨d, hd⟩ := Nat.exists_eq_add_of_le h
  have hway : ((r.target : Int) - r.start) * r.count = -((d * r.count : Nat) : Int) := by rw [hd]; push_cast; ring
  rw [Ramp.value, hway, Int.neg_tdiv, ← Int.ofNat_tdiv, hd, Nat.add_sub_cancel_left]
  generalize d * r.count / r.length = n
  omega

/-- A part of a way is no longer than the way. -/
theorem part_le {d k n : Nat} (h : k ≤ n) : d * k / n ≤ d :=
  Nat.div_le_of_le_mul (by rw [Nat.mul_comm n]; exact Nat.mul_le_mul_left d h)

theorem Ramp.value_between {r : Ramp} (h : r.count ≤ r.length) :
    min r.start r.target ≤ r.value ∧ r.value ≤ max r.start r.target := by
  rcases Nat.le_total r.start r.target with hup | hdown
  · have hpart : (r.target - r.start) * r.count / r.length ≤ r.target - r.start := part_le h
    rw [Ramp.value_up hup]
    generalize (r.target - r.start) * r.count / r.length = n at hpart ⊢
    omega
  · have hpart : (r.start - r.target) * r.count / r.length ≤ r.start - r.target := part_le h
    rw [Ramp.value_down hdown]
    generalize (r.start - r.target) * r.count / r.length = n at hpart ⊢
    omega

theorem Ramp.value_at_end {r : Ramp} (h : r.count = r.length) (hpos : 0 < r.length) : r.value = r.target := by
  rcases Nat.le_total r.start r.target with hup | hdown
  · rw [Ramp.value_up hup, h, Nat.mul_div_cancel _ hpos]
    omega
  · rw [Ramp.value_down hdown, h, Nat.mul_div_cancel _ hpos]
    omega

theorem Ramp.isStep_iff (r : Ramp) : r.isStep = true ↔ r.length = 0 ∨ r.target = r.start := by simp [Ramp.isStep]

/-- A step ramp ends at its first tick (R86). -/
theorem Ramp.step_of_isStep {r : Ramp} (h : r.isStep = true) : r.step = ({ r with running := false }, r.target) := if_pos h

/-- The ramp one tick further on its way (R86). -/
def Ramp.further (r : Ramp) : Ramp := { r with count := r.count + 1, running := r.count + 1 != r.length }

theorem Ramp.step_of_not_isStep {r : Ramp} (h : r.isStep = false) : r.step = (r.further, r.further.value) :=
  if_neg (ne_true_of_eq_false h)

theorem Ramp.step_between {r : Ramp} (h : r.isStep = true ∨ r.count < r.length) :
    min r.start r.target ≤ r.step.2 ∧ r.step.2 ≤ max r.start r.target := by
  cases hstep : r.isStep with
  | true =>
    rw [Ramp.step_of_isStep hstep]
    exact ⟨Nat.min_le_right _ _, Nat.le_max_right _ _⟩
  | false =>
    have hlt : r.count < r.length := h.resolve_left (ne_true_of_eq_false hstep)
    rw [Ramp.step_of_not_isStep hstep]
    exact Ramp.value_between (r := r.further) hlt

/-- The last tick of a ramp leaves it at its target, with all but its count kept (R86, R136). -/
theorem Ramp.step_last {r : Ramp} (h : r.length = 0 ∨ r.target = r.start ∨ r.count + 1 = r.length) :
    r.step.2 = r.target ∧ r.step.1.running = false ∧ r.step.1.target = r.target := by
  cases hstep : r.isStep with
  | true =>
    rw [Ramp.step_of_isStep hstep]
    exact ⟨rfl, rfl, rfl⟩
  | false =>
    have hno : ¬(r.length = 0 ∨ r.target = r.start) := mt r.isStep_iff.mpr (ne_true_of_eq_false hstep)
    have hlast : r.count + 1 = r.length := by tauto
    rw [Ramp.step_of_not_isStep hstep]
    exact ⟨Ramp.value_at_end (r := r.further) hlast (by simp only [Ramp.further]; omega), by simp [Ramp.further, hlast], rfl⟩

/-! ### The dissolve curve (R88) -/

/-- A weighted mean of two numbers, rounded, lies between them. -/
theorem rounded_mean_between {a b f : Nat} (h : f ≤ 256) :
    min a b ≤ (a * (256 - f) + b * f + 128) / 256 ∧ (a * (256 - f) + b * f + 128) / 256 ≤ max a b := by
  have hweights : ∀ m, m * (256 - f) + m * f = m * 256 := fun m => by rw [← Nat.mul_add]; congr 1; omega
  have hlow : min a b * 256 ≤ a * (256 - f) + b * f := hweights (min a b) ▸
    Nat.add_le_add (Nat.mul_le_mul_right _ (Nat.min_le_left a b)) (Nat.mul_le_mul_right _ (Nat.min_le_right a b))
  have hhigh : a * (256 - f) + b * f ≤ max a b * 256 := hweights (max a b) ▸
    Nat.add_le_add (Nat.mul_le_mul_right _ (Nat.le_max_left a b)) (Nat.mul_le_mul_right _ (Nat.le_max_right a b))
  omega

theorem curveValue_within (c : Vector Nat 17) {p : Nat} (h : p < 4096) :
    curveValue c p = (curvePoint c (p / 256) * (256 - p % 256) + curvePoint c (p / 256 + 1) * (p % 256) + 128) / 256 :=
  if_neg (Nat.not_le.mpr h)

/-- The curve's value as the straight line from the lower point, rounded (R88). -/
theorem curveValue_line (c : Vector Nat 17) {p : Nat} (h : p < 4096) :
    (curveValue c p : Int) = ((curvePoint c (p / 256) : Int) * 256 +
      ((curvePoint c (p / 256 + 1) : Int) - (curvePoint c (p / 256) : Int)) * ((p % 256 : Nat) : Int) + 128) / 256 := by
  have hf : p % 256 ≤ 256 := Nat.le_of_lt (Nat.mod_lt p (by omega))
  rw [curveValue_within c h, Int.natCast_ediv, Nat.cast_add, Nat.cast_add, Nat.cast_mul, Nat.cast_mul, Nat.cast_sub hf]
  congr 1
  push_cast
  ring

theorem curveValue_full (v : Vector Nat 17) : curveValue v 4096 = v[16] := by
  have hsize : 16 < v.toList.length := by simp
  have hpoint : curveValue v 4096 = curvePoint v 16 := if_pos (Nat.le_refl 4096)
  rw [hpoint, curvePoint, List.getD_eq_getElem _ _ hsize, Vector.getElem_toList]

/-! ### The heat stage and the ceiling (R106, R115) -/

theorem nextHeatStage_le (x : Items) (heat old : Nat) : nextHeatStage x heat old ≤ 3 := by
  unfold nextHeatStage
  (repeat' split) <;> omega

/-- The heat stage is the highest that qualifies, and 0 if none does (R106). -/
theorem nextHeatStage_spec (x : Items) (heat old : Nat) :
    (0 < nextHeatStage x heat old → stageQualifies x heat old (nextHeatStage x heat old) = true) ∧
    ∀ n, n ≤ 3 → 1 ≤ n → stageQualifies x heat old n = true → n ≤ nextHeatStage x heat old := by
  refine ⟨?_, fun n hn h1 hq => ?_⟩
  · unfold nextHeatStage
    (repeat' split) <;> intro hpos
    case isTrue h | isFalse.isTrue h | isFalse.isFalse.isTrue h => exact h
    case isFalse.isFalse.isFalse => exact absurd hpos (Nat.lt_irrefl 0)
  · have hstages : n = 1 ∨ n = 2 ∨ n = 3 := by omega
    rcases hstages with rfl | rfl | rfl <;> simp only [nextHeatStage, hq, if_true] <;> (repeat' split) <;> omega

theorem ceilingOf_cool {x : Items} {heat : Nat} (h : heat ≤ x.heatWarn) : ceilingOf x heat = 1023 := if_pos h

theorem ceilingOf_warm {x : Items} {heat : Nat} (h : x.heatWarn < heat) :
    ceilingOf x heat = max x.preheat (1023 - (heat - x.heatWarn) * (1023 - x.preheat) / (x.heatMax - x.heatWarn)) :=
  if_neg (Nat.not_le.mpr h)

theorem ceilingOf_le {x : Items} (hfloor : x.preheat ≤ 1023) (heat : Nat) : ceilingOf x heat ≤ 1023 := by
  rcases Nat.lt_or_ge x.heatWarn heat with h | h
  · rw [ceilingOf_warm h]
    exact Nat.max_le.mpr ⟨hfloor, Nat.sub_le _ _⟩
  · exact (ceilingOf_cool h).le

theorem le_ceilingOf {x : Items} (hfloor : x.preheat ≤ 1023) (heat : Nat) : x.preheat ≤ ceilingOf x heat := by
  rcases Nat.lt_or_ge x.heatWarn heat with h | h
  · rw [ceilingOf_warm h]
    exact Nat.le_max_left _ _
  · exact hfloor.trans (ceilingOf_cool h).ge

/-- The ceiling on the line of R115: where the line falls below 0 it is held at W, as in the numbers without a sign. -/
theorem ceilingOf_line {x : Items} {heat : Nat} (hfloor : x.preheat ≤ 1023) (hheat : x.heatWarn < heat) (hrange : x.heatWarn < x.heatMax) :
    (ceilingOf x heat : Int) = max (x.preheat : Int)
      (1023 - ((heat : Int) - x.heatWarn) * (1023 - (x.preheat : Int)) / ((x.heatMax : Int) - x.heatWarn)) := by
  have hfall : ((heat : Int) - x.heatWarn) * (1023 - (x.preheat : Int)) / ((x.heatMax : Int) - x.heatWarn) =
      (((heat - x.heatWarn) * (1023 - x.preheat) / (x.heatMax - x.heatWarn) : Nat) : Int) := by
    rw [Int.natCast_ediv, Nat.cast_mul, Nat.cast_sub hheat.le, Nat.cast_sub hfloor, Nat.cast_sub hrange.le]
    rfl
  rw [hfall, ceilingOf_warm hheat]
  omega

/-- From H_max on the ceiling is W (R115). -/
theorem ceilingOf_hot {x : Items} {heat : Nat} (hfloor : x.preheat ≤ 1023) (hrange : x.heatWarn < x.heatMax) (hheat : x.heatMax ≤ heat) :
    ceilingOf x heat = x.preheat := by
  have hfall : 1023 - x.preheat ≤ (heat - x.heatWarn) * (1023 - x.preheat) / (x.heatMax - x.heatWarn) :=
    (Nat.le_div_iff_mul_le (by omega)).mpr (by rw [Nat.mul_comm]; exact Nat.mul_le_mul_right _ (by omega))
  rw [ceilingOf_warm (by omega)]
  omega

/-- Settles O60: each function's own facts. -/
theorem stagesStayBetween : Obligations.StagesStayBetween := by
  unfold Obligations.StagesStayBetween
  refine ⟨fun r h => ⟨Ramp.step_between (.inr h), fun hlast => ?_⟩, fun c p h => ?_, curveValue_full, fun x heat old => ?_⟩
  · obtain ⟨hvalue, hrunning, -⟩ := Ramp.step_last (.inr (.inr hlast))
    exact ⟨hvalue, hrunning⟩
  · obtain ⟨hlow, hhigh⟩ := rounded_mean_between (a := curvePoint c (p / 256)) (b := curvePoint c (p / 256 + 1))
      (Nat.le_of_lt (Nat.mod_lt p (by omega : 0 < 256)))
    rw [← curveValue_within c h] at hlow hhigh
    exact ⟨hlow, hhigh, curveValue_line c h⟩
  · exact ⟨⟨nextHeatStage_le x heat old, nextHeatStage_spec x heat old⟩,
      fun hfloor => ⟨le_ceilingOf hfloor heat, ceilingOf_le hfloor heat⟩, ceilingOf_cool, ceilingOf_line,
      ceilingOf_hot⟩

end Sys2Proof.Machine

-- ==== Sys2Proof/Proofs/KeptByLampHouse.lean ====
/-! PROOF. Laws that speak of lamp and fan alone, and of the list and the station as far as these reach the two: what such a law has to be
kept by for every step to keep it. What the Lamp Engine and the Cooling Controller do to themselves is left to the law (`KeptByLampHouse`);
how it comes about, in cues, direct steps, ticks, trips, station states, frames and keys, is the same for all of them. -/

namespace Sys2Proof.Machine

open Sys2Proof (Byte Key KeySamples Frame Instr Readings)

/-! ### Beside lamp and fan -/

/-- The two states differ in nothing that a law of lamp and fan speaks of: not in the lamp but for its energy sum, its ticks and its
curve; not in the fan but for its marks and timer; the station may have left COOLING_DOWN, not entered it; W fits its byte still. -/
def SameLampHouse (s t : State) : Prop :=
  (∃ energy ticks curve, t.lamp = { s.lamp with energy := energy, ticks := ticks, curve := curve }) ∧
  (∃ changed spin armed cool, t.cool = { s.cool with
    stageChanged := changed, spinUp := spin, derateArmed := armed, cool := cool }) ∧
  (t.stn.state = .coolingDown → s.stn.state = .coolingDown) ∧ (s.stn.items.preheat ≤ 255 → t.stn.items.preheat ≤ 255)

section
variable {s t : State}

theorem SameLampHouse.of_stn (hlamp : t.lamp = s.lamp) (hcool : t.cool = s.cool)
    (hstate : t.stn.state = .coolingDown → s.stn.state = .coolingDown)
    (hitems : s.stn.items.preheat ≤ 255 → t.stn.items.preheat ≤ 255) : SameLampHouse s t :=
  ⟨⟨_, _, _, hlamp⟩, ⟨_, _, _, _, hcool⟩, hstate, hitems⟩

theorem SameLampHouse.of_eq (hlamp : t.lamp = s.lamp) (hcool : t.cool = s.cool) (hstn : t.stn = s.stn) : SameLampHouse s t :=
  .of_stn hlamp hcool (by rw [hstn]; exact id) (by rw [hstn]; exact id)

theorem SameLampHouse.refl (s : State) : SameLampHouse s s := .of_eq rfl rfl rfl

theorem SameLampHouse.ite {c : Prop} [Decidable c] {u : State} (ht : SameLampHouse s t) (hu : SameLampHouse s u) :
    SameLampHouse s (if c then t else u) := by
  split
  · exact ht
  · exact hu

theorem SameLampHouse.whenRunning {f : State → State} (h : SameLampHouse s (f s)) : SameLampHouse s (whenRunning f s) :=
  .ite h (.refl s)

end

/-- A HOLD changes the show state alone of the Station Controller (R166). -/
theorem holdEvent_stn (s : State) : (holdEvent s).stn.state = s.stn.state ∧ (holdEvent s).stn.items = s.stn.items := by
  unfold holdEvent
  split <;> simp

theorem enterActive_stn (s : State) : (enterActive s).stn.state = .active ∧ (enterActive s).stn.items = s.stn.items := by
  simp [enterActive]

theorem noticeConfig_stn (s : State) : (noticeConfig s).stn.state = s.stn.state ∧ (noticeConfig s).stn.items = s.stn.items := by
  unfold noticeConfig
  split <;> exact ⟨rfl, rfl⟩

theorem endWrite_stn (s : State) : (endWrite s).stn.state = s.stn.state ∧ (endWrite s).stn.items = s.stn.items := by
  unfold endWrite
  split <;> exact ⟨rfl, rfl⟩

/-- An item that is set leaves W in its range (R170). -/
theorem Items.put_preheat {x y : Items} {code v : Nat} (h : x.put code v = some y) (hx : x.preheat ≤ 255) : y.preheat ≤ 255 := by
  unfold Items.put at h
  (repeat' split at h) <;> cases h <;> assumption

theorem configSetItem_stn (code v : Nat) (s : State) :
    (configSetItem code v s).1.stn.state = s.stn.state ∧
    (s.stn.items.preheat ≤ 255 → (configSetItem code v s).1.stn.items.preheat ≤ 255) := by
  unfold configSetItem
  split
  · exact ⟨rfl, id⟩
  · next x hput =>
    split
    · exact ⟨rfl, id⟩
    · split
      · exact ⟨rfl, id⟩
      · exact ⟨rfl, Items.put_preheat hput⟩

theorem judgeLoad_sameLampHouse (payload : List Byte) (s : State) : SameLampHouse s (judgeLoad payload s).1 := by
  have hwrite : ∀ e, SameLampHouse s (writeLoad e s) := fun e => by
    cases e with
    | index | pool => exact .refl s
    | curve => exact ⟨⟨_, _, _, rfl⟩, ⟨_, _, _, _, rfl⟩, id, id⟩
  unfold judgeLoad
  repeat' split
  case h_2.isFalse.isFalse => exact hwrite _
  all_goals exact .refl s

/-! ### What a law of lamp and fan has to be kept by -/

/-- What the Lamp Engine and the Cooling Controller do to themselves has to keep the law, and so has a reset; and the law has to speak of
nothing else. A record that is due carries a level that the law itself has to account for (`due`), as the list's law may or may not be a
part of it (R44). -/
structure KeptByLampHouse (P : State → Prop) : Prop where
  elsewhere : ∀ {s t}, SameLampHouse s t → ScheduleKept s t → Kept P s t
  request : ∀ level, level ≤ 255 → ∀ tenths o s, Kept P s (requestLamp level tenths o s)
  due : ∀ {s r rest}, P s → s.disp.schedule = r :: rest → ∀ tenths o t, Kept P t (requestLamp r.a tenths o t)
  dark : ∀ s, Kept P s (requestDark s)
  out : ∀ st, st = .off ∨ st = .failed → ∀ s, Kept P s (setLamp (s.lamp.extinguish st) s)
  tick : ∀ current s, Kept P s (setLamp (tickedLamp current s) s)
  failing : ∀ current s, Kept P s (setLamp ((tickedLamp current s).extinguish .failed) s)
  trips : ∀ thermal stall cutout s, Kept P s
    (tripsChanged { s with cool := { s.cool with thermal := thermal, fanStall := stall, cutout := cutout } })
  heat : ∀ n, n ≤ Config.top16 → ∀ s, Kept P s { s with cool := { s.cool with heat := n } }
  stages : ∀ s, Kept P s (updateStages s)
  ceiling : ∀ s, Kept P s (updateCeiling s)
  gate : ∀ s n m, (s.cool.gateCount ≤ 255 → n ≤ 255) → (s.cool.gateCount ≤ 255 ∧ s.cool.lastTach ≤ 255 → m ≤ 255) →
    Kept P s { s with cool := { s.cool with gateCount := n, lastTach := m } }
  fan : ∀ s, Kept P s (chooseFan s)
  cooling : ∀ s, Kept P s (enterCoolingDown s)
  reset : ∀ kind x r a s, (kind = .powerOn → x.items = .default) → (kind ≠ .powerOn → x.items = s.stn.items) →
    Kept P s (fanAtReset kind s.cool.cutout { resetBlocks kind x r s with attn := a })

namespace KeptByLampHouse

variable {P : State → Prop} (h : KeptByLampHouse P)
include h

theorem same {s t : State} (hlamp : t.lamp = s.lamp) (hcool : t.cool = s.cool) (hstn : t.stn = s.stn) (hdisp : t.disp = s.disp) :
    Kept P s t := h.elsewhere (.of_eq hlamp hcool hstn) (.of_disp hdisp)

/-! ### Steps and cues -/

theorem lampOff (s : State) : Kept P s (requestLampOff s) := by
  unfold requestLampOff
  split
  case h_1 | h_2 => exact .refl s
  all_goals exact h.out .off (.inl rfl) s

/-- A routed step keeps the law if a LAMP request of its level does. -/
theorem routeStep {st : Step} {o : Origin} {s : State} (hlamp : Kept P s (requestLamp st.a st.b o s)) :
    Kept P s (routeStep st o s) := by
  have hmove : ∀ k dark, Kept P s (offerMove k dark o s) := fun k dark => h.same (by simp) (by simp) (by simp) (by simp)
  unfold Machine.routeStep
  split
  case h_7 => exact hlamp
  case h_8 => exact h.lampOff s
  case h_1 | h_11 => exact .refl s
  case h_2 | h_3 => exact .ite (.refl s) (hmove _ _)
  case h_4 | h_5 => exact hmove _ _
  case h_6 => exact .ite (h.same rfl rfl rfl rfl) (.ite (h.same rfl rfl rfl rfl) (.refl s))
  case h_9 => exact h.same rfl rfl rfl rfl
  case h_10 =>
    split
    · exact h.same (by simp) (by simp) (by simp) (by simp)
    · exact .refl s

theorem routeStep_byte {st : Step} (hst : st.a ≤ 255) (o : Origin) (s : State) : Kept P s (Machine.routeStep st o s) :=
  h.routeStep (h.request st.a hst st.b o s)

theorem recordCue (cue : Nat) (src : CueSource) (s : State) : Kept P s (recordCue cue src s) :=
  h.elsewhere (.refl s) (recordCue_kept cue src s)

theorem expandStep (cue : Nat) (s : State) (p : PoolStep) : Kept P s (expandStep cue s p) := by
  have hsched := expandStep_kept cue s p
  unfold Machine.expandStep at hsched ⊢
  split at hsched
  · exact .refl s
  · next st hst =>
    obtain ⟨-, -, hlevel, -⟩ := Step.sound_of_ofBytes hst
    have hentry := schedule_kept (entryRecord_sound hst p.delay cue) s
    exact .ite (h.routeStep_byte hlevel .ofShow s) (h.elsewhere (.of_eq (by simp) (by simp) (by simp)) hentry)

theorem loadedCue (cue : Nat) (src : CueSource) (s : State) : Kept P s (loadedCue cue src s) :=
  .ite (h.same rfl rfl rfl rfl) ((h.recordCue cue src s).trans (.foldl (h.expandStep cue) _ _))

theorem stepCue (cue : Nat) {v : Verb} (hv : v = .advance ∨ v = .reverse) (src : CueSource) (s : State) :
    Kept P s (stepCue cue v src s) := by
  have hsound : Record.sound ⟨0, v, 1, 0, cue⟩ := by
    rcases hv with rfl | rfl <;> exact ⟨rfl, rfl, by simp, by simp, by simp⟩
  have hlist : ∀ t, Kept P t (schedule ⟨0, v, 1, 0, cue⟩ t) := fun t =>
    h.elsewhere (.of_eq (by simp) (by simp) (by simp)) (schedule_kept hsound t)
  exact (h.recordCue cue src s).trans (.ite (h.routeStep_byte (st := ⟨v, 1, 0⟩) (by decide : 1 ≤ 255) .ofShow _) (hlist _))

theorem endOfShow (s : State) : Kept P s (endOfShow s) := by
  have hempty : Kept P s (emptySchedule s) := h.elsewhere (.refl s) (.of_empty rfl)
  exact hempty.trans ((h.routeStep_byte (st := ⟨.tape, 1, 0⟩) (by decide : 1 ≤ 255) .ofShow _).trans
    (h.routeStep_byte (st := ⟨.lamp, 0, 20⟩) (by decide : 0 ≤ 255) .ofShow _))

theorem holdEvent (s : State) : Kept P s (holdEvent s) := by
  obtain ⟨hstate, hitems⟩ := holdEvent_stn s
  exact h.elsewhere (.of_stn (by simp) (by simp) (by rw [hstate]; exact id) (by rw [hitems]; exact id)) (.of_disp (by simp))

/-- A cue arrival keeps the law if what a RESUME does keeps it (R36 to R40). -/
theorem cueArrivalWith {resume : State → State} (hresume : ∀ s, Kept P s (resume s)) (cue : Nat) (src : CueSource) (s : State) :
    Kept P s (cueArrivalWith resume cue src s) := by
  have hrecord := h.recordCue cue src s
  have hcount : ∀ k, Kept P s (count k s) := fun k => h.same rfl rfl rfl rfl
  have hcommit : Kept P s (commitCue src s) := h.elsewhere (.of_eq (by simp) (by simp) (by simp)) (commitCue_kept src s)
  exact .ite (hcount _) <| .ite (hcount _) <| .ite (h.loadedCue cue src s) <| .ite (hrecord.trans (h.holdEvent _)) <|
    .ite (hrecord.trans (hresume _)) <| .ite hcommit <| .ite (hrecord.trans (h.endOfShow _)) <|
    .ite (hrecord.trans (h.routeStep_byte (st := ⟨.home, 0, 0⟩) (by decide : 0 ≤ 255) .ofShow _)) <|
    .ite (h.stepCue cue (.inl rfl) src s) <| .ite (h.stepCue cue (.inr rfl) src s) (hcount _)

/-- The records that are due keep the law, each with its level as the law has it (R46, R47). -/
theorem routeDueUpTo (n : Nat) (s : State) : Kept P s (routeDueUpTo n s) := by
  induction n generalizing s with
  | zero => exact .refl s
  | succ n ih =>
    unfold Machine.routeDueUpTo
    split
    · exact .refl s
    · next r rest hrest =>
      have htail : Kept P s { s with disp := { s.disp with schedule := rest } } :=
        h.elsewhere (.refl s) (.of_sublist (by rw [hrest]; exact List.sublist_cons_self r rest))
      refine .ite (fun hs => ?_) (.refl s)
      have hrecord : ∀ t, Kept P t (routeRecord r t) := fun t =>
        .ite (h.cueArrivalWith .refl r.a .follow t) (h.routeStep (h.due hs hrest r.b .ofShow t))
      exact (htail.trans ((hrecord _).trans (ih _))) hs

theorem resumeEvent (s : State) : Kept P s (resumeEvent s) := by
  have hshow : Kept P s (resumeShow s) :=
    h.elsewhere (.of_stn (by simp) (by simp) (by simp [resumeShow]) (by simp [resumeShow])) (.of_disp (by simp))
  exact .ite (hshow.trans (h.routeDueUpTo _ _)) (.refl s)

theorem cueArrival (cue : Nat) (src : CueSource) (s : State) : Kept P s (cueArrival cue src s) :=
  h.cueArrivalWith h.resumeEvent cue src s

theorem showTick (s : State) : Kept P s (showTick s) := by
  have htick : Kept P s (tickRecords s) := h.elsewhere (.of_eq rfl rfl rfl) (tickRecords_kept s)
  exact .ite (htick.trans (h.routeDueUpTo _ _)) (.refl s)

theorem directStep (verb a b : Byte) (s : State) : Kept P s (directStep verb a b s) := by
  unfold Machine.directStep
  split
  · exact .refl s
  · next st hst =>
    obtain ⟨-, -, hlevel, -⟩ := Step.sound_of_ofBytes hst
    exact .ite (h.cueArrival _ .follow s) (h.routeStep_byte hlevel .direct s)

/-! ### Ticks and trips -/

theorem testThermal (s : State) : Kept P s (testThermal s) :=
  .ite (.ite (h.trips false s.cool.fanStall s.cool.cutout s) (.refl s))
    (.ite ((h.trips true s.cool.fanStall s.cool.cutout s).trans (h.same rfl rfl rfl rfl)) (.refl s))

/-- The five steps of a cooling tick (R104). -/
theorem coolingTick (energy : Nat) (s : State) : Kept P s (coolingTick energy s) := by
  have hcool : ∀ t, Kept P t (updateCool t) := fun t =>
    h.elsewhere ⟨⟨_, _, _, rfl⟩, ⟨_, _, _, _, rfl⟩, id, id⟩ (.of_disp rfl)
  exact (h.heat _ (Nat.min_le_left _ _) s).trans
    ((h.testThermal _).trans ((h.stages _).trans ((h.ceiling _).trans (hcool _))))

theorem handOver (s : State) : Kept P s (handOver s) := by
  have hsum : Kept P s { s with lamp := { s.lamp with energy := 0, ticks := 0 } } :=
    h.elsewhere ⟨⟨_, _, _, rfl⟩, ⟨_, _, _, _, rfl⟩, id, id⟩ (.of_disp rfl)
  exact .ite (hsum.trans (h.coolingTick _ _)) (.refl s)

theorem lampTickIn (first current : Bool) (s : State) : Kept P s (lampTickIn first current s) := by
  have hraise : ∀ d t, Kept P t (raise .lampFailed d t) := fun d t => h.same rfl rfl rfl rfl
  have honly : Kept P s (lampTickOnly current s) := .ite ((h.failing current s).trans (hraise _ _)) (h.tick current s)
  have hhand : Kept P s (Machine.handOver (setLamp (tickedLamp current s) s)) := (h.tick current s).trans (h.handOver _)
  have hfail : ∀ d t, Kept P t (failLamp d t.lamp t) := fun d t => (h.out .failed (.inr rfl) t).trans (hraise d _)
  exact .ite (.ite (hhand.trans (hfail _ _)) hhand) (honly.trans (h.handOver _))

theorem lampTick (current : Bool) (s : State) : Kept P s (lampTick current s) := by
  have hopen : Kept P s { s with openValues := s.openValues + 1 } := h.same rfl rfl rfl rfl
  exact .ite (hopen.trans (h.lampTickIn _ current _)) (h.lampTickIn false current s)

theorem tachPulse (s : State) : Kept P s (tachPulse s) :=
  h.gate s _ s.cool.lastTach (fun _ => Nat.min_le_left _ _) And.right

theorem endTachGate (s : State) : Kept P s (endTachGate s) := by
  have hread : Kept P s { s with cool := { s.cool with lastTach := s.cool.gateCount } } :=
    h.gate s s.cool.gateCount s.cool.gateCount id And.left
  have hstall : ∀ n t, Kept P t (stallTest n t) := fun n t =>
    .ite (.ite (.refl t) (h.trips t.cool.thermal false t.cool.cutout t))
      (.ite ((h.trips t.cool.thermal true t.cool.cutout t).trans (h.same rfl rfl rfl rfl)) (.refl t))
  have hnext : ∀ t : State, Kept P t { t with cool := { t.cool with gateCount := 0, stageChanged := false } } := fun t =>
    (h.gate t 0 t.cool.lastTach (fun _ => Nat.zero_le _) And.right).trans
      (h.elsewhere ⟨⟨_, _, _, rfl⟩, ⟨_, _, _, _, rfl⟩, id, id⟩ (.of_disp rfl))
  have htested : Kept P s (if gateTested s.cool = true then
      stallTest s.cool.gateCount { s with cool := { s.cool with lastTach := s.cool.gateCount } }
      else { s with cool := { s.cool with lastTach := s.cool.gateCount } }) := .ite (hread.trans (hstall _ _)) hread
  exact htested.trans (hnext _)

theorem takeCutout (opened : Bool) (s : State) : Kept P s (takeCutout opened s) := by
  have htrips := h.trips s.cool.thermal s.cool.fanStall opened s
  exact .ite (.refl s) (.ite (htrips.trans (h.same rfl rfl rfl rfl)) htrips)

/-! ### Station states and resets -/

/-- The station in a state other than COOLING_DOWN, its other values but the items as they come. -/
theorem enterState {s t : State} (hlamp : t.lamp = s.lamp) (hcool : t.cool = s.cool) (hstate : t.stn.state ≠ .coolingDown)
    (hitems : t.stn.items = s.stn.items) (hsched : ScheduleKept s t) : Kept P s t :=
  h.elsewhere (.of_stn hlamp hcool (fun hc => absurd hc hstate) (by rw [hitems]; exact id)) hsched

theorem enterActive (s : State) : Kept P s (enterActive s) := by
  obtain ⟨hstate, hitems⟩ := enterActive_stn s
  exact h.enterState (by simp) (by simp) (by rw [hstate]; exact nofun) hitems (.of_disp (by simp))

theorem standbyTest (s : State) : Kept P s (standbyTest s) := by
  have hstate : Kept P s { s with stn := { s.stn with state := .standby } } := h.enterState rfl rfl nofun rfl (.of_disp rfl)
  exact .ite (hstate.trans (h.fan _)) (.refl s)

theorem tested {s t : State} (ht : Kept P s t) : Kept P s (Machine.standbyTest t) := ht.trans (h.standbyTest t)

theorem takeWake (s : State) : Kept P s (takeWake s) := .ite ((h.enterActive s).trans (h.fan _)) (.refl s)

theorem lockConfiguration (s : State) : Kept P s (lockConfiguration s) :=
  h.elsewhere (.of_stn rfl rfl id id) (lockConfiguration_kept s)

theorem closeConfiguration (s : State) : Kept P s (closeConfiguration s) := (h.lockConfiguration s).trans (h.enterActive _)

theorem takeStandby (s : State) : Kept P s (takeStandby s) := by
  have hclosed : Kept P s (if s.stn.state = .configuring then Machine.lockConfiguration s else s) :=
    .ite (h.lockConfiguration s) (.refl s)
  exact h.tested (hclosed.trans (h.cooling _))

theorem mainsWarnOn (s : State) : Kept P s (mainsWarnOn s) := by
  have hwarn : Kept P s { s with stn := { s.stn with mainsWarn := true } } := h.elsewhere (.of_stn rfl rfl id id) (.of_disp rfl)
  have hbefore : ∀ t, Kept P t (stopSilence { t with stn := { t.stn with state := .mainsLoss, showState := .none, window := .off } }) :=
    fun t => h.enterState rfl rfl nofun rfl (.of_disp rfl)
  have htell : ∀ t, Kept P t (tellLampAndTray (fun l => l.extinguish .off) Transport.mainsLoss t) := fun t => by
    have hopen : Kept P t { t with openValues := t.openValues + 1 } := h.same rfl rfl rfl rfl
    have htray : ∀ u : State, Kept P u { u with tray := u.tray.mainsLoss } := fun u => h.same rfl rfl rfl rfl
    have hout := h.out .off (.inl rfl)
    exact .ite (hopen.trans ((hout _).trans (htray _))) (hopen.trans ((htray _).trans (hout _)))
  have hfan : ∀ (c : Prop) [Decidable c] t, Kept P t (if c then chooseFan t else t) := fun c _ t => .ite (h.fan t) (.refl t)
  have hafter : ∀ t : State, Kept P t (beginWrite { emptySchedule (deckMainsLoss t) with remote := t.remote.mainsLoss }) := fun t =>
    h.elsewhere (.of_stn (by simp [beginWrite]) (by simp [beginWrite]) (by simp [beginWrite]) (by simp [beginWrite])) (.of_empty rfl)
  have henter : ∀ t, Kept P t (enterMainsLoss t) := fun t =>
    (hbefore t).trans ((htell _).trans ((hfan _ _).trans (hafter _)))
  exact .ite hwarn (hwarn.trans (henter _))

/-- A reset keeps the law, whatever it reads (R173, R174). -/
theorem resetWith {kind : ResetKind} {x : Station} (r : Readings) {s : State} (hpowerOn : kind = .powerOn → x.items = .default)
    (hother : kind ≠ .powerOn → x.items = s.stn.items) : Kept P s (resetWith kind x r s) := by
  obtain ⟨a, htrips, -⟩ := raiseActiveTrips_frame
    (raise .restarted (restartedDetail kind (resetBlocks kind x r s).stn.valid) (resetBlocks kind x r s))
  have hwarn : ∀ t, Kept P t (readMainsWarn r.mainsWarn t) := fun t => .ite (h.mainsWarnOn t) (.refl t)
  have hfan := h.reset kind x r a s hpowerOn hother
  unfold Machine.resetWith
  dsimp only
  rw [htrips]
  exact hfan.trans (hwarn _)

/-! ### Commands and frames -/

theorem notice (s : State) : Kept P s (noticeConfig s) := by
  obtain ⟨hstate, hitems⟩ := noticeConfig_stn s
  exact h.elsewhere (.of_stn (by simp) (by simp) (by rw [hstate]; exact id) (by rw [hitems]; exact id)) (.of_disp (by simp))

theorem configSet (code v : Nat) (s : State) : Kept P s (configSetItem code v s).1 := by
  obtain ⟨hstate, hitems⟩ := configSetItem_stn code v s
  exact h.elsewhere (.of_stn (by simp) (by simp) (by rw [hstate]; exact id) hitems) (.of_disp (by simp))

theorem keptByCommands : KeptByCommands P where
  step := h.directStep
  hold := h.holdEvent
  resume := h.resumeEvent
  commit := fun s => h.elsewhere (.refl s) (.of_schedule rfl)
  set := h.configSet
  close := h.closeConfiguration
  standby := h.takeStandby
  wake := h.takeWake
  attention := fun _ _ => h.same rfl rfl rfl rfl
  notice := h.notice

theorem keptAtCheck : KeptAtCheck P where
  blocks := fun {_ _} ⟨⟨_, hlamp, _, _, hcool, hstn⟩, hlist⟩ => h.elsewhere (.of_eq hlamp hcool hstn) (.of_schedule hlist)
  cue := fun cue s => h.cueArrival cue .loop s
  command := h.keptByCommands.judgeCommand
  load := fun payload s => h.elsewhere (judgeLoad_sameLampHouse payload s) (judgeLoad_kept payload s)
  notice := h.notice

/-! ### The tape's cues and the pendant (R150, R157) -/

/-- A change of the decoder alone, and then a cue handed on. -/
theorem handOn (cue : Nat) (d : Decoder) (s : State) : Kept P s (handOn cue { s with dec := d }) := by
  have hdec : Kept P s { s with dec := d } := h.same rfl rfl rfl rfl
  have hoffer : ∀ x t, Kept P t (offerFrame x t) := fun x t => h.same (by simp) (by simp) (by simp) (by simp)
  exact hdec.trans ((h.cueArrival cue .tape _).trans (.ite (hoffer _ _) (.refl _)))

theorem readSample (q : Nat) (v : Bool) (s : State) : Kept P s (readSample q v s) := by
  have hmeet : ∀ w t, Kept P t (meetCandidate w t) := fun w t => by
    unfold meetCandidate
    split
    · exact h.same rfl rfl rfl rfl
    · exact .ite (h.handOn _ _ t) (h.same rfl rfl rfl rfl)
  have hset : ∀ st t, Kept P t (setDecoder st t) := fun st t => h.same rfl rfl rfl rfl
  have hgood : ∀ w t, Kept P t (goodWord w t) := fun w t => .ite (hset _ t) ((hset .hunting t).trans (hmeet w _))
  exact .ite (.ite (h.same rfl rfl rfl rfl) (h.same rfl rfl rfl rfl)) <|
    .ite (.ite ((hset _ s).trans (hgood _ _)) (h.same rfl rfl rfl rfl)) (.ite (h.same rfl rfl rfl rfl) (h.same rfl rfl rfl rfl))

theorem readWordUpTo (data : Byte) (parity stop : Bool) (n : Nat) (s : State) : Kept P s (readWordUpTo data parity stop n s) := by
  induction n generalizing s with
  | zero => exact .refl s
  | succ n ih =>
    unfold Machine.readWordUpTo
    split
    · exact (h.readSample _ _ s).trans (ih _)
    · exact .refl s

theorem pulseSample (mark : Bool) (s : State) : Kept P s (pulseSample mark s) := by
  have hend : Kept P s (endBurst s) := .ite (h.handOn 248 _ s) (h.same rfl rfl rfl rfl)
  have hlengthen : Kept P s (lengthenBurst s) := .ite (h.handOn 249 _ s) (h.same rfl rfl rfl rfl)
  have hcount : Kept P s (countNonMark s) := h.same rfl rfl rfl rfl
  unfold Machine.pulseSample
  split
  case h_1 => exact .ite (h.same rfl rfl rfl rfl) (.refl s)
  case h_2 => exact .ite hlengthen (.ite hcount hend)
  case h_3 => exact .ite (h.same rfl rfl rfl rfl) (.ite hcount (h.same rfl rfl rfl rfl))
  all_goals exact .refl s

theorem takeSample (age : Nat) (s : State) : Kept P s (takeSample age s) := by
  have hword : ∀ v, Kept P s (wordSample v s) := fun v => by
    unfold wordSample
    split
    case h_1 => exact .ite (.refl s) (h.same rfl rfl rfl rfl)
    case h_2 => exact .ite (h.same rfl rfl rfl rfl) (.ite (h.same rfl rfl rfl rfl) (h.same rfl rfl rfl rfl))
    case h_3 => exact h.readSample _ v s
    all_goals exact .refl s
  unfold Machine.takeSample
  split
  case h_1 => exact .refl s
  case h_2 | h_3 | h_4 => exact hword _
  all_goals exact h.pulseSample _ s

theorem recognizePress (k : Key) (s : State) : Kept P s (recognizePress k s) := by
  have hoffer : ∀ c t, Kept P t (offerMove (.step c) false .direct t) := fun c t => h.same (by simp) (by simp) (by simp) (by simp)
  have hrelay : ∀ k t, Kept P t (relayKey k t) := fun k t => h.same (by simp) (by simp) (by simp) (by simp)
  have hremote : ∀ (t : State) r, Kept P t { t with remote := r } := fun t r => h.same rfl rfl rfl rfl
  have hkey : ∀ t, Kept P t (keyAction k t) := fun t => by
    cases k with
    | fwd | rev => exact .ite (hoffer _ t) (hrelay _ t)
    | hold => exact .ite (.refl t) (.ite (.ite (h.resumeEvent t) (h.holdEvent t)) (hrelay _ t))
    | dark => exact .ite (h.dark t) (hrelay _ t)
    | focusIn | focusOut => exact .refl t
  have hact : ∀ t, Kept P t (actOnPress k t) := fun t => by
    unfold actOnPress
    split
    case h_1 | h_2 => exact hkey t
    case h_3 | h_4 => exact (hremote t _).trans (h.takeWake _)
    case h_5 => exact hremote t _
  exact (Kept.ite (hremote s _) ((hremote s _).trans (hact _))).trans (hremote _ _)

theorem takeScan (x : KeySamples) (order : List Key) (s : State) : Kept P s (takeScan x order s) := by
  have hsamples : Kept P s { s with remote := s.remote.sampleAll x } := h.same rfl rfl rfl rfl
  have hkey : ∀ t k, Kept P t (recognizeKey t k) := fun t k =>
    .ite (.ite (h.same rfl rfl rfl rfl) (h.recognizePress k t)) (.refl t)
  exact hsamples.trans (.foldl hkey (order ++ allKeys) _)

theorem expireSilence (s : State) : Kept P s (expireSilence s) := by
  have hexpire : ∀ n x, Kept P s (raise .loopSilent n { s with loop := x }) := fun _ _ => h.same rfl rfl rfl rfl
  have hdark : ∀ t, Kept P t (requestLamp 0 10 .direct t) := h.request 0 (Nat.zero_le _) 10 .direct
  unfold Machine.expireSilence
  refine .ite ?_ (.refl s)
  dsimp only
  split
  · exact hexpire _ _
  · exact (hexpire _ _).trans (h.holdEvent _)
  · exact (hexpire _ _).trans (hdark _)
  · exact (hexpire _ _).trans ((h.holdEvent _).trans (hdark _))

/-! ### A step -/

/-- A command that leaves lamp and fan as they are: what it does to the list keeps the list's law. -/
theorem beside {i : Instr} {s t : State} (hexec : exec i s = .next t) (hsame : SameLampHouse s t) : Kept P s t := by
  obtain ⟨u, hu, hsched⟩ := exec_scheduleKept i s
  obtain rfl := Host.Outcome.next.inj (hu.symm.trans hexec)
  exact h.elsewhere hsame hsched

/-- Every command is a change of the state that keeps the law. -/
theorem exec (i : Instr) (s : State) : ∃ t, exec i s = .next t ∧ Kept P s t := by
  have hframe : ∀ f bytes, Kept P s (whenRunning (frameArrives f bytes) s) := fun f bytes =>
    (h.keptAtCheck.frameArrives f bytes s).whenRunning
  have hpulse : ∀ (c : Prop) [Decidable c] (m : Bool), Kept P s (if c then Machine.pulseSample m s else s) := fun c _ m =>
    .ite (h.pulseSample m s) (.refl s)
  have htray : ∀ f : State → State, (f s).lamp = s.lamp → (f s).cool = s.cool → (f s).stn = s.stn → (f s).disp = s.disp →
      Kept P s (whenRunning (Machine.standbyTest ∘ f) s) := fun f hlamp hcool hstn hdisp =>
    (h.tested (h.same hlamp hcool hstn hdisp)).whenRunning
  cases i
  case cueFrame | poll | query | load | remoteFrame | assign | unknownKind | lengthAbove32 | unknownCommandCode | step | hold | resume |
      commit | configSet | configClose | standby | wake | ack | attnSet | clearCounters | reset =>
    exact ⟨_, rfl, hframe _ _⟩
  case strayByteRun gap bytes => exact ⟨_, rfl, (h.keptAtCheck.strayRun gap bytes s).whenRunning⟩
  case loopSilenceExpiry => exact ⟨_, rfl, (h.expireSilence s).whenRunning⟩
  case loopReset r => exact ⟨_, rfl, (Kept.ite (h.resetWith (kind := .loop) r nofun fun _ => rfl) (.refl s)).whenRunning⟩
  case powerOn st r => exact ⟨_, rfl, h.resetWith r (fun _ => rfl) fun hno => absurd rfl hno⟩
  case pinReset st r => exact ⟨_, rfl, .ite (.refl s) (h.resetWith r nofun fun _ => rfl)⟩
  case brownoutRestart st r =>
    have hrestart : Kept P s (brownoutRestart st r s) := h.resetWith r nofun fun _ => rfl
    exact ⟨_, rfl, (Kept.ite hrestart (.refl s)).whenRunning⟩
  case showTick => exact ⟨_, rfl, (h.showTick s).whenRunning⟩
  case scheduledRecordDue => exact ⟨_, rfl, (h.routeDueUpTo _ s).whenRunning⟩
  case trayCodeChange | liftTimeout | indexPulse | indexTimeout | camHome | dropTimeout | settleEnd | cassetteChange | brakeTimerExpiry |
      reelSilenceExpiry =>
    exact ⟨_, rfl, htray _ (by simp) (by simp) (by simp) (by simp)⟩
  case homingPassLimit =>
    exact ⟨_, rfl, (Kept.ite (h.tested (h.same (by simp) (by simp) (by simp) (by simp))) (.refl s)).whenRunning⟩
  case lampTick c => exact ⟨_, rfl, (h.tested (h.lampTick c s)).whenRunning⟩
  case lampRampEnd c => exact ⟨_, rfl, (Kept.ite (h.tested (h.lampTick c s)) (.refl s)).whenRunning⟩
  case lampFailed => exact ⟨_, rfl, (Kept.ite (h.tested (h.lampTickIn false false s)) (.refl s)).whenRunning⟩
  case coolingTick c => exact ⟨_, rfl, (Kept.ite (h.tested (h.lampTickIn true c s)) (.refl s)).whenRunning⟩
  case fanTachPulse => exact ⟨_, rfl, (h.tachPulse s).whenRunning⟩
  case tachGateEnd => exact ⟨_, rfl, (h.endTachGate s).whenRunning⟩
  case cutoutChange opened => exact ⟨_, rfl, (h.takeCutout opened s).whenRunning⟩
  case spinUpElapsed =>
    exact ⟨_, rfl, .whenRunning (.ite (h.elsewhere ⟨⟨_, _, _, rfl⟩, ⟨_, _, _, _, rfl⟩, id, id⟩ (.of_disp rfl)) (.refl s))⟩
  case tapeWord data parity stop => exact ⟨_, rfl, (h.readWordUpTo data parity stop 50 s).whenRunning⟩
  case burstEnd | burstLimit | spentEnd => exact ⟨_, rfl, (hpulse _ _).whenRunning⟩
  case cueTrackSample age => exact ⟨_, rfl, (h.takeSample age s).whenRunning⟩
  case keyPress k => exact ⟨_, rfl, (Kept.ite (.refl s) (h.recognizePress k s)).whenRunning⟩
  case keyScan samples order => exact ⟨_, rfl, (h.takeScan samples order s).whenRunning⟩
  case configWindowExpiry => exact ⟨_, rfl, (Kept.ite (h.closeConfiguration s) (.refl s)).whenRunning⟩
  case standbyCondition => exact ⟨_, rfl, (h.standbyTest s).whenRunning⟩
  case mainsWarnAssert => exact ⟨_, rfl, (h.mainsWarnOn s).whenRunning⟩
  case retainedWriteEnd =>
    obtain ⟨hstate, hitems⟩ := endWrite_stn s
    exact ⟨_, rfl, h.beside (i := .retainedWriteEnd) rfl
      (.whenRunning (.of_stn (by simp) (by simp) (by rw [hstate]; exact id) (by rw [hitems]; exact id)))⟩
  case supplyFall => exact ⟨_, rfl, h.beside (i := .supplyFall) rfl (.of_stn rfl rfl id id)⟩
  case mainsWarnDeassert => exact ⟨_, rfl, h.beside (i := .mainsWarnDeassert) rfl (.whenRunning (.of_stn rfl rfl id id))⟩
  case pinResetAssert => exact ⟨_, rfl, h.beside (i := .pinResetAssert) rfl (.whenRunning (.of_stn rfl rfl id id))⟩
  case mirrorComplete => exact ⟨_, rfl, h.beside (i := .mirrorComplete) rfl (.whenRunning (.of_eq rfl rfl rfl))⟩
  case soundRampEnd =>
    exact ⟨_, rfl, h.beside (i := .soundRampEnd) rfl (.whenRunning (.ite (.of_eq (by simp) (by simp) (by simp)) (.refl s)))⟩
  all_goals exact ⟨_, rfl, .whenRunning (h.same (by (repeat' split) <;> simp) (by (repeat' split) <;> simp)
    (by (repeat' split) <;> simp) (by (repeat' split) <;> simp))⟩

/-- A step idles, or is a command on the queue's rest. -/
theorem step {s s' : State} (hlaw : P s) (hstep : step s = .next s') : P s' := by
  unfold Machine.step at hstep
  split at hstep
  · obtain rfl := Host.Outcome.next.inj hstep
    exact hlaw
  · next i rest _ =>
    have hrest : Kept P s { s with pending := rest } := h.same rfl rfl rfl rfl
    obtain ⟨t, ht, hkept⟩ := h.exec i { s with pending := rest }
    obtain rfl := Host.Outcome.next.inj (ht.symm.trans hstep)
    exact hkept (hrest hlaw)

end KeptByLampHouse

end Sys2Proof.Machine

-- ==== Sys2Proof/Proofs/LampLaws.lean ====
/-! PROOF. The Lamp Engine's operations, each said once, and the laws of brightness position and drive output (R86, R90): a request, a tick, a
trip and a new ceiling keep them, and so does every step. -/

namespace Sys2Proof.Machine

/-! ### What the operations leave in lamp and fan -/

theorem setLamp_lamp (l : Lamp) (s : State) : (setLamp l s).lamp = l := by
  unfold setLamp
  split <;> simp

/-- A changed lamp state has the fan chosen afresh, and nothing else reaches the Cooling Controller (R79, R107). -/
theorem setLamp_cool (l : Lamp) (s : State) :
    (setLamp l s).cool = if l.state = s.lamp.state then s.cool else (chooseFan { s with lamp := l }).cool := by
  unfold setLamp
  dsimp only
  split <;> simp

theorem setLamp_ceiling (l : Lamp) (s : State) : (setLamp l s).cool.ceiling = s.cool.ceiling := by
  rw [setLamp_cool]
  split
  · rfl
  · simp [chooseFan]

/-- A LAMP request is ignored, or starts a ramp of a lamp that burns or that no cause keeps OFF (R80, R85). -/
theorem requestPosition_cases (target ticks : Nat) (o : Origin) (s : State) :
    requestPosition target ticks o s = s ∨
    ∃ st, (st = .warming ∨ st = .lit) ∧ (st = s.lamp.state ∨ s.cool.tripped = false) ∧
      requestPosition target ticks o s = setLamp (({ s.lamp with state := st } : Lamp).startRamp target ticks o) s := by
  unfold requestPosition
  split
  · exact .inl rfl
  · split
    · split
      · exact .inl rfl
      · next htripped => exact .inr ⟨.warming, .inl rfl, .inr (by simpa using htripped), rfl⟩
    · next hstate => exact .inr ⟨.warming, .inl rfl, .inl hstate.symm, by rw [← hstate]⟩
    · next hstate => exact .inr ⟨.lit, .inr rfl, .inl hstate.symm, by rw [← hstate]⟩
    · exact .inl rfl
    · exact .inl rfl

/-- The DARK key is ignored, or asks for 0 or for the position it brings back (R99). -/
theorem requestDark_cases (s : State) :
    requestDark s = s ∨ ∃ target, (target = 0 ∨ target = s.lamp.recall) ∧ requestDark s = requestPosition target 50 .direct s := by
  have htarget : ∀ c : Bool, (if c = true then 0 else s.lamp.recall) = 0 ∨ (if c = true then 0 else s.lamp.recall) = s.lamp.recall := by
    intro c
    cases c
    · exact .inr rfl
    · exact .inl rfl
  unfold requestDark
  dsimp only
  split
  case h_4 | h_5 => exact .inl rfl
  all_goals exact .inr ⟨_, htarget _, rfl⟩

theorem tripsChanged_lamp (s : State) : (tripsChanged s).lamp = s.lamp.meetTrips s.cool.tripped := by simp [tripsChanged]

theorem tripsChanged_cool (s : State) :
    (tripsChanged s).cool = (chooseFan { s with lamp := s.lamp.meetTrips s.cool.tripped, cool := s.cool.markTrip }).cool := by
  simp [tripsChanged]

/-- A new ceiling reaches the lamp at once, and the Cooling Controller keeps it with the derate mark (R91, R115, R116). -/
theorem updateCeiling_spec (s : State) :
    (updateCeiling s).lamp = s.lamp.applyCeiling (ceilingOf s.stn.items s.cool.heat) ∧
    ∃ armed, (updateCeiling s).cool = { s.cool with ceiling := ceilingOf s.stn.items s.cool.heat, derateArmed := armed } := by
  unfold updateCeiling
  dsimp only
  split
  · split
    · exact ⟨rfl, _, rfl⟩
    · exact ⟨rfl, _, rfl⟩
  · split
    · exact ⟨rfl, _, rfl⟩
    · exact ⟨rfl, _, rfl⟩

theorem tellLampAndTray_lamp (l : Lamp → Lamp) (f : Transport → Transport) (s : State) : (tellLampAndTray l f s).lamp = l s.lamp := by
  unfold tellLampAndTray
  dsimp only
  split <;> exact setLamp_lamp _ _

/-- In either order the Transport is nothing to the fan (R163; log 12). -/
theorem tellLampAndTray_cool (l : Lamp → Lamp) (f : Transport → Transport) (s : State) :
    (tellLampAndTray l f s).cool = (setLamp (l s.lamp) s).cool := by
  unfold tellLampAndTray
  dsimp only
  split <;> simp only [setLamp_cool] <;> rfl

theorem enterCoolingDown_lamp (s : State) : (enterCoolingDown s).lamp = s.lamp.coolDown := by
  simp [enterCoolingDown, tellLampAndTray_lamp]

theorem enterCoolingDown_ceiling (s : State) : (enterCoolingDown s).cool.ceiling = s.cool.ceiling := by
  simp [enterCoolingDown, chooseFan, tellLampAndTray_cool, setLamp_ceiling]

/-! ### A lamp that meets the laws -/

/-- The lamp meets the laws of position and drive output under this ceiling (R86, R90). -/
structure Lamp.Lawful (l : Lamp) (ceiling : Nat) : Prop where
  position : l.p ≤ Config.fullPosition
  ramp : l.ramp.within Config.fullPosition
  target : l.recall ≤ Config.fullPosition
  drive : l.drive ≤ ceiling
  slew : l.slewMem = l.drive
  out : l.burning = false → l.drive = 0 ∧ l.p = 0 ∧ l.failCount = 0 ∧ l.ramp.running = false

/-- The laws of O54 as a property of the list, and of the lamp under its ceiling. -/
def LampLaws (s : State) : Prop := ScheduleLaw s ∧ s.lamp.Lawful s.cool.ceiling

theorem lampLaws_iff (s : State) : LampLaws s ↔ ScheduleLaw s ∧ PositionLaw s ∧ DriveLaw s := by
  constructor
  · rintro ⟨hlist, h⟩
    exact ⟨hlist, ⟨h.position, h.ramp, h.target⟩, h.drive, h.slew, h.out⟩
  · rintro ⟨hlist, ⟨hposition, hramp, hrecall⟩, hdrive, hslew, hout⟩
    exact ⟨hlist, hposition, hramp, hrecall, hdrive, hslew, hout⟩

theorem Lamp.burning_of_state {l : Lamp} (h : l.state = .warming ∨ l.state = .lit) : l.burning = true := by
  rcases h with h | h <;> simp [Lamp.burning, h]

theorem Ramp.begin_within {now target top : Nat} (hnow : now ≤ top) (htarget : target ≤ top) (ticks : Nat) (o : Origin) :
    (Ramp.begin now target ticks o).within top := by
  refine ⟨hnow, htarget, Nat.zero_le _, fun _ => ?_⟩
  rw [Ramp.isStep_iff]
  show (ticks = 0 ∨ _) ∨ 0 < ticks
  omega

/-- A step of a running ramp stays in the range of what it moves (R86). -/
theorem Ramp.step_within {r : Ramp} {top : Nat} (h : r.within top) (hrunning : r.running = true) :
    r.step.1.within top ∧ r.step.2 ≤ top := by
  obtain ⟨hstart, htarget, hcount, hway⟩ := h
  obtain ⟨-, hvalue⟩ := Ramp.step_between (hway hrunning)
  refine ⟨?_, hvalue.trans (Nat.max_le.mpr ⟨hstart, htarget⟩)⟩
  cases hstep : r.isStep with
  | true =>
    rw [Ramp.step_of_isStep hstep]
    exact ⟨hstart, htarget, hcount, nofun⟩
  | false =>
    have hlt : r.count < r.length := (hway hrunning).resolve_left (ne_true_of_eq_false hstep)
    rw [Ramp.step_of_not_isStep hstep]
    refine ⟨hstart, htarget, hlt, fun hgoes => .inr ?_⟩
    have hne : r.count + 1 ≠ r.length := by simpa [Ramp.further] using hgoes
    exact Nat.lt_of_le_of_ne hlt hne

theorem levelPosition_le {level : Nat} (h : level ≤ 255) : levelPosition level ≤ Config.fullPosition := by
  show level * 4096 / 255 ≤ 4096
  omega

theorem driveOf_le (c : Vector Nat 17) (p preheat ceiling slewMem slew : Nat) : driveOf c p preheat ceiling slewMem slew ≤ ceiling :=
  (Nat.min_le_left _ _).trans (Nat.min_le_right _ _)

namespace Lamp.Lawful

variable {l : Lamp} {k : Nat} (h : l.Lawful k)
include h

/-- A request's ramp, of a lamp that burns from now on (R84, R85). -/
theorem startRamp {st : LampState} (hst : st = .warming ∨ st = .lit) {target : Nat} (htarget : target ≤ Config.fullPosition) (ticks : Nat)
    (o : Origin) : (({ l with state := st } : Lamp).startRamp target ticks o).Lawful k where
  position := h.position
  ramp := Ramp.begin_within h.position htarget ticks o
  target := by
    have hrecall := h.target
    simp only [Lamp.startRamp, Lamp.recall] at hrecall ⊢
    split
    · exact htarget
    · exact hrecall
  drive := h.drive
  slew := h.slew
  out := fun hout => absurd (Lamp.burning_of_state hst) (ne_true_of_eq_false hout)

theorem extinguish (st : LampState) : (l.extinguish st).Lawful k where
  position := Nat.zero_le _
  ramp := by
    obtain ⟨hstart, -, hcount, -⟩ := h.ramp
    exact ⟨hstart, Nat.zero_le _, hcount, nofun⟩
  target := h.target
  drive := Nat.zero_le _
  slew := rfl
  out := fun _ => ⟨rfl, rfl, rfl, rfl⟩

theorem meetTrips (tripped : Bool) : (l.meetTrips tripped).Lawful k := by
  have hif : ∀ st, (if tripped = true then l.extinguish st else l).Lawful k := fun st => by
    split
    · exact h.extinguish st
    · exact h
  unfold Lamp.meetTrips
  split
  case h_1 | h_2 => exact hif .tripped
  case h_3 =>
    split
    · exact h
    · exact h.extinguish .off
  all_goals exact h

theorem coolDown : l.coolDown.Lawful k := by
  unfold Lamp.coolDown
  split
  · exact h.extinguish .off
  · exact h

/-- A running ramp is a burning lamp's, so that its step breaks nothing of an extinguished one (R83, R86). -/
theorem rampStep {stands : Bool} (hruns : stands = false → l.ramp.running = true) : (l.rampStep stands).Lawful k := by
  unfold Lamp.rampStep
  split
  · exact h
  · next hstands =>
    have hrunning := hruns (by simpa using hstands)
    obtain ⟨hramp, hp⟩ := Ramp.step_within h.ramp hrunning
    refine { h with position := hp, ramp := hramp, out := fun hout => ?_ }
    obtain ⟨-, -, -, hstopped⟩ := h.out hout
    exact absurd hrunning (ne_true_of_eq_false hstopped)

theorem computeDrive (preheat slew : Nat) : (l.computeDrive preheat k slew).Lawful k := by
  unfold Lamp.computeDrive
  split
  · next hburning =>
    refine { h with drive := driveOf_le _ _ _ _ _ _, slew := rfl, out := fun hout => ?_ }
    dsimp only at hout
    split at hout
    · exact absurd hout nofun
    · exact absurd hburning (ne_true_of_eq_false hout)
  · next hburning =>
    obtain ⟨-, hp, hcount, hstopped⟩ := h.out (by simpa using hburning)
    exact { h with drive := Nat.zero_le _, slew := rfl, out := fun _ => ⟨rfl, hp, hcount, hstopped⟩ }

theorem countFailure (current : Bool) : (l.countFailure current).Lawful k := by
  refine { h with out := fun hout => ?_ }
  obtain ⟨hdrive, hp, -, hstopped⟩ := h.out hout
  have hlit : ¬l.state = .lit := fun hlit => absurd (Lamp.burning_of_state (.inr hlit)) (ne_true_of_eq_false hout)
  exact ⟨hdrive, hp, if_neg fun hfails => hlit hfails.1, hstopped⟩

/-- A new ceiling lowers the drive output to it (R91). -/
theorem applyCeiling (ceiling : Nat) : (l.applyCeiling ceiling).Lawful ceiling := by
  unfold Lamp.applyCeiling
  split
  · next hlt =>
    refine { h with drive := Nat.le_refl _, slew := rfl, out := fun hout => ?_ }
    obtain ⟨hdrive, -⟩ := h.out hout
    omega
  · next hge => exact { h with drive := Nat.not_lt.mp hge }

end Lamp.Lawful

/-- The lamp tick's own steps keep the lamp within the laws (R86, R90, R93, R96). -/
theorem tickedLamp_lawful (current : Bool) {s : State} (h : s.lamp.Lawful s.cool.ceiling) :
    (tickedLamp current s).Lawful s.cool.ceiling := by
  have hruns : rampStands s.lamp.ramp s = false → s.lamp.ramp.running = true := fun hstands => by
    simp only [rampStands, Bool.or_eq_false_iff, Bool.not_eq_false'] at hstands
    exact hstands.1
  exact { ((h.rampStep hruns).computeDrive s.stn.items.preheat s.stn.items.slew).countFailure current with }

/-! ### From one state to another -/

theorem Kept.lamp_lawful {s t : State} (hsched : ScheduleKept s t) (h : s.lamp.Lawful s.cool.ceiling → t.lamp.Lawful t.cool.ceiling) :
    Kept LampLaws s t := fun ⟨hlist, hlamp⟩ => ⟨hsched hlist, h hlamp⟩

/-- Lamp and ceiling as they are: the laws speak of nothing else but the list. -/
theorem Kept.lamp_same {s t : State} (hsched : ScheduleKept s t) (hlamp : t.lamp = s.lamp) (hceiling : t.cool.ceiling = s.cool.ceiling) :
    Kept LampLaws s t := .lamp_lawful hsched (by rw [hlamp, hceiling]; exact id)

theorem setLamp_lampKept {l : Lamp} {s : State} (h : s.lamp.Lawful s.cool.ceiling → l.Lawful s.cool.ceiling) :
    Kept LampLaws s (setLamp l s) := .lamp_lawful (.of_disp (by simp)) (by rw [setLamp_lamp, setLamp_ceiling]; exact h)

theorem requestPosition_lampKept {target : Nat} (htarget : target ≤ Config.fullPosition) (ticks : Nat) (o : Origin) (s : State) :
    Kept LampLaws s (requestPosition target ticks o s) := by
  rcases requestPosition_cases target ticks o s with hs | ⟨st, hst, -, hs⟩
  · rw [hs]
    exact .refl s
  · rw [hs]
    exact setLamp_lampKept fun h => h.startRamp hst htarget ticks o

theorem requestLamp_lampKept {level : Nat} (hlevel : level ≤ 255) (tenths : Nat) (o : Origin) (s : State) :
    Kept LampLaws s (requestLamp level tenths o s) := requestPosition_lampKept (levelPosition_le hlevel) _ o s

theorem requestDark_lampKept (s : State) : Kept LampLaws s (requestDark s) := by
  rcases requestDark_cases s with hs | ⟨target, htarget, hs⟩
  · rw [hs]
    exact .refl s
  · rw [hs]
    intro hlaws
    have hfull : target ≤ Config.fullPosition := by
      rcases htarget with rfl | rfl
      · exact Nat.zero_le _
      · exact hlaws.2.target
    exact requestPosition_lampKept hfull 50 .direct s hlaws

theorem tripsChanged_lampKept (s : State) (c : Cooling) (hceiling : c.ceiling = s.cool.ceiling) :
    Kept LampLaws s (tripsChanged { s with cool := c }) := by
  refine .lamp_lawful (.of_disp (by simp)) fun h => ?_
  rw [tripsChanged_lamp, tripsChanged_cool]
  simpa [chooseFan, hceiling] using h.meetTrips c.tripped

theorem updateCeiling_lampKept (s : State) : Kept LampLaws s (updateCeiling s) := by
  obtain ⟨hlamp, armed, hcool⟩ := updateCeiling_spec s
  refine .lamp_lawful (.of_disp (by simp)) fun h => ?_
  rw [hlamp, hcool]
  exact h.applyCeiling _

theorem enterCoolingDown_lampKept (s : State) : Kept LampLaws s (enterCoolingDown s) :=
  .lamp_lawful (.of_empty rfl) (by rw [enterCoolingDown_lamp, enterCoolingDown_ceiling]; exact Lamp.Lawful.coolDown)

/-- After a reset the lamp is OFF under a full ceiling (R102, R121). -/
theorem resetBlocks_lampLaws (kind : ResetKind) (x : Station) (r : Sys2Proof.Readings) (s : State) : LampLaws (resetBlocks kind x r s) := by
  obtain ⟨-, -, hlist, -⟩ := s.disp.atReset_cleared (kind == .powerOn)
  refine ⟨?_, ⟨by simp [resetBlocks, Lamp.atReset, Lamp.atPowerOn], ?_, ?_, Nat.zero_le _, rfl, fun _ => ⟨rfl, rfl, rfl, rfl⟩⟩⟩
  · simp [ScheduleLaw, resetBlocks, hlist]
  · exact ⟨Nat.zero_le _, Nat.zero_le _, Nat.zero_le _, nofun⟩
  · exact Nat.le_refl _

theorem lampLaws_keptByLampHouse : KeptByLampHouse LampLaws where
  elsewhere := fun {s t} hsame hsched => by
    obtain ⟨⟨_, _, _, hlamp⟩, ⟨_, _, _, _, hcool⟩, -⟩ := hsame
    refine .lamp_lawful hsched fun h => ?_
    rw [hlamp, hcool]
    exact { h with }
  request := fun _ hlevel => requestLamp_lampKept hlevel
  due := fun ⟨⟨_, _, hsound⟩, _⟩ hlist tenths o t => by
    obtain ⟨-, -, hlevel, -⟩ := hsound _ (hlist ▸ List.mem_cons_self)
    exact requestLamp_lampKept hlevel tenths o t
  dark := requestDark_lampKept
  out := fun st _ s => setLamp_lampKept fun h => h.extinguish st
  tick := fun current s => setLamp_lampKept (tickedLamp_lawful current)
  failing := fun current s => setLamp_lampKept fun h => (tickedLamp_lawful current h).extinguish .failed
  trips := fun _ _ _ s => tripsChanged_lampKept s _ rfl
  heat := fun _ _ s => .lamp_same (.of_disp rfl) rfl rfl
  stages := fun s => .lamp_same (.of_disp rfl) rfl (by simp [updateStages, chooseFan])
  ceiling := updateCeiling_lampKept
  gate := fun s _ _ _ _ => .lamp_same (.of_disp rfl) rfl rfl
  fan := fun s => .lamp_same (.of_disp rfl) rfl (by simp [chooseFan])
  cooling := enterCoolingDown_lampKept
  reset := fun kind x r a s _ _ _ => by
    obtain ⟨c, hfan, -, -, -, -, -, hceiling, -⟩ := fanAtReset_frame kind s.cool.cutout { resetBlocks kind x r s with attn := a }
    obtain ⟨hlist, hlamp⟩ := resetBlocks_lampLaws kind x r s
    rw [hfan]
    exact ⟨hlist, by simpa [hceiling] using hlamp⟩

/-- Settles O54. -/
theorem stepKeepsLampLaws : Obligations.StepKeepsLampLaws := by
  unfold Obligations.StepKeepsLampLaws
  intro s s' hlaws hstep
  rw [← lampLaws_iff] at hlaws ⊢
  exact lampLaws_keptByLampHouse.step hlaws hstep

end Sys2Proof.Machine

-- ==== Sys2Proof/Proofs/CoolingLaws.lean ====
/-! PROOF. The laws of heat, trips and fan (R95, R115, R117): whatever has the fan stage chosen afresh leaves a stage that they allow, a
change of the trip causes puts the lamp out before that, and so every step keeps them. -/

namespace Sys2Proof.Machine

/-! ### What stands before the fan's choice -/

/-- The ranges of the Cooling Controller's values but the fan stage (R106, R109, R115, R170). -/
structure Cooling.InRange (c : Cooling) (preheat : Nat) : Prop where
  preheat : preheat ≤ 255
  heat : c.heat ≤ Config.top16
  ceiling : c.ceiling ≤ Config.fullDrive
  heatStage : c.heatStage ≤ 3
  gateCount : c.gateCount ≤ 255
  lastTach : c.lastTach ≤ 255

/-- While a cause is active the lamp does not burn, and it is TRIPPED only then (R94, R95). -/
def LampState.obeys (st : LampState) (tripped : Bool) : Prop :=
  (tripped = true → st ≠ .warming ∧ st ≠ .lit) ∧ (st = .tripped → tripped = true)

/-- The fan runs for what calls it: at 3 for a trip cause, at 1 at least for a burning lamp and in COOLING_DOWN (R95, R117, R118). -/
structure FanRuns (s : State) : Prop where
  stage : s.cool.fanStage ≤ 3
  tripped : s.cool.tripped = true → s.cool.fanStage = 3
  burning : s.lamp.burning = true → 1 ≤ s.cool.fanStage
  coolingDown : s.stn.state = .coolingDown → 1 ≤ s.cool.fanStage

/-- The laws of O55: the ranges, lamp against trip causes, and the fan. -/
structure CoolingLaws (s : State) : Prop where
  ranges : s.cool.InRange s.stn.items.preheat
  lamp : s.lamp.state.obeys s.cool.tripped
  fan : FanRuns s

theorem Lamp.burning_eq_false_iff (l : Lamp) : l.burning = false ↔ l.state ≠ .warming ∧ l.state ≠ .lit := by
  simp [Lamp.burning]

theorem coolingLaws_iff (s : State) : CoolingLaws s ↔ HeatLaw s ∧ TripsLaw s ∧ FanLaw s := by
  constructor
  · rintro ⟨hr, ⟨hout, hcause⟩, hf⟩
    exact ⟨⟨hr.preheat, hr.heat, hr.ceiling, hr.heatStage, hf.stage, hr.gateCount, hr.lastTach⟩,
      ⟨fun ht => ⟨s.lamp.burning_eq_false_iff.mpr (hout ht), hf.tripped ht⟩, hcause⟩, hf.burning, hf.coolingDown⟩
  · rintro ⟨⟨hpreheat, hheat, hceiling, hheatStage, hstage, hgate, htach⟩, ⟨htrips, hcause⟩, hburning, hcoolingDown⟩
    exact ⟨⟨hpreheat, hheat, hceiling, hheatStage, hgate, htach⟩,
      ⟨fun ht => s.lamp.burning_eq_false_iff.mp (htrips ht).1, hcause⟩,
      hstage, fun ht => (htrips ht).2, hburning, hcoolingDown⟩

/-- The laws speak of the lamp state, of the fan but for its marks and timer, of COOLING_DOWN and of W. -/
theorem CoolingLaws.congr {s t : State} (h : CoolingLaws s) (hlamp : t.lamp.state = s.lamp.state)
    (hcool : ∃ changed spin armed cool, t.cool = { s.cool with
      stageChanged := changed, spinUp := spin, derateArmed := armed, cool := cool })
    (hstate : t.stn.state = .coolingDown → s.stn.state = .coolingDown)
    (hitems : s.stn.items.preheat ≤ 255 → t.stn.items.preheat ≤ 255) : CoolingLaws t := by
  obtain ⟨hranges, hobeys, hfan⟩ := h
  obtain ⟨_, _, _, _, hcool⟩ := hcool
  have hburning : t.lamp.burning = s.lamp.burning := by rw [Lamp.burning, Lamp.burning, hlamp]
  refine ⟨?_, ?_, ?_⟩
  · rw [hcool]
    exact { hranges with preheat := hitems hranges.preheat }
  · rw [hcool, hlamp]
    exact hobeys
  · constructor
    · rw [hcool]
      exact hfan.stage
    · rw [hcool]
      exact hfan.tripped
    · rw [hcool, hburning]
      exact hfan.burning
    · rw [hcool]
      exact fun hc => hfan.coolingDown (hstate hc)

theorem CoolingLaws.of_same {s t : State} (h : CoolingLaws s) (hlamp : t.lamp.state = s.lamp.state) (hcool : t.cool = s.cool)
    (hstn : t.stn = s.stn) : CoolingLaws t :=
  h.congr hlamp ⟨_, _, _, _, hcool⟩ (by rw [hstn]; exact id) (by rw [hstn]; exact id)

/-! ### The fan's choice (R107) -/

theorem fanWanted_runs (s : State) (h : s.cool.heatStage ≤ 3) :
    fanWanted s ≤ 3 ∧ (s.cool.tripped = true → fanWanted s = 3) ∧
    (s.lamp.burning = true ∨ s.stn.state = .coolingDown → 1 ≤ fanWanted s) := by
  have hstage : (if s.stn.state = .standby then 0 else s.cool.heatStage) ≤ 3 := by split <;> omega
  have hlamp : (if s.lamp.burning || s.stn.state == .coolingDown then 1 else 0) ≤ 1 := by split <;> omega
  have htrip : (if s.cool.tripped then 3 else 0) ≤ 3 := by split <;> omega
  unfold fanWanted
  refine ⟨by omega, fun ht => ?_, fun hcalls => ?_⟩
  · rw [if_pos ht]
    omega
  · have hcall : (if s.lamp.burning || s.stn.state == .coolingDown then 1 else 0) = 1 := if_pos (by simpa using hcalls)
    rw [hcall]
    omega

theorem chooseFan_runs {s : State} (h : s.cool.heatStage ≤ 3) : FanRuns (chooseFan s) := by
  obtain ⟨hstage, htripped, hcalls⟩ := fanWanted_runs s h
  constructor
  · simpa [chooseFan] using hstage
  · simpa [chooseFan] using htripped
  · simpa [chooseFan] using fun hb => hcalls (.inl hb)
  · simpa [chooseFan] using fun hc => hcalls (.inr hc)

theorem Cooling.InRange.setStage {c : Cooling} {preheat : Nat} (h : c.InRange preheat) (n : Nat) : (c.setStage n).InRange preheat := by
  obtain ⟨hpreheat, hheat, hceiling, hstage, hgate, htach⟩ := h
  constructor <;> simpa

/-- The fan chosen afresh, the laws of the fan hold whatever its stage was before (R107, R95, R117). -/
theorem chooseFan_coolingLaws {s : State} (hranges : s.cool.InRange s.stn.items.preheat) (hlamp : s.lamp.state.obeys s.cool.tripped) :
    CoolingLaws (chooseFan s) :=
  ⟨hranges.setStage _, by simpa [chooseFan] using hlamp, chooseFan_runs hranges.heatStage⟩

/-! ### Lamp and trips -/

theorem obeys_of_no_cause {st : LampState} {tripped : Bool} (h : tripped = false) (hst : st ≠ .tripped) : st.obeys tripped :=
  ⟨fun ht => absurd ht (ne_true_of_eq_false h), fun hs => absurd hs hst⟩

theorem off_obeys (tripped : Bool) : LampState.off.obeys tripped := ⟨fun _ => ⟨nofun, nofun⟩, nofun⟩

theorem failed_obeys (tripped : Bool) : LampState.failed.obeys tripped := ⟨fun _ => ⟨nofun, nofun⟩, nofun⟩

/-- The lamp meets a change of the trip causes, whatever it was before (R94). -/
theorem meetTrips_obeys (l : Lamp) (tripped : Bool) : (l.meetTrips tripped).state.obeys tripped := by
  have htripped : LampState.tripped.obeys true := ⟨fun _ => ⟨nofun, nofun⟩, fun _ => rfl⟩
  unfold Lamp.meetTrips
  cases hl : l.state <;> cases tripped <;> simp only [Bool.false_eq_true, if_true, if_false, Lamp.extinguish, hl]
  case warming.true | lit.true | tripped.true => exact htripped
  case off.false | off.true | tripped.false => exact off_obeys _
  case failed.false | failed.true => exact failed_obeys _
  case warming.false | lit.false => exact obeys_of_no_cause rfl nofun

theorem coolDown_obeys {l : Lamp} {tripped : Bool} (h : l.state.obeys tripped) : (l.coolDown).state.obeys tripped := by
  unfold Lamp.coolDown
  split
  · exact off_obeys tripped
  · exact h

/-- The lamp takes new values that obey the trip causes (R79, R107). -/
theorem setLamp_coolingKept {l : Lamp} {s : State} (h : s.lamp.state.obeys s.cool.tripped → l.state.obeys s.cool.tripped) :
    Kept CoolingLaws s (setLamp l s) := by
  intro hlaws
  have hcool := setLamp_cool l s
  split at hcool
  · next hstate => exact hlaws.of_same (by rw [setLamp_lamp, hstate]) hcool (by simp)
  · exact (chooseFan_coolingLaws (s := { s with lamp := l }) hlaws.ranges (h hlaws.lamp)).of_same (by rw [setLamp_lamp]; rfl) hcool
      (by simp)

theorem setLamp_tripped (l : Lamp) (s : State) : (setLamp l s).cool.tripped = s.cool.tripped := by
  rw [setLamp_cool]
  split
  · rfl
  · simp [chooseFan]

theorem setLamp_inRange {l : Lamp} {s : State} {preheat : Nat} (h : s.cool.InRange preheat) : (setLamp l s).cool.InRange preheat := by
  rw [setLamp_cool]
  split
  · exact h
  · exact h.setStage _

/-! ### The Lamp Engine's operations -/

theorem requestPosition_coolingKept (target ticks : Nat) (o : Origin) (s : State) :
    Kept CoolingLaws s (requestPosition target ticks o s) := by
  rcases requestPosition_cases target ticks o s with hs | ⟨st, hst, hlights, hs⟩
  · rw [hs]
    exact .refl s
  · rw [hs]
    refine setLamp_coolingKept fun h => ?_
    show st.obeys s.cool.tripped
    rcases hlights with rfl | hcause
    · exact h
    · exact obeys_of_no_cause hcause (by rcases hst with rfl | rfl <;> exact nofun)

theorem requestDark_coolingKept (s : State) : Kept CoolingLaws s (requestDark s) := by
  rcases requestDark_cases s with hs | ⟨target, -, hs⟩
  · rw [hs]
    exact .refl s
  · rw [hs]
    exact requestPosition_coolingKept target 50 .direct s

/-- A tick leaves the lamp state, or brings a burning lamp to LIT (R82). -/
theorem tickedLamp_state (current : Bool) (s : State) :
    (tickedLamp current s).state = s.lamp.state ∨ (s.lamp.burning = true ∧ (tickedLamp current s).state = .lit) := by
  have hramp : ∀ stands, (s.lamp.rampStep stands).state = s.lamp.state := fun stands => by
    unfold Lamp.rampStep
    split <;> rfl
  have hdrive : ∀ l preheat ceiling slew, l.state = s.lamp.state →
      (Lamp.computeDrive l preheat ceiling slew).state = s.lamp.state ∨
      (s.lamp.burning = true ∧ (Lamp.computeDrive l preheat ceiling slew).state = .lit) := fun l preheat ceiling slew hl => by
    unfold Lamp.computeDrive
    split
    · next hburning =>
      rw [Lamp.burning, hl] at hburning
      dsimp only
      split
      · exact .inr ⟨hburning, rfl⟩
      · exact .inl hl
    · exact .inl hl
  exact hdrive _ _ _ _ (hramp _)

theorem tickedLamp_obeys (current : Bool) {s : State} (h : s.lamp.state.obeys s.cool.tripped) :
    (tickedLamp current s).state.obeys s.cool.tripped := by
  rcases tickedLamp_state current s with hst | ⟨hburning, hst⟩
  · rwa [hst]
  · rw [hst]
    have hcause : s.cool.tripped = false := by
      by_contra ht
      have hout := s.lamp.burning_eq_false_iff.mpr (h.1 (by simpa using ht))
      exact absurd hburning (ne_true_of_eq_false hout)
    exact obeys_of_no_cause hcause nofun

/-! ### Trips, heat and station states -/

/-- A change of the trip causes leads from any lamp and any fan stage to what the laws allow (R94, R95, R114). -/
theorem tripsChanged_coolingLaws {s : State} (h : s.cool.InRange s.stn.items.preheat) : CoolingLaws (tripsChanged s) := by
  have hranges : s.cool.markTrip.InRange s.stn.items.preheat := by
    obtain ⟨hpreheat, hheat, hceiling, hstage, hgate, htach⟩ := h
    constructor <;> simpa
  have hlamp : (s.lamp.meetTrips s.cool.tripped).state.obeys s.cool.markTrip.tripped := by
    rw [Cooling.markTrip_tripped]
    exact meetTrips_obeys s.lamp s.cool.tripped
  exact (chooseFan_coolingLaws (s := { s with lamp := s.lamp.meetTrips s.cool.tripped, cool := s.cool.markTrip }) hranges hlamp).of_same
    (by rw [tripsChanged_lamp]; rfl) (tripsChanged_cool s) (by simp)

theorem updateCeiling_coolingKept (s : State) : Kept CoolingLaws s (updateCeiling s) := by
  rintro ⟨hranges, hlamp, hfan⟩
  obtain ⟨hnew, armed, hcool⟩ := updateCeiling_spec s
  have hk : ceilingOf s.stn.items s.cool.heat ≤ Config.fullDrive :=
    ceilingOf_le (hranges.preheat.trans (by decide)) s.cool.heat
  have hstate : (updateCeiling s).lamp.state = s.lamp.state := by
    rw [hnew, Lamp.applyCeiling]
    split <;> rfl
  have hceiling : CoolingLaws { s with cool := { s.cool with ceiling := ceilingOf s.stn.items s.cool.heat } } :=
    ⟨{ hranges with ceiling := hk }, hlamp, { hfan with }⟩
  exact hceiling.congr hstate ⟨_, _, _, _, hcool⟩ (by simp) (by simp)

/-- The fan chosen at the end of the entry into COOLING_DOWN makes up for what was chosen before (R107, R118; log 12). -/
theorem enterCoolingDown_coolingKept (s : State) : Kept CoolingLaws s (enterCoolingDown s) := by
  rintro ⟨hranges, hlamp, -⟩
  have hbefore : (fanBeforeCoolingDown s).InRange s.stn.items.preheat := by
    rcases fanBeforeCoolingDown_cases s with hc | ⟨-, hc⟩ <;> rw [hc]
    · exact hranges
    · exact hranges.setStage _
  let s1 := stopSilence { s with
    stn := { s.stn with state := .coolingDown, showState := .none, window := .off }, cool := fanBeforeCoolingDown s }
  let s2 := tellLampAndTray Lamp.coolDown Transport.flush s1
  have hranges2 : s2.cool.InRange s2.stn.items.preheat := by
    have hin : (setLamp s.lamp.coolDown s1).cool.InRange s.stn.items.preheat := setLamp_inRange hbefore
    simpa [s2, s1, tellLampAndTray_cool] using hin
  have hlamp2 : s2.lamp.state.obeys s2.cool.tripped := by
    have hobeys := coolDown_obeys hlamp
    simpa [s2, s1, tellLampAndTray_lamp, tellLampAndTray_cool, setLamp_tripped] using hobeys
  have hlaws := chooseFan_coolingLaws hranges2 hlamp2
  exact hlaws.of_same (by simp [enterCoolingDown, s2, s1]) (by simp [enterCoolingDown, s2, s1]) (by simp [enterCoolingDown, s2, s1])

/-- What the four resets leave in range: a power-on takes H from a valid record or from the default of H_warn (R121, R122). -/
theorem resetBlocks_inRange {kind : ResetKind} {x : Station} (r : Sys2Proof.Readings) {s : State}
    (h : s.cool.InRange s.stn.items.preheat) (hpowerOn : kind = .powerOn → x.items = .default)
    (hother : kind ≠ .powerOn → x.items = s.stn.items) :
    (resetBlocks kind x r s).cool.InRange (resetBlocks kind x r s).stn.items.preheat := by
  obtain ⟨hpreheat, hheat, -, hstage, -, -⟩ := h
  show (s.cool.atReset (kind == .powerOn) (heatAtPowerOn x) x.items r.cutoutOpen).InRange x.items.preheat
  by_cases hk : kind = .powerOn
  · have hrecord : heatAtPowerOn x ≤ Config.top16 := by
      have hhi := x.readRecord[3].isLt
      have hlo := x.readRecord[4].isLt
      unfold heatAtPowerOn word16
      rw [hpowerOn hk]
      split
      · show _ ≤ 65535
        omega
      · decide
    subst hk
    rw [hpowerOn rfl]
    exact ⟨by decide, hrecord, Nat.le_refl _, Nat.zero_le _, Nat.zero_le _, Nat.zero_le _⟩
  · have hno : (kind == .powerOn) = false := by simpa using hk
    rw [hno, hother hk]
    exact ⟨hpreheat, hheat, Nat.le_refl _, hstage, Nat.zero_le _, Nat.zero_le _⟩

/-- A reset that keeps the fan stage finds it at 3 if a trip cause is active afterwards (R121). -/
theorem fanAtReset_coolingKept {kind : ResetKind} {x : Station} (r : Sys2Proof.Readings) (a : Attn) {s : State}
    (hpowerOn : kind = .powerOn → x.items = .default) (hother : kind ≠ .powerOn → x.items = s.stn.items) :
    Kept CoolingLaws s (fanAtReset kind s.cool.cutout { resetBlocks kind x r s with attn := a }) := by
  rintro ⟨hranges, -, hfan⟩
  have hin := resetBlocks_inRange r hranges hpowerOn hother
  unfold fanAtReset
  split
  · exact chooseFan_coolingLaws (s := { resetBlocks kind x r s with attn := a }) hin (off_obeys _)
  · next hkept =>
    obtain ⟨hk, hcutout⟩ := not_or.mp hkept
    have hno : (kind == .powerOn) = false := by simpa using hk
    have hstage : (resetBlocks kind x r s).cool.fanStage = s.cool.fanStage := by simp [resetBlocks, Cooling.atReset, hno]
    have hcause : (resetBlocks kind x r s).cool.tripped = true → s.cool.tripped = true := fun ht => by
      have hopen : (resetBlocks kind x r s).cool.cutout = true → s.cool.cutout = true := by simpa using hcutout
      have hcauses : s.cool.thermal = true ∨ r.cutoutOpen = true := by
        simpa [resetBlocks, Cooling.atReset, Cooling.tripped, hno] using ht
      rcases hcauses with hthermal | hcut
      · simp [Cooling.tripped, hthermal]
      · simp [Cooling.tripped, hopen hcut]
    exact ⟨hin, off_obeys _, by rw [hstage]; exact hfan.stage, fun ht => hstage.trans (hfan.tripped (hcause ht)), nofun, nofun⟩

theorem coolingLaws_keptByLampHouse : KeptByLampHouse CoolingLaws where
  elsewhere := fun {s t} hsame _ hlaws => by
    obtain ⟨⟨_, _, _, hlamp⟩, hcool, hstate, hitems⟩ := hsame
    exact hlaws.congr (by rw [hlamp]) hcool hstate hitems
  request := fun _ _ _ => requestPosition_coolingKept _ _
  due := fun _ _ _ => requestPosition_coolingKept _ _
  dark := requestDark_coolingKept
  out := fun st hst s => setLamp_coolingKept fun _ => by
    rcases hst with rfl | rfl
    · exact off_obeys _
    · exact failed_obeys _
  tick := fun current s => setLamp_coolingKept (tickedLamp_obeys current)
  failing := fun current s => setLamp_coolingKept fun _ => failed_obeys _
  trips := fun thermal stall cutout s ⟨hranges, _, _⟩ => tripsChanged_coolingLaws { hranges with }
  heat := fun n hn s ⟨hranges, hlamp, hfan⟩ => ⟨{ hranges with heat := hn }, hlamp, { hfan with }⟩
  stages := fun s ⟨hranges, hlamp, _⟩ =>
    chooseFan_coolingLaws
      (s := { s with cool := { s.cool with heatStage := nextHeatStage s.stn.items s.cool.heat s.cool.heatStage } })
      { hranges with heatStage := nextHeatStage_le _ _ _ } hlamp
  ceiling := updateCeiling_coolingKept
  gate := fun s n m hn hm ⟨hranges, hlamp, hfan⟩ =>
    ⟨{ hranges with gateCount := hn hranges.gateCount, lastTach := hm ⟨hranges.gateCount, hranges.lastTach⟩ }, hlamp, { hfan with }⟩
  fan := fun s ⟨hranges, hlamp, _⟩ => chooseFan_coolingLaws hranges hlamp
  cooling := enterCoolingDown_coolingKept
  reset := fun _ _ r a _ hpowerOn hother => fanAtReset_coolingKept r a hpowerOn hother

/-- Settles O55. -/
theorem stepKeepsCoolingLaws : Obligations.StepKeepsCoolingLaws := by
  unfold Obligations.StepKeepsCoolingLaws
  intro s s' hlaws hstep
  rw [← coolingLaws_iff] at hlaws ⊢
  exact coolingLaws_keptByLampHouse.step hlaws hstep

end Sys2Proof.Machine

-- ==== Sys2Proof/Proofs/LampTick.lean ====
/-! PROOF. The lamp tick before the tenth, field by field: ramp, drive output, LIT, failure count and energy sum (R82, R86, R87, R90, R93,
R96), the tick that ends a ramp, and the tick that fails the lamp (R97). -/

namespace Sys2Proof.Machine

/-! ### The lamp after the tick's own steps -/

theorem rampStands_iff (r : Ramp) (s : State) :
    rampStands r s = true ↔ r.running = false ∨ (r.origin = .ofShow ∧ s.stn.state = .active ∧ s.stn.showState = .held) := by
  simp [rampStands, showHeld]

theorem tickedLamp_ramp (current : Bool) (s : State) :
    ((tickedLamp current s).ramp, (tickedLamp current s).p) =
      if rampStands s.lamp.ramp s = true then (s.lamp.ramp, s.lamp.p) else s.lamp.ramp.step := by
  have hdrive : ∀ (l : Lamp) preheat ceiling slew,
      ((l.computeDrive preheat ceiling slew).ramp, (l.computeDrive preheat ceiling slew).p) = (l.ramp, l.p) := fun l _ _ _ => by
    unfold Lamp.computeDrive
    split <;> rfl
  refine (hdrive _ _ _ _).trans ?_
  unfold Lamp.rampStep
  split <;> rfl

/-- What a tick leaves, counts and adds up, whatever the lamp state (R84, R92, R93). -/
theorem tickedLamp_kept (current : Bool) (s : State) :
    (tickedLamp current s).lastTarget = s.lamp.lastTarget ∧ (tickedLamp current s).curve = s.lamp.curve ∧
    (tickedLamp current s).ticks = s.lamp.ticks + 1 ∧
    (tickedLamp current s).energy = s.lamp.energy + (tickedLamp current s).drive := by
  simp only [tickedLamp, Lamp.addEnergy, Lamp.countFailure, Lamp.computeDrive, Lamp.rampStep]
  (repeat' split) <;> exact ⟨rfl, rfl, rfl, rfl⟩

theorem tickedLamp_failCount (current : Bool) (s : State) :
    (tickedLamp current s).failCount =
      if (tickedLamp current s).state = .lit ∧ 100 ≤ (tickedLamp current s).drive ∧ current = false
      then s.lamp.failCount + 1 else 0 := by
  have hbefore : ∀ stands preheat ceiling slew,
      ((s.lamp.rampStep stands).computeDrive preheat ceiling slew).failCount = s.lamp.failCount := fun stands _ _ _ => by
    unfold Lamp.computeDrive Lamp.rampStep
    (repeat' split) <;> rfl
  simp only [tickedLamp, Lamp.addEnergy, Lamp.countFailure, hbefore, Config.failureDrive]

/-- The four stages from position to drive of a burning lamp, and LIT once the floor is reached (R82, R88 to R90). -/
theorem tickedLamp_burning (current : Bool) {s : State} (h : s.lamp.burning = true) :
    (tickedLamp current s).drive = driveOf s.lamp.curve (tickedLamp current s).p s.stn.items.preheat s.cool.ceiling s.lamp.slewMem
      s.stn.items.slew ∧
    (tickedLamp current s).slewMem = (tickedLamp current s).drive ∧
    (tickedLamp current s).state = if s.stn.items.preheat ≤ (tickedLamp current s).drive then .lit else s.lamp.state := by
  have hramp : ∀ stands, (s.lamp.rampStep stands).burning = true ∧ (s.lamp.rampStep stands).curve = s.lamp.curve ∧
      (s.lamp.rampStep stands).slewMem = s.lamp.slewMem ∧ (s.lamp.rampStep stands).state = s.lamp.state := fun stands => by
    unfold Lamp.rampStep
    split <;> exact ⟨h, rfl, rfl, rfl⟩
  obtain ⟨hburning, hcurve, hslew, hstate⟩ := hramp (rampStands s.lamp.ramp s)
  simp only [tickedLamp, Lamp.addEnergy, Lamp.countFailure, Lamp.computeDrive, hburning, if_true, hcurve, hslew, hstate, and_self]

theorem tickedLamp_stays_burning (current : Bool) {s : State} (h : s.lamp.burning = true) : (tickedLamp current s).burning = true := by
  rcases tickedLamp_state current s with hst | ⟨-, hst⟩
  · rw [Lamp.burning, hst]
    exact h
  · exact Lamp.burning_of_state (.inr hst)

/-! ### A tick before the tenth -/

section
variable (current : Bool) {s : State} (hticks : s.lamp.ticks < 9)
include hticks

theorem failsAtHandOver_early : failsAtHandOver current s = false := by
  obtain ⟨-, -, hcount, -⟩ := tickedLamp_kept current s
  have hearly : decide (10 ≤ (tickedLamp current s).ticks) = false := decide_eq_false (by omega)
  simp [failsAtHandOver, hearly]

/-- Nothing is handed over before the tenth tick (R93). -/
theorem lampTickIn_early (first : Bool) : lampTickIn first current s = lampTickOnly current s := by
  obtain ⟨-, -, hcount, -⟩ := tickedLamp_kept current s
  have hafter : (lampTickOnly current s).lamp.ticks = s.lamp.ticks + 1 := by
    unfold lampTickOnly
    dsimp only
    split
    · exact (congrArg Lamp.ticks (setLamp_lamp _ s)).trans hcount
    · exact (congrArg Lamp.ticks (setLamp_lamp _ s)).trans hcount
  rw [lampTickIn_of_apart first current s (failsAtHandOver_early current hticks), handOver, if_neg (by rw [hafter]; omega)]

theorem lampTick_early : lampTick current s = lampTickOnly current s := by
  rw [lampTick, if_neg (ne_true_of_eq_false (failsAtHandOver_early current hticks)), lampTickIn_early current hticks]

end

/-- A tick that does not bring the failure count to its limit gives the lamp its new values and nothing more (R96). -/
theorem lampTickOnly_below_limit (current : Bool) {s : State} (h : s.lamp.failCount < 19) :
    lampTickOnly current s = setLamp (tickedLamp current s) s := by
  have hcount : (tickedLamp current s).failCount < 20 := by
    rw [tickedLamp_failCount]
    split <;> omega
  have hlimit : (tickedLamp current s).atLimit = false := decide_eq_false (Nat.not_le.mpr hcount)
  simp [lampTickOnly, hlimit]

/-- With no record waiting a lamp's new values change lamp and fan alone (R58). -/
theorem setLamp_of_empty_eq (l : Lamp) {s : State} (h : s.tray.queue = []) :
    setLamp l s = { s with lamp := l, cool := (setLamp l s).cool } := by
  have hset := setLamp_of_empty l s h
  rw [setLamp_cool, hset]
  split <;> rfl

/-- A burning lamp keeps the fan at 1 or above, where the heat stage counts (R107). -/
theorem fanWanted_burning {s : State} (hburning : s.lamp.burning = true) (hstn : s.stn.state ≠ .standby) :
    fanWanted s = max (max s.cool.heatStage 1) (if s.cool.tripped = true then 3 else 0) := by
  simp [fanWanted, hburning, hstn]

/-! ### The commands -/

theorem exec_lampTick (current : Bool) {s : State} (hpower : s.power = .running) :
    exec (.lampTick current) s = .next (standbyTest (lampTick current s)) := congrArg Host.Outcome.next (if_pos hpower)

theorem exec_lampRampEnd (current : Bool) {s : State} (hpower : s.power = .running) :
    exec (.lampRampEnd current) s = .next (if lampRampEnds s = true then standbyTest (lampTick current s) else s) :=
  congrArg Host.Outcome.next (if_pos hpower)

theorem exec_lampFailed {s : State} (hpower : s.power = .running) :
    exec .lampFailed s = .next (if lampFails s = true then standbyTest (lampTickIn false false s) else s) :=
  congrArg Host.Outcome.next (if_pos hpower)

theorem lampRampEnds_iff (s : State) :
    lampRampEnds s = true ↔ s.lamp.burning = true ∧ rampStands s.lamp.ramp s = false ∧
      (s.lamp.ramp.length = 0 ∨ s.lamp.ramp.target = s.lamp.ramp.start ∨ s.lamp.ramp.count + 1 = s.lamp.ramp.length) := by
  simp [lampRampEnds, Ramp.lastTick, Ramp.isStep, and_assoc, or_assoc]

section
variable (current : Bool) {s : State} (hstn : s.stn.state ≠ .coolingDown) (hqueue : s.tray.queue = []) (hticks : s.lamp.ticks < 9)
include hstn hqueue hticks

/-- A tick before the tenth, far from the failure limit, with no record waiting. -/
theorem standbyTest_lampTick (hfail : s.lamp.failCount < 19) :
    standbyTest (lampTick current s) =
      { s with lamp := tickedLamp current s, cool := (setLamp (tickedLamp current s) s).cool } := by
  rw [lampTick_early current hticks, lampTickOnly_below_limit current hfail,
    standbyTest_of_not_coolingDown (by simpa using hstn)]
  exact setLamp_of_empty_eq _ hqueue

/-- The tick that reaches the failure limit (R97). -/
theorem standbyTest_lampTickIn_failing (hlimit : (tickedLamp current s).atLimit = true) :
    standbyTest (lampTickIn false current s) =
      { s with
        lamp := (tickedLamp current s).extinguish .failed
        cool := (setLamp ((tickedLamp current s).extinguish .failed) s).cool
        attn := s.attn.raise .lampFailed (tickedLamp current s).drive } := by
  have honly : lampTickOnly current s = failLamp (tickedLamp current s).drive (tickedLamp current s) s := if_pos hlimit
  rw [lampTickIn_early current hticks, honly, standbyTest_of_not_coolingDown (by simpa using hstn), failLamp, setLamp_of_empty_eq _ hqueue]
  rfl

end

/-- The tick that ends a ramp leaves the position at its target, with the ramp over (R86). -/
theorem tickedLamp_last (current : Bool) {s : State} (hfree : rampStands s.lamp.ramp s = false)
    (hlast : s.lamp.ramp.length = 0 ∨ s.lamp.ramp.target = s.lamp.ramp.start ∨ s.lamp.ramp.count + 1 = s.lamp.ramp.length) :
    (tickedLamp current s).p = s.lamp.ramp.target ∧ (tickedLamp current s).ramp.running = false ∧
    (tickedLamp current s).ramp.target = s.lamp.ramp.target := by
  obtain ⟨hvalue, hover, htarget⟩ := Ramp.step_last hlast
  obtain ⟨hramp, hp⟩ := Prod.mk.inj ((tickedLamp_ramp current s).trans (if_neg (ne_true_of_eq_false hfree)))
  rw [hramp, hp]
  exact ⟨hvalue, hover, htarget⟩

/-- A LIT lamp stays LIT in a tick (R82). -/
theorem tickedLamp_lit (current : Bool) {s : State} (h : s.lamp.state = .lit) : (tickedLamp current s).state = .lit := by
  rcases tickedLamp_state current s with hst | ⟨-, hst⟩
  · rw [hst, h]
  · exact hst

/-- The twentieth failing tick in a row reaches the limit (R96). -/
theorem tickedLamp_atLimit {s : State} (hlit : s.lamp.state = .lit) (hcount : s.lamp.failCount = 19)
    (hdrive : 100 ≤ (tickedLamp false s).drive) : (tickedLamp false s).atLimit = true := by
  refine decide_eq_true ?_
  rw [tickedLamp_failCount, if_pos ⟨tickedLamp_lit false hlit, hdrive, rfl⟩, hcount]
  exact Nat.le_refl 20

/-- Settles O41: the tick of a burning lamp, a ramp's last tick, and the tick that fails the lamp. -/
theorem lampTickRampsAndDrives : Obligations.LampTickRampsAndDrives := by
  unfold Obligations.LampTickRampsAndDrives
  refine ⟨fun current s hpower hstn hqueue hburning hticks hfail => ?_, fun current s hpower hstn hqueue hticks =>
    ⟨fun hnone => ?_, fun hburning hrunning hfree hfail hlast => ?_, fun hlit hcount _ _ hdrive => ?_⟩⟩
  · obtain ⟨hlastTarget, hcurve, hcounted, henergy⟩ := tickedLamp_kept current s
    obtain ⟨hdrive, hslew, hstate⟩ := tickedLamp_burning current hburning
    have hramp := tickedLamp_ramp current s
    simp only [rampStands_iff] at hramp
    refine ⟨_, by rw [exec_lampTick current hpower, standbyTest_lampTick current hstn hqueue hticks hfail], rfl, hstate, hramp, hdrive,
      hslew, henergy, hcounted, tickedLamp_failCount current s, hlastTarget, hcurve, fun hsame => ?_, fun hchanged hstandby => ?_⟩
    · exact (setLamp_cool _ s).trans (if_pos hsame)
    · refine (setLamp_cool _ s).trans ((if_neg hchanged).trans ?_)
      rw [← fanWanted_burning (s := { s with lamp := tickedLamp current s }) (tickedLamp_stays_burning current hburning) hstandby]
      rfl
  · have hends : ¬lampRampEnds s = true := by
      rw [lampRampEnds_iff, ← Bool.not_eq_true, rampStands_iff]
      rintro ⟨hburning, hfree, -⟩
      rcases hnone with hout | hstands
      · exact absurd hburning (ne_true_of_eq_false hout)
      · exact hfree hstands
    rw [exec_lampRampEnd current hpower, if_neg hends]
  · have hstands : rampStands s.lamp.ramp s = false := by
      rw [← Bool.not_eq_true, rampStands_iff, hrunning]
      rintro (hstopped | hfrozen)
      · exact absurd hstopped nofun
      · exact hfree hfrozen
    have hends : lampRampEnds s = true := (lampRampEnds_iff s).mpr ⟨hburning, hstands, hlast⟩
    obtain ⟨hp, hover, htarget⟩ := tickedLamp_last current hstands hlast
    obtain ⟨-, -, hcounted, -⟩ := tickedLamp_kept current s
    refine ⟨_, by rw [exec_lampRampEnd current hpower, if_pos hends, standbyTest_lampTick current hstn hqueue hticks hfail], hp, hover,
      htarget, hcounted, rfl, fun hlit => ?_⟩
    exact (setLamp_cool _ s).trans (if_pos ((tickedLamp_lit current hlit).trans hlit.symm))
  · have hlimit := tickedLamp_atLimit hlit hcount hdrive
    have hfails : lampFails s = true := hlimit
    obtain ⟨-, -, -, henergy⟩ := tickedLamp_kept false s
    exact ⟨_, by rw [exec_lampFailed hpower, if_pos hfails, standbyTest_lampTickIn_failing false hstn hqueue hticks hlimit],
      rfl, rfl, rfl, rfl, rfl, henergy, rfl, rfl⟩

end Sys2Proof.Machine

-- ==== Sys2Proof/Proofs/TripRules.lean ====
/-! PROOF. How a change of the trip causes meets lamp and fan with no record waiting (R94, R95, R114), and the fan stage it leaves (R107). -/

namespace Sys2Proof.Machine

/-! ### The fan stage -/

/-- A trip cause calls for stage 3, whatever else calls (R95, R107). -/
theorem fanWanted_tripped {s : State} (hstage : s.cool.heatStage ≤ 3) (htripped : s.cool.tripped = true) : fanWanted s = 3 := by
  obtain ⟨-, hthree, -⟩ := fanWanted_runs s hstage
  exact hthree htripped

/-- In ACTIVE a lamp that does not burn leaves the fan to the heat stage and the trip causes (R107). -/
theorem fanWanted_out {s : State} (hstn : s.stn.state = .active) (hout : s.lamp.burning = false) :
    fanWanted s = max s.cool.heatStage (if s.cool.tripped = true then 3 else 0) := by
  simp [fanWanted, hstn, hout]

/-- A gate that is marked stays marked when a stage is chosen (R108). -/
theorem Cooling.setStage_stageChanged {c : Cooling} (h : c.stageChanged = true) (n : Nat) : (c.setStage n).stageChanged = true := by
  unfold Cooling.setStage
  split
  · exact h
  · rfl

/-! ### The lamp meets the trip causes (R94, R95) -/

theorem Lamp.meetTrips_of_burning {l : Lamp} (h : l.burning = true) : l.meetTrips true = l.extinguish .tripped := by
  have hstate : l.state = .warming ∨ l.state = .lit := by simpa [Lamp.burning] using h
  unfold Lamp.meetTrips
  rcases hstate with hl | hl <;> rw [hl] <;> rfl

theorem Lamp.meetTrips_of_tripped {l : Lamp} (h : l.state = .tripped) (tripped : Bool) :
    l.meetTrips tripped = if tripped = true then l else l.extinguish .off := by
  unfold Lamp.meetTrips
  rw [h]

/-- With no cause left a lamp that does not burn goes from TRIPPED to OFF, and stays otherwise (R94). -/
theorem Lamp.meetTrips_released {l : Lamp} (h : l.burning = false) :
    l.meetTrips false = if l.state = .tripped then l.extinguish .off else l := by
  obtain ⟨hwarming, hlit⟩ := l.burning_eq_false_iff.mp h
  unfold Lamp.meetTrips
  cases hl : l.state with
  | warming => exact absurd hl hwarming
  | lit => exact absurd hl hlit
  | off | tripped | failed => rfl

theorem Lamp.meetTrips_out {l : Lamp} {tripped : Bool} (h : tripped = true ∨ l.burning = false) :
    (l.meetTrips tripped).burning = false := by
  obtain ⟨hout, -⟩ := meetTrips_obeys l tripped
  rcases h with htripped | hburning
  · exact (Lamp.burning_eq_false_iff _).mpr (hout htripped)
  · cases tripped with
    | true => exact (Lamp.burning_eq_false_iff _).mpr (hout rfl)
    | false =>
      rw [Lamp.meetTrips_released hburning]
      split
      · rfl
      · exact hburning

/-! ### A change of the causes -/

/-- The Cooling Controller after a change of the trip causes: the gate marked under FAN_STALL, and the stage that lamp and causes now
call for (R107, R111). -/
def tripsChosen (s : State) : Cooling :=
  s.cool.markTrip.setStage (fanWanted { s with lamp := s.lamp.meetTrips s.cool.tripped, cool := s.cool.markTrip })

theorem tripsChanged_cool_eq (s : State) : (tripsChanged s).cool = tripsChosen s := tripsChanged_cool s

/-- The fan's choice is all that a change of the causes does to the Cooling Controller beside the mark (R114). -/
@[simp] theorem tripsChosen_frame (s : State) :
    (tripsChosen s).heat = s.cool.heat ∧ (tripsChosen s).heatStage = s.cool.heatStage ∧ (tripsChosen s).gateCount = s.cool.gateCount ∧
    (tripsChosen s).lastTach = s.cool.lastTach ∧ (tripsChosen s).thermal = s.cool.thermal ∧
    (tripsChosen s).fanStall = s.cool.fanStall ∧ (tripsChosen s).cutout = s.cool.cutout ∧ (tripsChosen s).ceiling = s.cool.ceiling ∧
    (tripsChosen s).derateArmed = s.cool.derateArmed ∧ (tripsChosen s).cool = s.cool.cool ∧
    (tripsChosen s).tripped = s.cool.tripped := by
  simp [tripsChosen]

/-- An active cause puts the fan at 3 (R95). -/
theorem tripsChosen_tripped {s : State} (hstage : s.cool.heatStage ≤ 3) (htripped : s.cool.tripped = true) :
    (tripsChosen s).fanStage = 3 := by
  have hwanted := fanWanted_tripped (s := { s with lamp := s.lamp.meetTrips s.cool.tripped, cool := s.cool.markTrip })
    (by simpa using hstage) (by simpa using htripped)
  simp [tripsChosen, hwanted]

/-- Under FAN_STALL the gate in progress is marked (R111). -/
theorem tripsChosen_marked {s : State} (hstall : s.cool.fanStall = true) : (tripsChosen s).stageChanged = true :=
  Cooling.setStage_stageChanged (by simp [hstall]) _

/-- With no cause left and the lamp not burning the fan goes to the heat stage (R107). -/
theorem tripsChosen_released {s : State} (hstn : s.stn.state = .active) (hout : s.lamp.burning = false)
    (hfree : s.cool.tripped = false) : (tripsChosen s).fanStage = s.cool.heatStage := by
  have hwanted := fanWanted_out (s := { s with lamp := s.lamp.meetTrips s.cool.tripped, cool := s.cool.markTrip }) hstn
    (Lamp.meetTrips_out (.inr hout))
  rw [tripsChosen, hwanted]
  simp [hfree]

/-- With no record waiting a change of the causes reaches lamp and fan alone (R114, R58). -/
theorem tripsChanged_of_empty {s : State} (h : s.tray.queue = []) :
    tripsChanged s = { s with lamp := s.lamp.meetTrips s.cool.tripped, cool := tripsChosen s } :=
  startMoves_of_empty (chooseFan { s with lamp := s.lamp.meetTrips s.cool.tripped, cool := s.cool.markTrip }) h

end Sys2Proof.Machine

-- ==== Sys2Proof/Proofs/CoolingTick.lean ====
/-! PROOF. The cooling tick (R104): the heat estimate, the THERMAL cause, the stages, the ceiling and the cool indication as one state, then
the tenth lamp tick of a lamp that is out, that is LIT, and that fails at that tick (R94, R97). -/

namespace Sys2Proof.Machine

/-! ### The hand-off (R93, R104, R105) -/

/-- The lamp with its energy sum handed over (R93). -/
def Lamp.handed (l : Lamp) : Lamp := { l with energy := 0, ticks := 0 }

/-- The heat estimate that a hand-off gives (R105). -/
def handedHeat (s : State) : Nat :=
  nextHeat s.cool.heat s.lamp.energy s.stn.items.heatGain (s.stn.items.loss s.cool.fanStage)

/-- The sum handed over, and the heat estimate taken from it. -/
def heatTaken (s : State) : State := { s with lamp := s.lamp.handed, cool := { s.cool with heat := handedHeat s } }

/-- The THERMAL cause set or cleared (R113). -/
def thermalTaken (thermal : Bool) (s : State) : State := { s with cool := { s.cool with thermal := thermal } }

/-- THERMAL_DERATE raised where a ceiling below full drive meets the derate mark (R116). -/
def derated (armed : Bool) (ceiling : Nat) (a : Attn) : Attn :=
  if armed = true ∧ ceiling < 1023 then a.raise .thermalDerate ceiling else a

/-- The Cooling Controller after the stages, the ceiling and the cool indication at its heat estimate (R106, R107, R115 to R117). -/
def cooledAfter (s : State) : Cooling :=
  { (updateStages s).cool with
    ceiling := ceilingOf s.stn.items s.cool.heat
    derateArmed := if s.cool.derateArmed = true then decide (1023 ≤ ceilingOf s.stn.items s.cool.heat)
      else decide (ceilingOf s.stn.items s.cool.heat = 1023)
    cool := decide (s.cool.heat < s.stn.items.heatCool) }

/-- Steps 3 to 5 of the cooling tick, after the test of THERMAL (R104). -/
def stepsAfterThermal (s : State) : State := updateCool (updateCeiling (updateStages s))

theorem handOver_tenth {s : State} (h : s.lamp.ticks = 10) : handOver s = stepsAfterThermal (testThermal (heatTaken s)) :=
  if_pos h.ge

/-- Steps 3 to 5 reach the fan, the lamp through the ceiling, and THERMAL_DERATE alone (R106, R91, R115 to R117). -/
theorem stepsAfterThermal_eq (s : State) :
    stepsAfterThermal s =
      { s with
        lamp := s.lamp.applyCeiling (ceilingOf s.stn.items s.cool.heat)
        cool := cooledAfter s
        attn := derated s.cool.derateArmed (ceilingOf s.stn.items s.cool.heat) s.attn } := by
  have hstages : (updateStages s).cool.heat = s.cool.heat ∧ (updateStages s).cool.derateArmed = s.cool.derateArmed := by
    simp [updateStages, chooseFan]
  obtain ⟨hheat, harmed⟩ := hstages
  unfold stepsAfterThermal updateCeiling cooledAfter derated
  simp only [updateStages_frame, hheat, harmed, Config.fullDrive]
  cases hmark : s.cool.derateArmed with
  | true =>
    by_cases hk : ceilingOf s.stn.items s.cool.heat < 1023
    · simp [updateCool, coolAt, raise, updateStages, chooseFan, hk]
    · simp [updateCool, coolAt, updateStages, chooseFan, hk, Nat.not_lt.mp hk, hmark]
  | false =>
    by_cases hk : ceilingOf s.stn.items s.cool.heat = 1023
    · simp [updateCool, coolAt, updateStages, chooseFan, hk]
    · simp [updateCool, coolAt, updateStages, chooseFan, hk, hmark]

/-- What steps 3 to 5 leave of the heat estimate and the causes, and the stage and ceiling they take from them (R106, R115). -/
theorem cooledAfter_spec (s : State) :
    (cooledAfter s).heat = s.cool.heat ∧ (cooledAfter s).thermal = s.cool.thermal ∧
    (cooledAfter s).heatStage = nextHeatStage s.stn.items s.cool.heat s.cool.heatStage ∧
    (cooledAfter s).fanStage =
      fanWanted { s with cool := { s.cool with heatStage := nextHeatStage s.stn.items s.cool.heat s.cool.heatStage } } := by
  simp [cooledAfter, updateStages, chooseFan]

/-- An active cause keeps the fan at 3 through the tick (R95). -/
theorem cooledAfter_fan_tripped {s : State} (htripped : s.cool.tripped = true) : (cooledAfter s).fanStage = 3 := by
  obtain ⟨-, -, -, hfan⟩ := cooledAfter_spec s
  rw [hfan]
  exact fanWanted_tripped (nextHeatStage_le _ _ _) htripped

/-- The fan of a lamp that does not burn follows the new heat stage and the causes (R107). -/
theorem cooledAfter_fan_out {s : State} (hstn : s.stn.state = .active) (hout : s.lamp.burning = false) :
    (cooledAfter s).fanStage = max (cooledAfter s).heatStage (if s.cool.tripped = true then 3 else 0) := by
  obtain ⟨-, -, hstage, hfan⟩ := cooledAfter_spec s
  rw [hfan, hstage]
  exact fanWanted_out hstn hout

/-- A lamp without drive output has nothing to lower (R91). -/
theorem Lamp.applyCeiling_undriven {l : Lamp} (h : l.drive = 0) (ceiling : Nat) : l.applyCeiling ceiling = l :=
  if_neg (by omega)

/-- A new ceiling lowers drive output and slew memory to it, and nothing else of the lamp (R91). -/
theorem Lamp.applyCeiling_eq {l : Lamp} (h : l.slewMem = l.drive) (ceiling : Nat) :
    l.applyCeiling ceiling = { l with drive := min l.drive ceiling, slewMem := min l.drive ceiling } := by
  unfold Lamp.applyCeiling
  split
  · next hlt => rw [Nat.min_eq_right hlt.le]
  · next hge =>
    rw [Nat.min_eq_left (Nat.not_lt.mp hge)]
    exact congrArg (fun d => { l with slewMem := d }) h

/-! ### The THERMAL cause (R113, R114) -/

section
variable {s : State}

theorem testThermal_quiet (hthermal : s.cool.thermal = false) (hheat : s.cool.heat < s.stn.items.heatMax) : testThermal s = s := by
  simp [testThermal, hthermal, Nat.not_le.mpr hheat]

theorem testThermal_standing (hthermal : s.cool.thermal = true) (hheat : s.stn.items.heatResume ≤ s.cool.heat) : testThermal s = s := by
  simp [testThermal, hthermal, Nat.not_lt.mpr hheat]

theorem testThermal_sets (hthermal : s.cool.thermal = false) (hheat : s.stn.items.heatMax ≤ s.cool.heat) :
    testThermal s = raise .thermalTrip s.cool.heat (tripsChanged (thermalTaken true s)) := by
  simp [testThermal, thermalTaken, hthermal, hheat]

theorem testThermal_clears (hthermal : s.cool.thermal = true) (hheat : s.cool.heat < s.stn.items.heatResume) :
    testThermal s = tripsChanged (thermalTaken false s) := by
  simp [testThermal, thermalTaken, hthermal, hheat]

end

theorem Cooling.thermal_of_not_tripped {c : Cooling} (h : c.tripped = false) : c.thermal = false := by
  cases hthermal : c.thermal with
  | false => rfl
  | true => simp [Cooling.tripped, hthermal] at h

/-- Whether some cause is active, with THERMAL as given (R94). -/
def Cooling.causes (c : Cooling) (thermal : Bool) : Bool := thermal || c.fanStall || c.cutout

/-- The state in which the hand-off has changed THERMAL, and lamp and fan have met that (R113, R114). -/
def thermalMet (thermal : Bool) (s : State) : State :=
  { s with
    lamp := s.lamp.handed.meetTrips (s.cool.causes thermal)
    cool := tripsChosen (thermalTaken thermal (heatTaken s)) }

theorem thermalMet_cool (thermal : Bool) (s : State) :
    (thermalMet thermal s).cool.heat = handedHeat s ∧ (thermalMet thermal s).cool.thermal = thermal ∧
    (thermalMet thermal s).cool.derateArmed = s.cool.derateArmed ∧ (thermalMet thermal s).cool.tripped = s.cool.causes thermal := by
  simp [thermalMet, thermalTaken, heatTaken, Cooling.causes, Cooling.tripped]

/-- What the tick leaves after a change of THERMAL (R105, R113, R115). -/
theorem cooledAfter_thermalMet (thermal : Bool) (s : State) :
    (cooledAfter (thermalMet thermal s)).heat = handedHeat s ∧ (cooledAfter (thermalMet thermal s)).thermal = thermal ∧
    (cooledAfter (thermalMet thermal s)).ceiling = ceilingOf s.stn.items (handedHeat s) := by
  obtain ⟨hheat, hthermal, -⟩ := thermalMet_cool thermal s
  obtain ⟨hkept, hstands, -⟩ := cooledAfter_spec (thermalMet thermal s)
  exact ⟨hkept.trans hheat, hstands.trans hthermal, congrArg (ceilingOf s.stn.items) hheat⟩

section
variable {s : State} (hticks : s.lamp.ticks = 10)
include hticks

/-- A hand-off that changes no cause (R104). -/
theorem handOver_without_trip (htest : testThermal (heatTaken s) = heatTaken s) :
    handOver s =
      { s with
        lamp := s.lamp.handed.applyCeiling (ceilingOf s.stn.items (handedHeat s))
        cool := cooledAfter (heatTaken s)
        attn := derated s.cool.derateArmed (ceilingOf s.stn.items (handedHeat s)) s.attn } := by
  rw [handOver_tenth hticks, htest, stepsAfterThermal_eq]
  rfl

/-- A hand-off that changes no cause, of a lamp without drive output. -/
theorem handOver_quiet_undriven (htest : testThermal (heatTaken s) = heatTaken s) (hdrive : s.lamp.drive = 0) :
    handOver s =
      { s with
        lamp := s.lamp.handed
        cool := cooledAfter (heatTaken s)
        attn := derated s.cool.derateArmed (ceilingOf s.stn.items (handedHeat s)) s.attn } := by
  rw [handOver_without_trip hticks htest, Lamp.applyCeiling_undriven (l := s.lamp.handed) hdrive]

/-- A hand-off that changes the causes, with the lamp without drive output after it (R114). -/
theorem handOver_with_trip (hqueue : s.tray.queue = []) (thermal : Bool) (hdrive : (thermalMet thermal s).lamp.drive = 0)
    (a : Attn) (htest : testThermal (heatTaken s) = { tripsChanged (thermalTaken thermal (heatTaken s)) with attn := a }) :
    handOver s =
      { s with
        lamp := s.lamp.handed.meetTrips (s.cool.causes thermal)
        cool := cooledAfter (thermalMet thermal s)
        attn := derated s.cool.derateArmed (cooledAfter (thermalMet thermal s)).ceiling a } := by
  have hchanged : testThermal (heatTaken s) = { thermalMet thermal s with attn := a } := by
    rw [htest, tripsChanged_of_empty (s := thermalTaken thermal (heatTaken s)) hqueue]
    rfl
  obtain ⟨-, -, harmed, -⟩ := thermalMet_cool thermal s
  rw [handOver_tenth hticks, hchanged, stepsAfterThermal_eq]
  dsimp only
  rw [harmed, Lamp.applyCeiling_undriven hdrive]
  rfl

/-- A hand-off that clears THERMAL, of a lamp that is TRIPPED (R113, R94, R107). -/
theorem handOver_clears (hqueue : s.tray.queue = []) (hstn : s.stn.state = .active) (hthermal : s.cool.thermal = true)
    (hstate : s.lamp.state = .tripped) (hdrive : s.lamp.drive = 0) (hcold : handedHeat s < s.stn.items.heatResume) :
    ∃ l c, handOver s = { s with lamp := l, cool := c, attn := derated s.cool.derateArmed c.ceiling s.attn } ∧
      c.heat = handedHeat s ∧ c.thermal = false ∧
      l.state = (if s.cool.fanStall = true ∨ s.cool.cutout = true then .tripped else .off) ∧
      c.fanStage = max c.heatStage (if s.cool.fanStall = true ∨ s.cool.cutout = true then 3 else 0) := by
  have htest : testThermal (heatTaken s) = { tripsChanged (thermalTaken false (heatTaken s)) with attn := s.attn } := by
    rw [testThermal_clears (s := heatTaken s) hthermal hcold, tripsChanged_of_empty (s := thermalTaken false (heatTaken s)) hqueue]
    rfl
  have hcauses : s.cool.causes false = true ↔ s.cool.fanStall = true ∨ s.cool.cutout = true := by simp [Cooling.causes]
  have hlamp : (thermalMet false s).lamp = if s.cool.causes false = true then s.lamp.handed else s.lamp.handed.extinguish .off :=
    Lamp.meetTrips_of_tripped (l := s.lamp.handed) hstate (s.cool.causes false)
  have hundriven : (thermalMet false s).lamp.drive = 0 := by
    rw [hlamp]
    split
    · exact hdrive
    · rfl
  have hout : (thermalMet false s).lamp.burning = false :=
    Lamp.meetTrips_out (.inr (s.lamp.handed.burning_eq_false_iff.mpr (by simp [Lamp.handed, hstate])))
  obtain ⟨-, -, -, htripped⟩ := thermalMet_cool false s
  obtain ⟨hheat, hinactive, -⟩ := cooledAfter_thermalMet false s
  refine ⟨_, _, handOver_with_trip hticks hqueue false hundriven _ htest, hheat, hinactive, ?_, ?_⟩
  · show (thermalMet false s).lamp.state = _
    simp only [hlamp, ← hcauses]
    split
    · exact hstate
    · rfl
  · rw [cooledAfter_fan_out (s := thermalMet false s) hstn hout, htripped]
    simp only [hcauses]

/-- A hand-off that makes THERMAL active (R113, R94, R95). -/
theorem handOver_trips (hqueue : s.tray.queue = []) (hthermal : s.cool.thermal = false) (hhot : s.stn.items.heatMax ≤ handedHeat s)
    {l : Lamp} (hlamp : s.lamp.handed.meetTrips true = l) (hdrive : l.drive = 0) :
    ∃ c, handOver s =
        { s with
          lamp := l, cool := c, attn := derated s.cool.derateArmed c.ceiling (s.attn.raise .thermalTrip (handedHeat s)) } ∧
      c.heat = handedHeat s ∧ c.thermal = true ∧ c.fanStage = 3 ∧ c.ceiling = ceilingOf s.stn.items (handedHeat s) := by
  subst hlamp
  have htest : testThermal (heatTaken s) =
      { tripsChanged (thermalTaken true (heatTaken s)) with attn := s.attn.raise .thermalTrip (handedHeat s) } := by
    rw [testThermal_sets (s := heatTaken s) hthermal hhot, tripsChanged_of_empty (s := thermalTaken true (heatTaken s)) hqueue]
    rfl
  obtain ⟨-, -, -, htripped⟩ := thermalMet_cool true s
  obtain ⟨hheat, hactive, hceiling⟩ := cooledAfter_thermalMet true s
  exact ⟨_, handOver_with_trip hticks hqueue true hdrive _ htest, hheat, hactive, cooledAfter_fan_tripped htripped, hceiling⟩

end

/-! ### The tenth tick -/

/-- The lamp after the tick's own steps, the rest of the part as it was. -/
def ticked (current : Bool) (s : State) : State := { s with lamp := tickedLamp current s }

theorem exec_coolingTick (current : Bool) {s : State} (hpower : s.power = .running) (hstn : s.stn.state = .active)
    (hticks : s.lamp.ticks = 9) : exec (.coolingTick current) s = .next (lampTickIn true current s) := by
  have htick : exec (.coolingTick current) s = .next (if tenthTickNext s = true then standbyTest (lampTickIn true current s) else s) :=
    congrArg Host.Outcome.next (if_pos hpower)
  have htenth : tenthTickNext s = true := decide_eq_true hticks.ge
  rw [htick, if_pos htenth, standbyTest_of_not_coolingDown (by simp [hstn])]

theorem exec_lampFailed_active {s : State} (hpower : s.power = .running) (hstn : s.stn.state = .active)
    (hlimit : (tickedLamp false s).atLimit = true) : exec .lampFailed s = .next (lampTickIn false false s) := by
  have hfails : lampFails s = true := hlimit
  rw [exec_lampFailed hpower, if_pos hfails, standbyTest_of_not_coolingDown (by simp [hstn])]

/-- A tick that keeps the lamp state and stays below the failure limit is followed by the hand-off (R93, R104). -/
theorem lampTickIn_of_kept (first current : Bool) {s : State} (hqueue : s.tray.queue = [])
    (hlimit : (tickedLamp current s).atLimit = false) (hstate : (tickedLamp current s).state = s.lamp.state) :
    lampTickIn first current s = handOver (ticked current s) := by
  have honly : lampTickOnly current s = ticked current s := by
    rw [lampTickOnly, hlimit, if_neg nofun, setLamp_of_empty _ _ hqueue, if_pos hstate]
    rfl
  rw [lampTickIn_of_apart first current s (by simp [failsAtHandOver, hlimit]), honly]

/-- A tick of a lamp that does not burn and has no ramp: it is counted, and adds nothing to the energy sum (R90, R93, R96). -/
theorem tickedLamp_out (current : Bool) {s : State} (hout : s.lamp.burning = false) (hstopped : s.lamp.ramp.running = false) :
    tickedLamp current s = { s.lamp with drive := 0, slewMem := 0, failCount := 0, ticks := s.lamp.ticks + 1 } := by
  obtain ⟨-, hlit⟩ := s.lamp.burning_eq_false_iff.mp hout
  have hstands : rampStands s.lamp.ramp s = true := (rampStands_iff _ _).mpr (.inl hstopped)
  have hdrive : s.lamp.computeDrive s.stn.items.preheat s.cool.ceiling s.stn.items.slew = { s.lamp with drive := 0, slewMem := 0 } :=
    if_neg (ne_true_of_eq_false hout)
  rw [tickedLamp, hstands, Lamp.rampStep, if_pos rfl, hdrive]
  simp [Lamp.countFailure, Lamp.addEnergy, hlit]

/-- The part after the tenth tick of a lamp that does not burn, before the hand-off. -/
def tenthOut (s : State) : State := { s with lamp := { s.lamp with drive := 0, slewMem := 0, failCount := 0, ticks := 10 } }

/-- The tenth tick of a lamp that does not burn and has no ramp (R93, R104). -/
theorem exec_coolingTick_out (current : Bool) {s : State} (hpower : s.power = .running) (hstn : s.stn.state = .active)
    (hqueue : s.tray.queue = []) (hout : s.lamp.burning = false) (hstopped : s.lamp.ramp.running = false) (hticks : s.lamp.ticks = 9) :
    exec (.coolingTick current) s = .next (handOver (tenthOut s)) := by
  have hticked := tickedLamp_out current hout hstopped
  rw [exec_coolingTick current hpower hstn hticks, lampTickIn_of_kept true current hqueue (by rw [hticked]; rfl) (by rw [hticked]),
    ticked, hticked, hticks]
  rfl

/-- A LIT lamp's tenth tick, below the failure limit (R82, R93, R104). -/
theorem exec_coolingTick_lit (current : Bool) {s : State} (hpower : s.power = .running) (hstn : s.stn.state = .active)
    (hqueue : s.tray.queue = []) (hlit : s.lamp.state = .lit) (hticks : s.lamp.ticks = 9) (hfail : s.lamp.failCount < 19) :
    exec (.coolingTick current) s = .next (handOver (ticked current s)) := by
  have hlimit : (tickedLamp current s).atLimit = false := by
    refine decide_eq_false (Nat.not_le.mpr ?_)
    rw [tickedLamp_failCount]
    show _ < 20
    split <;> omega
  rw [exec_coolingTick current hpower hstn hticks,
    lampTickIn_of_kept true current hqueue hlimit ((tickedLamp_lit current hlit).trans hlit.symm)]

theorem ticked_tenth (current : Bool) {s : State} (hticks : s.lamp.ticks = 9) : (ticked current s).lamp.ticks = 10 := by
  obtain ⟨-, -, hcount, -⟩ := tickedLamp_kept current s
  exact hcount.trans (by rw [hticks])

/-- A LIT lamp's hand-off that changes no cause lowers its drive output to the new ceiling (R91). -/
theorem handOver_quiet_lit (current : Bool) {s : State} (hlit : s.lamp.state = .lit) (hticks : s.lamp.ticks = 9)
    (hthermal : s.cool.thermal = false) (hcold : handedHeat (ticked current s) < s.stn.items.heatMax) :
    handOver (ticked current s) =
      { s with
        lamp := { (tickedLamp current s).handed with
          drive := min (tickedLamp current s).drive (ceilingOf s.stn.items (handedHeat (ticked current s)))
          slewMem := min (tickedLamp current s).drive (ceilingOf s.stn.items (handedHeat (ticked current s))) }
        cool := cooledAfter (heatTaken (ticked current s))
        attn := derated s.cool.derateArmed (ceilingOf s.stn.items (handedHeat (ticked current s))) s.attn } := by
  obtain ⟨-, hslew, -⟩ := tickedLamp_burning current (Lamp.burning_of_state (.inr hlit))
  rw [handOver_without_trip (ticked_tenth current hticks) (testThermal_quiet (s := heatTaken (ticked current s)) hthermal hcold),
    Lamp.applyCeiling_eq (l := (ticked current s).lamp.handed) hslew]
  rfl

/-- A LIT lamp's hand-off that makes THERMAL active trips it (R94, R113). -/
theorem handOver_trips_lit (current : Bool) {s : State} (hqueue : s.tray.queue = []) (hlit : s.lamp.state = .lit)
    (hticks : s.lamp.ticks = 9) (hthermal : s.cool.thermal = false) (hhot : s.stn.items.heatMax ≤ handedHeat (ticked current s)) :
    ∃ c, handOver (ticked current s) =
        { s with
          lamp := (tickedLamp current s).handed.extinguish .tripped
          cool := c
          attn := derated s.cool.derateArmed c.ceiling (s.attn.raise .thermalTrip (handedHeat (ticked current s))) } ∧
      c.heat = handedHeat (ticked current s) ∧ c.thermal = true ∧ c.fanStage = 3 ∧
      c.ceiling = ceilingOf s.stn.items (handedHeat (ticked current s)) :=
  handOver_trips (ticked_tenth current hticks) hqueue hthermal hhot
    (Lamp.meetTrips_of_burning (Lamp.burning_of_state (.inr (tickedLamp_lit current hlit)))) rfl

/-! ### Trip and failure together (R94, R97) -/

/-- The lamp failed before the hand-off, the fan left to the heat stage (R97, R107). -/
def failedFirst (s : State) : State :=
  { s with
    lamp := (tickedLamp false s).extinguish .failed
    cool := s.cool.setStage s.cool.heatStage
    attn := s.attn.raise .lampFailed (tickedLamp false s).drive }

theorem handedHeat_failedFirst (s : State) :
    handedHeat (failedFirst s) = nextHeat s.cool.heat (tickedLamp false s).energy s.stn.items.heatGain
      (s.stn.items.loss s.cool.heatStage) := by
  simp [handedHeat, failedFirst, Lamp.extinguish]

section
variable {s : State} (hqueue : s.tray.queue = []) (hlit : s.lamp.state = .lit) (hticks : s.lamp.ticks = 9)
  (hlimit : (tickedLamp false s).atLimit = true)

include hticks hlimit in
theorem failsAtHandOver_tenth : failsAtHandOver false s = true := by
  have hcount : (tickedLamp false s).ticks = 10 := ticked_tenth false hticks
  simp [failsAtHandOver, hlimit, hcount]

include hqueue hlit hticks hlimit

/-- The trip first: the lamp is TRIPPED, the count gone, and no failure follows (R94, R96). -/
theorem lampTickIn_trip_first (hthermal : s.cool.thermal = false) (hhot : s.stn.items.heatMax ≤ handedHeat (ticked false s)) :
    ∃ c, lampTickIn true false s =
        { s with
          lamp := (tickedLamp false s).handed.extinguish .tripped
          cool := c
          attn := derated s.cool.derateArmed c.ceiling (s.attn.raise .thermalTrip (handedHeat (ticked false s))) } ∧
      c.heat = handedHeat (ticked false s) ∧ c.thermal = true := by
  obtain ⟨c, htrip, hheat, hactive, -⟩ := handOver_trips_lit false hqueue hlit hticks hthermal hhot
  have hset : setLamp (tickedLamp false s) s = ticked false s := by
    rw [setLamp_of_empty _ _ hqueue, if_pos ((tickedLamp_lit false hlit).trans hlit.symm)]
    rfl
  have htripped : handOverThenFail false s = handOver (ticked false s) := by
    simp only [handOverThenFail, hset]
    exact if_neg (by rw [htrip]; exact nofun)
  exact ⟨c, by rw [lampTickIn, if_pos ⟨rfl, failsAtHandOver_tenth hticks hlimit⟩, htripped, htrip], hheat, hactive⟩

/-- The failure first: the lamp is FAILED and reported, and the trip leaves it so (R94, R97). -/
theorem lampTickIn_fail_first (hstn : s.stn.state = .active) (htripped : s.cool.tripped = false)
    (hhot : s.stn.items.heatMax ≤ handedHeat (failedFirst s)) :
    ∃ c, lampTickIn false false s =
        { s with
          lamp := ((tickedLamp false s).extinguish .failed).handed
          cool := c
          attn := derated s.cool.derateArmed c.ceiling
            ((s.attn.raise .lampFailed (tickedLamp false s).drive).raise .thermalTrip (handedHeat (failedFirst s))) } ∧
      c.heat = handedHeat (failedFirst s) ∧ c.thermal = true := by
  have hfan : fanWanted { s with lamp := (tickedLamp false s).extinguish .failed } = s.cool.heatStage := by
    rw [fanWanted_out (s := { s with lamp := (tickedLamp false s).extinguish .failed }) hstn rfl]
    simp [htripped]
  have honly : lampTickOnly false s = failedFirst s := by
    have hfails : lampTickOnly false s = failLamp (tickedLamp false s).drive (tickedLamp false s) s := if_pos hlimit
    rw [hfails, failLamp, setLamp_of_empty _ _ hqueue, if_neg (by rw [hlit]; exact nofun), chooseFan, hfan]
    rfl
  have hthermal : s.cool.thermal = false := Cooling.thermal_of_not_tripped htripped
  obtain ⟨c, htrip, hheat, hactive, -⟩ := handOver_trips (s := failedFirst s) (ticked_tenth false hticks) hqueue
    (by simpa [failedFirst] using hthermal) hhot rfl rfl
  have harmed : (failedFirst s).cool.derateArmed = s.cool.derateArmed := by simp [failedFirst]
  rw [harmed] at htrip
  exact ⟨c, by rw [lampTickIn, if_neg nofun, honly, htrip]; rfl, hheat, hactive⟩

/-- In either order THERMAL is active afterwards and the lamp is out (R94). -/
theorem lampTick_together (hstn : s.stn.state = .active) (htripped : s.cool.tripped = false) (hthermal : s.cool.thermal = false)
    (htrip : s.stn.items.heatMax ≤ handedHeat (ticked false s)) (hfail : s.stn.items.heatMax ≤ handedHeat (failedFirst s)) :
    (lampTick false s).cool.thermal = true ∧
    ((lampTick false s).lamp.state = .tripped ∨ (lampTick false s).lamp.state = .failed) := by
  rcases lampTick_cases false s with ⟨hapart, -⟩ | ⟨-, first, hfirst⟩
  · exact absurd (failsAtHandOver_tenth hticks hlimit) (ne_true_of_eq_false hapart)
  · rw [hfirst]
    cases first with
    | true =>
      obtain ⟨c, htick, -, hactive⟩ :=
        lampTickIn_trip_first (s := { s with openValues := s.openValues + 1 }) hqueue hlit hticks hlimit hthermal htrip
      rw [htick]
      exact ⟨hactive, .inl rfl⟩
    | false =>
      obtain ⟨c, htick, -, hactive⟩ :=
        lampTickIn_fail_first (s := { s with openValues := s.openValues + 1 }) hqueue hlit hticks hlimit hstn htripped hfail
      rw [htick]
      exact ⟨hactive, .inr rfl⟩

end

/-- Settles O42: the tenth tick of a lamp that is out, that is LIT, that is TRIPPED, and that reaches its failure limit. -/
theorem coolingTickUpdatesHeat : Obligations.CoolingTickUpdatesHeat := by
  unfold Obligations.CoolingTickUpdatesHeat
  refine ⟨fun current s hpower hstn hqueue hoff _ hstopped hticks hthermal hcold => ?_,
    fun current s hpower hstn hqueue hlit hticks hfail hthermal => ?_,
    fun current s hpower hstn hqueue hstate hstopped hticks hthermal => ?_,
    fun s hpower hstn hqueue hlit hticks hcount htripped _ => ?_⟩
  · have hout : s.lamp.burning = false := s.lamp.burning_eq_false_iff.mpr (by simp [hoff])
    obtain ⟨hkept, hinactive, hstage, -⟩ := cooledAfter_spec (heatTaken (tenthOut s))
    have hquiet := testThermal_quiet (s := heatTaken (tenthOut s)) hthermal hcold
    rw [exec_coolingTick_out current hpower hstn hqueue hout hstopped hticks]
    refine ⟨_, congrArg _ (handOver_quiet_undriven (s := tenthOut s) rfl hquiet rfl), hkept, ?_, ?_, hinactive.trans hthermal, ?_,
      cooledAfter_fan_out (s := heatTaken (tenthOut s)) hstn hout, rfl, rfl, rfl, rfl, rfl, hoff, rfl⟩
    · exact hstage.trans (by rw [hkept]; rfl)
    · rw [hkept]
      rfl
    · rw [hkept]
      rfl
  · rw [exec_coolingTick_lit current hpower hstn hqueue hlit hticks hfail]
    rcases Nat.lt_or_ge (handedHeat (ticked current s)) s.stn.items.heatMax with hcold | hhot
    · obtain ⟨hkept, hinactive, -⟩ := cooledAfter_spec (heatTaken (ticked current s))
      exact ⟨_, congrArg _ (handOver_quiet_lit current hlit hticks hthermal hcold), rfl, hkept, rfl, rfl, rfl,
        fun _ => ⟨hinactive.trans hthermal, tickedLamp_lit current hlit, rfl, rfl, rfl, rfl⟩,
        fun hhot => absurd hcold (Nat.not_lt.mpr hhot)⟩
    · obtain ⟨c, htrip, hheat, hactive, hfan, hceiling⟩ := handOver_trips_lit current hqueue hlit hticks hthermal hhot
      exact ⟨_, congrArg _ htrip, rfl, hheat, hceiling, rfl, rfl, fun hcold => absurd hcold (Nat.not_lt.mpr hhot),
        fun _ => ⟨hactive, hfan, rfl, rfl, rfl, rfl, rfl, rfl⟩⟩
  · have hout : s.lamp.burning = false := s.lamp.burning_eq_false_iff.mpr (by simp [hstate])
    rw [exec_coolingTick_out current hpower hstn hqueue hout hstopped hticks]
    rcases Nat.lt_or_ge (handedHeat (tenthOut s)) s.stn.items.heatResume with hcold | hhot
    · obtain ⟨l, c, hclear, hheat, hinactive, hlamp, hfan⟩ :=
        handOver_clears (s := tenthOut s) rfl hqueue hstn hthermal hstate rfl hcold
      exact ⟨_, congrArg _ hclear, rfl, hheat, rfl, fun _ => ⟨hinactive, hlamp, hfan⟩,
        fun hhot => absurd hcold (Nat.not_lt.mpr hhot)⟩
    · have hstands := testThermal_standing (s := heatTaken (tenthOut s)) hthermal hhot
      obtain ⟨hkept, hactive, -⟩ := cooledAfter_spec (heatTaken (tenthOut s))
      exact ⟨_, congrArg _ (handOver_quiet_undriven (s := tenthOut s) rfl hstands rfl), rfl, hkept, rfl,
        fun hcold => absurd hcold (Nat.not_lt.mpr hhot), fun _ => ⟨hactive.trans hthermal, hstate⟩⟩
  · intro l tripFirst failFirst hdrive
    have hlimit := tickedLamp_atLimit hlit hcount hdrive
    have hthermal : s.cool.thermal = false := Cooling.thermal_of_not_tripped htripped
    have hheatAfter : handedHeat (failedFirst s) = failFirst := handedHeat_failedFirst s
    rw [← hheatAfter]
    refine ⟨fun hhot => ?_, fun hhot => ?_, fun htrip hfail => ?_⟩
    · obtain ⟨c, htick, hheat, hactive⟩ := lampTickIn_trip_first hqueue hlit hticks hlimit hthermal hhot
      exact ⟨_, (exec_coolingTick false hpower hstn hticks).trans (congrArg _ htick), hheat, hactive, rfl, rfl, rfl, rfl⟩
    · obtain ⟨c, htick, hheat, hactive⟩ := lampTickIn_fail_first hqueue hlit hticks hlimit hstn htripped hhot
      exact ⟨_, (exec_lampFailed_active hpower hstn hlimit).trans (congrArg _ htick), hheat, hactive, rfl, rfl, rfl, rfl⟩
    · have hstanding : standbyTest (lampTick false s) = lampTick false s := standbyTest_of_not_coolingDown (by simp [hstn])
      exact ⟨_, by rw [exec_lampTick false hpower, hstanding],
        lampTick_together hqueue hlit hticks hlimit hstn htripped hthermal htrip hfail⟩

end Sys2Proof.Machine

-- ==== Sys2Proof/Proofs/TachAndCutout.lean ====
/-! PROOF. The tach gate, the spin-up timer and the cutout (R109 to R112): which gates are tested, what a test of each kind leaves, and the
trip and its release by a cutout level. -/

namespace Sys2Proof.Machine

/-! ### The tach gate -/

theorem gateTested_iff (c : Cooling) : gateTested c = true ↔ c.fanStage ≠ 0 ∧ c.spinUp = .elapsed ∧ c.stageChanged = false := by
  simp [gateTested, and_assoc]

/-- The gate's count becomes the last tach count (R109). -/
def gateTaken (s : State) : State := { s with cool := { s.cool with lastTach := s.cool.gateCount } }

/-- The next gate begins unmarked, at a count of 0 (R109). -/
def nextGate (s : State) : State := { s with cool := { s.cool with gateCount := 0, stageChanged := false } }

/-- The gate's count taken, with the FAN_STALL cause as its test leaves it (R111). -/
def stallTaken (stall : Bool) (s : State) : State :=
  { s with cool := { s.cool with lastTach := s.cool.gateCount, fanStall := stall } }

theorem endTachGate_eq (s : State) :
    endTachGate s =
      nextGate (if gateTested s.cool = true then stallTest s.cool.gateCount (gateTaken s) else gateTaken s) := rfl

/-- A gate that is not tested reports its count, and nothing else (R109). -/
theorem endTachGate_untested {s : State} (h : s.cool.fanStage = 0 ∨ s.cool.spinUp ≠ .elapsed ∨ s.cool.stageChanged = true) :
    endTachGate s = nextGate (gateTaken s) := by
  have huntested : ¬gateTested s.cool = true := by
    rw [gateTested_iff]
    rintro ⟨hruns, helapsed, hsame⟩
    rcases h with hstopped | hspins | hchanged
    · exact hruns hstopped
    · exact hspins helapsed
    · exact absurd hchanged (ne_true_of_eq_false hsame)
  rw [endTachGate_eq, if_neg huntested]

/-- A count whose test says what FAN_STALL says already is reported, and nothing else happens (R111). -/
theorem endTachGate_same {s : State} (h : s.cool.fanStall = true ↔ s.cool.gateCount < s.stn.items.tachMin s.cool.fanStage) :
    endTachGate s = nextGate (gateTaken s) := by
  have htest : stallTest s.cool.gateCount (gateTaken s) = gateTaken s := by
    unfold stallTest
    by_cases hlow : s.cool.gateCount < s.stn.items.tachMin s.cool.fanStage
    · simp [gateTaken, h.mpr hlow, hlow]
    · simp [gateTaken, mt h.mp hlow, hlow]
  rw [endTachGate_eq, htest, ite_self]

section
variable {s : State} (hruns : s.cool.fanStage ≠ 0) (helapsed : s.cool.spinUp = .elapsed) (hsame : s.cool.stageChanged = false)
include hruns helapsed hsame

theorem endTachGate_tested : endTachGate s = nextGate (stallTest s.cool.gateCount (gateTaken s)) := by
  rw [endTachGate_eq, if_pos ((gateTested_iff s.cool).mpr ⟨hruns, helapsed, hsame⟩)]

/-- A count below the minimum makes FAN_STALL active (R111, R114). -/
theorem endTachGate_stalls (hstall : s.cool.fanStall = false) (hlow : s.cool.gateCount < s.stn.items.tachMin s.cool.fanStage) :
    endTachGate s = nextGate (raise .fanStall (s.cool.fanStage * 256 + s.cool.gateCount) (tripsChanged (stallTaken true s))) := by
  rw [endTachGate_tested hruns helapsed hsame]
  simp [stallTest, gateTaken, stallTaken, hstall, hlow]

/-- A count that meets the minimum clears FAN_STALL (R111, R114). -/
theorem endTachGate_clears (hstall : s.cool.fanStall = true) (hmet : s.stn.items.tachMin s.cool.fanStage ≤ s.cool.gateCount) :
    endTachGate s = nextGate (tripsChanged (stallTaken false s)) := by
  rw [endTachGate_tested hruns helapsed hsame]
  simp [stallTest, gateTaken, stallTaken, hstall, Nat.not_lt.mpr hmet]

end

/-- A stall leaves the fan at 3 and the lamp out (R94, R95). -/
theorem tripsChanged_stalled {s : State} (hstage : s.cool.heatStage ≤ 3) :
    (tripsChanged (stallTaken true s)).cool.fanStall = true ∧ (tripsChanged (stallTaken true s)).cool.fanStage = 3 ∧
    (tripsChanged (stallTaken true s)).cool.lastTach = s.cool.gateCount ∧ (tripsChanged (stallTaken true s)).lamp.burning = false := by
  have htripped : (stallTaken true s).cool.tripped = true := by simp [stallTaken, Cooling.tripped]
  rw [tripsChanged_cool_eq, tripsChanged_lamp]
  exact ⟨by simp [stallTaken], tripsChosen_tripped hstage htripped, by simp [stallTaken], Lamp.meetTrips_out (.inl htripped)⟩

/-- The end of the last cause leaves the fan at the heat stage, and no lamp TRIPPED (R94, R107). -/
theorem tripsChanged_unstalled {s : State} (hqueue : s.tray.queue = []) (hout : s.lamp.burning = false) (hthermal : s.cool.thermal = false)
    (hcutout : s.cool.cutout = false) (hstn : s.stn.state = .active) :
    ∃ c, tripsChanged (stallTaken false s) =
        { s with lamp := if s.lamp.state = .tripped then s.lamp.extinguish .off else s.lamp, cool := c } ∧
      c.fanStall = false ∧ c.fanStage = s.cool.heatStage ∧ c.lastTach = s.cool.gateCount := by
  have hfree : (stallTaken false s).cool.tripped = false := by simp [stallTaken, Cooling.tripped, hthermal, hcutout]
  refine ⟨tripsChosen (stallTaken false s), ?_, by simp [stallTaken], tripsChosen_released hstn hout hfree, by simp [stallTaken]⟩
  rw [tripsChanged_of_empty (s := stallTaken false s) hqueue, hfree, ← Lamp.meetTrips_released hout]
  rfl

/-! ### The cutout (R112) -/

/-- The cutout cause as a level gives it (R112). -/
def cutoutTaken (opened : Bool) (s : State) : State := { s with cool := { s.cool with cutout := opened } }

theorem takeCutout_same (s : State) : takeCutout s.cool.cutout s = s := if_pos rfl

theorem takeCutout_opens {s : State} (h : s.cool.cutout = false) :
    takeCutout true s = raise .cutoutOpen 0 (tripsChanged (cutoutTaken true s)) := by
  simp [takeCutout, cutoutTaken, h]

theorem takeCutout_closes {s : State} (h : s.cool.cutout = true) : takeCutout false s = tripsChanged (cutoutTaken false s) := by
  simp [takeCutout, cutoutTaken, h]

/-- A new level has the fan chosen by the causes that are now active (R114). -/
theorem takeCutout_cool {opened : Bool} {s : State} (h : opened ≠ s.cool.cutout) :
    (takeCutout opened s).cool = tripsChosen (cutoutTaken opened s) := by
  cases opened with
  | true =>
    rw [takeCutout_opens (by simpa using h.symm), ← tripsChanged_cool_eq]
    rfl
  | false => rw [takeCutout_closes (by simpa using h.symm), tripsChanged_cool_eq]

/-! ### The commands -/

section
variable {s : State} (hpower : s.power = .running)
include hpower

theorem exec_fanTachPulse : exec .fanTachPulse s = .next (tachPulse s) := congrArg Host.Outcome.next (if_pos hpower)

theorem exec_tachGateEnd : exec .tachGateEnd s = .next (endTachGate s) := congrArg Host.Outcome.next (if_pos hpower)

theorem exec_cutoutChange (opened : Bool) : exec (.cutoutChange opened) s = .next (takeCutout opened s) :=
  congrArg Host.Outcome.next (if_pos hpower)

theorem exec_spinUpElapsed :
    exec .spinUpElapsed s =
      .next { s with cool := { s.cool with spinUp := if s.cool.spinUp = .running then .elapsed else s.cool.spinUp } } := by
  have helapse : exec .spinUpElapsed s = .next (elapseSpinUp s) := congrArg Host.Outcome.next (if_pos hpower)
  rw [helapse, elapseSpinUp]
  split <;> rfl

end

/-- Settles O43: the gate by the kinds of its test, then the cutout by its level. -/
theorem tachAndCutoutTrip : Obligations.TachAndCutoutTrip := by
  unfold Obligations.TachAndCutoutTrip
  refine ⟨fun s hpower => ?_, fun s hpower hqueue hstage => ?_⟩
  · rw [exec_tachGateEnd hpower]
    refine ⟨exec_fanTachPulse hpower, fun hquiet => ?_, fun hruns helapsed hsame hstall hlow hstage => ?_,
      fun _ _ _ hstall hlow => congrArg _ (endTachGate_same (iff_of_true hstall hlow)),
      fun hruns helapsed hsame hstall hmet hqueue hout hthermal hcutout hstn => ?_, exec_spinUpElapsed hpower⟩
    · rcases hquiet with huntested | ⟨hstall, hmet⟩
      · exact congrArg _ (endTachGate_untested huntested)
      · exact congrArg _ (endTachGate_same (iff_of_false (ne_true_of_eq_false hstall) (Nat.not_lt.mpr hmet)))
    · obtain ⟨hactive, hfan, htach, hdark⟩ := tripsChanged_stalled hstage
      exact ⟨_, congrArg _ (endTachGate_stalls hruns helapsed hsame hstall hlow), hactive, hfan, hdark, htach, rfl, rfl⟩
    · obtain ⟨c, hcleared, hinactive, hfan, htach⟩ := tripsChanged_unstalled hqueue hout hthermal hcutout hstn
      exact ⟨_, congrArg _ ((endTachGate_clears hruns helapsed hsame hstall hmet).trans (congrArg nextGate hcleared)),
        rfl, hinactive, hfan, htach, rfl, rfl, rfl⟩
  · refine ⟨fun hclosed hburning _ => ?_, fun hopen hthermal hstall hstate => ?_, fun hstall opened hne => ?_, ?_⟩
    · have htripped : (cutoutTaken true s).cool.tripped = true := by simp [cutoutTaken, Cooling.tripped]
      have hlamp := Lamp.meetTrips_of_burning hburning
      refine ⟨_, by rw [exec_cutoutChange hpower, takeCutout_opens hclosed,
        tripsChanged_of_empty (s := cutoutTaken true s) hqueue, htripped], hlamp, ?_,
        tripsChosen_tripped (s := cutoutTaken true s) hstage htripped, rfl, rfl⟩
      simp [cutoutTaken]
    · have hfree : (cutoutTaken false s).cool.tripped = false := by simp [cutoutTaken, Cooling.tripped, hthermal, hstall]
      have hlamp := Lamp.meetTrips_of_tripped hstate false
      refine ⟨_, by rw [exec_cutoutChange hpower, takeCutout_closes hopen,
        tripsChanged_of_empty (s := cutoutTaken false s) hqueue, hfree], hlamp, ?_, rfl⟩
      simp [cutoutTaken]
    · have hcool := takeCutout_cool hne
      have hmarked : (takeCutout opened s).cool.stageChanged = true := by
        rw [hcool]
        exact tripsChosen_marked hstall
      have hruns : (takeCutout opened s).power = .running := by simpa using hpower
      refine ⟨_, exec_cutoutChange hpower opened, by simp [hcool, cutoutTaken], hmarked, ?_,
        (exec_tachGateEnd hruns).trans (congrArg _ (endTachGate_untested (.inr (.inr hmarked))))⟩
      rw [hcool]
      exact tripsChosen_tripped hstage (by simp [cutoutTaken, Cooling.tripped, hstall])
    · rw [exec_cutoutChange hpower, takeCutout_same]

end Sys2Proof.Machine

-- ==== Sys2Proof/Proofs/DeckRules.lean ====
/-! PROOF. What the events of the Tape Deck Controller do: cassette, brake timer and reel silence in every deck state (R123, R125, R131), the
decoder gate (R133), the reel pulses (R129, R130), and the sound ticks (R136). -/

namespace Sys2Proof.Machine

/-! ### The deck's operations -/

theorem expireBrake_braking {s : State} {m : Pending} {coast : Coast} (h : s.deck.state = .braking m coast) :
    expireBrake s = inDeckState (m.enters s.deck.counter) s := by
  rw [expireBrake, h]
  rfl

theorem expireBrake_not_braking {s : State} (h : s.deck.state.isBraking = false) : expireBrake s = s := by
  unfold expireBrake
  split
  · next m coast hstate => simp [hstate, DeckState.isBraking] at h
  · rfl

theorem takeCassette_no_deck {s : State} (h : s.stn.strapDeck = false) (present : Bool) : takeCassette present s = s := if_pos h

/-- With a deck a level that differs from the one taken moves the cassette, and the counter starts at 0 (R123). -/
theorem takeCassette_deck {s : State} (h : s.stn.strapDeck = true) (present : Bool) :
    takeCassette present s =
      if present = true then
        (if s.deck.state = .noCassette then
          { inDeckState .stopped s with deck := { (inDeckState .stopped s).deck with counter := 0 } }
        else s)
      else (if s.deck.state = .noCassette then s else inDeckState .noCassette s) := if_neg (by simp [h])

/-- The counter in its new value; where that ends a rewind to zero, the deck brakes to STOPPED (R130). -/
theorem setCounter_eq (n : Nat) (s : State) :
    setCounter n s =
      if n = 0 ∧ s.deck.state = .windingRev true then
        inDeckState (.braking .stopped .backward) { s with deck := { s.deck with counter := n } }
      else { s with deck := { s.deck with counter := n } } := by
  refine ite_congr rfl (fun ⟨_, hstate⟩ => ?_) fun _ => rfl
  simp only [brakeTo, hstate]
  rfl

theorem setCounter_free {n : Nat} {s : State} (h : n ≠ 0 ∨ s.deck.state ≠ .windingRev true) :
    setCounter n s = { s with deck := { s.deck with counter := n } } := by
  rw [setCounter_eq, if_neg (by tauto)]

/-- The end of a motion mode stops the deck, and is reported with that mode's detail (R131). -/
theorem expireReel_eq (s : State) :
    expireReel s =
      if s.deck.state.moving = true then
        { inDeckState .stopped s with attn := s.attn.raise .tapeEnd (tapeEndDetail s.deck.state) }
      else s := rfl

/-- The gate opens where its timer runs in PLAYING (R133). -/
theorem openDecoderGate_eq (s : State) :
    openDecoderGate s =
      if s.deck.gateTimer = true ∧ s.deck.state = .playing then
        { s with
          deck := { s.deck with gateTimer := false, gateOpen := true }
          dec := s.dec.openGate s.stn.items.tapeCueMode }
      else s := rfl

/-! ### The deck's commands, on a part that runs -/

section
variable {s : State} (hpower : s.power = .running)
include hpower

theorem exec_reelPulse : exec .reelPulse s = .next (reelPulse s) := congrArg Host.Outcome.next (if_pos hpower)

theorem exec_decoderGateOpen : exec .decoderGateOpen s = .next (openDecoderGate s) := congrArg Host.Outcome.next (if_pos hpower)

theorem exec_soundTick : exec .soundTick s = .next (soundTick s) := congrArg Host.Outcome.next (if_pos hpower)

theorem exec_soundRampEnd : exec .soundRampEnd s = .next (if soundRampEnds s = true then soundTick s else s) :=
  congrArg Host.Outcome.next (if_pos hpower)

/-- A CASSETTE level, the brake timer and the reel silence timer: what each leaves is tested for standby (R168). -/
theorem cassetteChange_leaves {present : Bool} {t : State} (h : takeCassette present s = t) : EventLeaves (.cassetteChange present) s t :=
  h ▸ eventLeaves_of_exec (congrArg Host.Outcome.next (if_pos hpower)) (by simp [hpower]) (by simp)

theorem brakeTimerExpiry_leaves {t : State} (h : expireBrake s = t) : EventLeaves .brakeTimerExpiry s t :=
  h ▸ eventLeaves_of_exec (congrArg Host.Outcome.next (if_pos hpower)) (by simp [hpower]) (by simp)

theorem reelSilenceExpiry_leaves {t : State} (h : expireReel s = t) : EventLeaves .reelSilenceExpiry s t :=
  h ▸ eventLeaves_of_exec (congrArg Host.Outcome.next (if_pos hpower)) (by simp [hpower]) (by simp)

end

/-! ### Reel pulses (R129, R130) -/

section
variable {s : State}

/-- A pulse with the tape going forward, under drive or coasting (R129). -/
theorem reelPulse_forward (h : s.deck.state = .playing ∨ s.deck.state = .windingFwd ∨ ∃ m, s.deck.state = .braking m .forward) :
    reelPulse s = { s with deck := { s.deck with counter := min 65535 (s.deck.counter + 1) } } := by
  have hcount : reelPulse s = setCounter (min 65535 (s.deck.counter + 1)) s := by
    unfold reelPulse
    rcases h with h | h | ⟨m, h⟩ <;> rw [h] <;> rfl
  rw [hcount, setCounter_free (.inl (by omega))]

/-- A pulse with the tape going backward, under drive or coasting (R129). -/
theorem reelPulse_backward (h : (∃ toZero, s.deck.state = .windingRev toZero) ∨ ∃ m, s.deck.state = .braking m .backward) :
    reelPulse s = setCounter (s.deck.counter - 1) s := by
  unfold reelPulse
  rcases h with ⟨toZero, h⟩ | ⟨m, h⟩ <;> rw [h]

/-- A pulse with the tape at rest counts nothing (R129). -/
theorem reelPulse_still (h : s.deck.state = .stopped ∨ s.deck.state = .noCassette ∨ (∃ hold, s.deck.state = .paused hold) ∨
    ∃ m, s.deck.state = .braking m .still) : reelPulse s = s := by
  unfold reelPulse
  rcases h with h | h | ⟨hold, h⟩ | ⟨m, h⟩ <;> rw [h]

end

/-- Settles O44, event by event. -/
theorem deckEventsMoveDeck : Obligations.DeckEventsMoveDeck := by
  unfold Obligations.DeckEventsMoveDeck
  refine ⟨fun s hpower => ?_, fun s hpower => ?_⟩
  · have hcassette : ∀ {b t}, takeCassette b s = t → EventLeaves (.cassetteChange b) s t := cassetteChange_leaves hpower
    have hgate := exec_decoderGateOpen hpower
    refine ⟨fun hstrap => ⟨fun hno => ?_, fun hin => ?_⟩, fun hstrap b => hcassette (takeCassette_no_deck hstrap b), fun m coast hstate => ?_,
      fun hstate => brakeTimerExpiry_leaves hpower (expireBrake_not_braking hstate), ?_,
      fun hplaying htimer => ?_, fun hidle => ?_⟩
    · exact ⟨hcassette (by rw [takeCassette_deck hstrap, if_pos rfl, if_pos hno]),
        hcassette (by rw [takeCassette_deck hstrap, if_neg nofun, if_pos hno])⟩
    · exact ⟨hcassette (by rw [takeCassette_deck hstrap, if_neg nofun, if_neg hin]),
        hcassette (by rw [takeCassette_deck hstrap, if_pos rfl, if_neg hin])⟩
    · refine brakeTimerExpiry_leaves hpower ((expireBrake_braking hstate).trans ?_)
      cases m <;> rfl
    · refine reelSilenceExpiry_leaves hpower ((expireReel_eq s).trans ?_)
      rcases s.deck.state with _ | _ | _ | _ | _ | _ | toZero
      case windingRev => cases toZero <;> rfl
      all_goals rfl
    · rw [hgate, openDecoderGate_eq, if_pos ⟨htimer, hplaying⟩]
    · rw [hgate, openDecoderGate_eq, if_neg]
      rcases hidle with h | h <;> simp [h]
  · rw [exec_reelPulse hpower]
    refine ⟨fun h => by rw [reelPulse_forward h], fun h => ?_, fun h hcounter => ?_, fun h hcounter hgate => ?_,
      fun h => by rw [reelPulse_still h]⟩
    · have hfree : s.deck.state ≠ .windingRev true := by rcases h with h | ⟨m, h⟩ <;> simp [h]
      rw [reelPulse_backward (h.imp_left fun h => ⟨false, h⟩), setCounter_free (.inr hfree)]
    · rw [reelPulse_backward (.inl ⟨true, h⟩), setCounter_free (.inl (by omega))]
    · rw [reelPulse_backward (.inl ⟨true, h⟩), setCounter_eq, if_pos ⟨by omega, h⟩, hcounter]
      simp [inDeckState, hgate]

/-! ### Sound ticks (R136) -/

theorem soundTick_stands {s : State} (h : rampStands s.deck.ramp s = true) : soundTick s = s := if_pos h

theorem soundTick_steps {s : State} (h : rampStands s.deck.ramp s = false) :
    soundTick s = { s with deck := { s.deck with ramp := s.deck.ramp.step.1, volume := s.deck.ramp.step.2 } } :=
  if_neg (ne_true_of_eq_false h)

theorem Ramp.lastTick_iff (r : Ramp) : r.lastTick = true ↔ r.length = 0 ∨ r.target = r.start ∨ r.count + 1 = r.length := by
  simp [Ramp.lastTick, Ramp.isStep, or_assoc]

/-- Settles O45, by whether the ramp stands. -/
theorem soundTickStepsVolume : Obligations.SoundTickStepsVolume := by
  unfold Obligations.SoundTickStepsVolume
  intro s hpower
  rw [exec_soundTick hpower, exec_soundRampEnd hpower]
  refine ⟨fun hrunning hfree => ?_, fun hstops => ?_⟩
  · have hsteps : rampStands s.deck.ramp s = false := by
      rw [← Bool.not_eq_true, rampStands_iff, hrunning]
      simpa using hfree
    refine ⟨by rw [soundTick_steps hsteps], fun hlast => ?_⟩
    have hends : soundRampEnds s = true := by simp [soundRampEnds, hsteps, s.deck.ramp.lastTick_iff.mpr hlast]
    obtain ⟨hvalue, hstopped, -⟩ := Ramp.step_last hlast
    rw [if_pos hends, soundTick_steps hsteps]
    exact ⟨_, rfl, hvalue, hstopped, rfl⟩
  · have hstands : rampStands s.deck.ramp s = true := (rampStands_iff _ s).mpr hstops
    have hno : soundRampEnds s = false := by simp [soundRampEnds, hstands]
    rw [soundTick_stands hstands, if_neg (ne_true_of_eq_false hno)]
    exact ⟨rfl, rfl⟩

end Sys2Proof.Machine

-- ==== Sys2Proof/Proofs/DeckLaws.lean ====
/-! PROOF. The law of deck and decoder (R129, R133, R134, R140): the deck's own operations keep it, the sound ramp does, and so does a
decoder that neither leaves nor enters CLOSED by itself. -/

namespace Sys2Proof.Machine

/-! ### What the law speaks of -/

/-- The two states differ in nothing that the deck's law speaks of. -/
def SameDeck (s t : State) : Prop := t.deck = s.deck ∧ t.dec = s.dec ∧ t.stn.strapDeck = s.stn.strapDeck

theorem SameDeck.refl (s : State) : SameDeck s s := ⟨rfl, rfl, rfl⟩

theorem DeckLaw.of_same {s t : State} (h : DeckLaw s) (hsame : SameDeck s t) : DeckLaw t := by
  obtain ⟨hdeck, hdec, hstrap⟩ := hsame
  rwa [DeckLaw, hdeck, hdec, hstrap]

@[simp] theorem noticeConfig_strapDeck (s : State) : (noticeConfig s).stn.strapDeck = s.stn.strapDeck := by
  unfold noticeConfig
  split <;> rfl

@[simp] theorem enterActive_strapDeck (s : State) : (enterActive s).stn.strapDeck = s.stn.strapDeck := by simp [enterActive]

@[simp] theorem standbyTest_strapDeck (s : State) : (standbyTest s).stn.strapDeck = s.stn.strapDeck := by
  unfold standbyTest
  split <;> rfl

@[simp] theorem takeWake_strapDeck (s : State) : (takeWake s).stn.strapDeck = s.stn.strapDeck := by
  unfold takeWake
  split <;> simp

@[simp] theorem endWrite_strapDeck (s : State) : (endWrite s).stn.strapDeck = s.stn.strapDeck := by
  unfold endWrite
  split <;> rfl

/-! ### The deck's own operations -/

namespace DeckLaw

variable {s : State} (h : DeckLaw s)
include h

theorem counter_le : s.deck.counter ≤ Config.top16 := by
  obtain ⟨hcounter, -⟩ := h
  exact hcounter

theorem volume_le : s.deck.volume ≤ 31 := by
  obtain ⟨-, hvolume, -⟩ := h
  exact hvolume

theorem ramp_within : s.deck.ramp.within 31 := by
  obtain ⟨-, -, hramp, -⟩ := h
  exact hramp

/-- A deck state is entered by the law, a cassette's only where there is a deck (R123, R133). -/
theorem enters {d : DeckState} (hd : s.stn.strapDeck = false → d = .noCassette) : DeckLaw (inDeckState d s) := by
  obtain ⟨hcounter, hvolume, hramp, -, -, -, hdec⟩ := h
  refine ⟨hcounter, hvolume, hramp, hd, nofun, of_decide_eq_true, ?_⟩
  cases hgate : s.deck.gateOpen
  · simpa [inDeckState, hgate] using hdec
  · simp [inDeckState, hgate, Decoder.closeGate, Decoder.restart]

theorem enters_of_cassette (hcassette : s.deck.state ≠ .noCassette) (d : DeckState) : DeckLaw (inDeckState d s) :=
  h.enters fun hno => absurd (h.strapDeck hcassette) (by simp [hno])

theorem counts {n : Nat} (hn : n ≤ Config.top16) : DeckLaw { s with deck := { s.deck with counter := n } } := by
  obtain ⟨-, hrest⟩ := h
  exact ⟨hn, hrest⟩

theorem sounds {r : Ramp} {v : Nat} (hr : r.within 31) (hv : v ≤ 31) :
    DeckLaw { s with deck := { s.deck with ramp := r, volume := v } } := by
  obtain ⟨hcounter, -, -, hrest⟩ := h
  exact ⟨hcounter, hv, hr, hrest⟩

/-- The decoder may do what it will, so long as it neither leaves nor enters CLOSED (R140). -/
theorem decodes {d : Decoder} (hd : d.state = .closed ↔ s.dec.state = .closed) : DeckLaw { s with dec := d } := by
  obtain ⟨hcounter, hvolume, hramp, hstrap, hgate, htimer, hdec⟩ := h
  exact ⟨hcounter, hvolume, hramp, hstrap, hgate, htimer, (not_congr hd).trans hdec⟩

theorem brakeTo (m : Pending) : DeckLaw (brakeTo m s) := by
  by_cases hcassette : s.deck.state = .noCassette
  · simpa [Machine.brakeTo, hcassette] using h
  · rw [brakeTo_eq h.gateInPlaying hcassette]
    exact h.enters_of_cassette hcassette _

theorem tapeStop : DeckLaw (tapeStop s) := by
  unfold Machine.tapeStop
  split
  case h_1 | h_2 => exact h
  all_goals exact h.brakeTo .stopped

theorem setCounter {n : Nat} (hn : n ≤ Config.top16) : DeckLaw (setCounter n s) := by
  rw [setCounter_eq]
  split
  · next hzero =>
    obtain ⟨-, hrewinds⟩ := hzero
    exact (h.counts hn).enters_of_cassette (by simp [hrewinds]) _
  · exact h.counts hn

theorem tapeCommand (m : TapeMode) : DeckLaw (tapeCommand m s) := by
  by_cases hcassette : s.deck.state = .noCassette
  · have hcount : Machine.tapeCommand m s = count .notApplicable s := if_pos (.inr hcassette)
    rw [hcount]
    exact h.of_same (.refl s)
  · have hstrap := h.strapDeck hcassette
    have hown : Machine.tapeCommand m s = _ := if_neg (by simp [hstrap, hcassette])
    have hmode := tapeCommand_mode h.gateInPlaying hcassette hstrap (m := m)
    cases m with
    | zeroCounter =>
      rw [hown]
      exact h.setCounter (Nat.zero_le _)
    | rewToZero =>
      rw [hown]
      by_cases hcounter : 0 < s.deck.counter
      · rw [tapeRewToZero_pos h.gateInPlaying hcassette hcounter]
        exact (h.enters_of_cassette hcassette _).of_same (.refl _)
      · rw [tapeRewToZero, if_pos (by omega)]
        exact h.tapeStop
    | stop | play | pause | rewind | windFwd =>
      rw [hmode nofun nofun]
      cases modeTable _ s.deck.state with
      | none => exact h
      | some d => exact (h.enters_of_cassette hcassette d).of_same (.refl _)

theorem deckHold : DeckLaw (deckHold s) := by
  unfold Machine.deckHold
  split
  · next hstate => exact h.enters_of_cassette (by simp [hstate]) _
  · exact h.brakeTo .pausedHold
  · exact h

theorem deckResume : DeckLaw (deckResume s) := by
  unfold Machine.deckResume
  split
  · next hstate => exact h.enters_of_cassette (by simp [hstate]) _
  · exact h.brakeTo .playing
  · exact h

theorem expireBrake : DeckLaw (expireBrake s) := by
  unfold Machine.expireBrake
  split
  · next hstate => exact h.enters_of_cassette (by simp [hstate]) _
  · exact h

theorem expireReel : DeckLaw (expireReel s) := by
  rw [expireReel_eq]
  split
  · next hmoving =>
    have hcassette : s.deck.state ≠ .noCassette := fun hno => by simp [hno, DeckState.moving] at hmoving
    exact (h.enters_of_cassette hcassette .stopped).of_same (.refl _)
  · exact h

theorem reelPulse : DeckLaw (reelPulse s) := by
  have hup : min Config.top16 (s.deck.counter + 1) ≤ Config.top16 := Nat.min_le_left _ _
  have hdown : s.deck.counter - 1 ≤ Config.top16 := (Nat.sub_le _ _).trans h.counter_le
  unfold Machine.reelPulse
  split
  case h_1 | h_2 | h_3 => exact h.setCounter hup
  case h_4 | h_5 => exact h.setCounter hdown
  case h_6 => exact h

theorem openDecoderGate : DeckLaw (openDecoderGate s) := by
  rw [openDecoderGate_eq]
  split
  · next hopens =>
    obtain ⟨-, hplaying⟩ := hopens
    obtain ⟨hcounter, hvolume, hramp, hstrap, -⟩ := h
    refine ⟨hcounter, hvolume, hramp, hstrap, fun _ => hplaying, nofun, ?_⟩
    cases s.stn.items.tapeCueMode <;> simp [Decoder.openGate, Decoder.restart, startState]
  · exact h

theorem takeCassette (present : Bool) : DeckLaw (takeCassette present s) := by
  cases hstrap : s.stn.strapDeck with
  | false => rwa [takeCassette_no_deck hstrap]
  | true =>
    have henters : ∀ d, DeckLaw (inDeckState d s) := fun d => h.enters (by simp [hstrap])
    rw [takeCassette_deck hstrap]
    split
    · split
      · exact (henters .stopped).counts (Nat.zero_le _)
      · exact h
    · split
      · exact h
      · exact henters .noCassette

/-! ### Sound (R134 to R136) -/

theorem requestSound {volume : Nat} (hvolume : volume ≤ 31) (tenths : Nat) (o : Origin) : DeckLaw (requestSound volume tenths o s) :=
  h.sounds (Ramp.begin_within h.volume_le hvolume (tenths * 10) o) h.volume_le

theorem soundTick : DeckLaw (soundTick s) := by
  cases hstands : rampStands s.deck.ramp s with
  | true => rwa [soundTick_stands hstands]
  | false =>
    have hrunning : s.deck.ramp.running = true := by
      by_contra hno
      exact ne_true_of_eq_false hstands ((rampStands_iff _ s).mpr (.inl (by simpa using hno)))
    obtain ⟨hramp, hvolume⟩ := Ramp.step_within h.ramp_within hrunning
    rw [soundTick_steps hstands]
    exact h.sounds hramp hvolume

theorem cancelSound : DeckLaw (cancelSound s) := by
  obtain ⟨hstart, htarget, hcount, -⟩ := h.ramp_within
  exact h.sounds ⟨hstart, htarget, hcount, nofun⟩ h.volume_le

theorem deckMainsLoss : DeckLaw (deckMainsLoss s) := by
  unfold Machine.deckMainsLoss
  split
  · exact h.cancelSound
  · next hcassette => exact (h.enters_of_cassette hcassette .stopped).cancelSound

end DeckLaw

end Sys2Proof.Machine

-- ==== Sys2Proof/Proofs/DeckSteps.lean ====
/-! PROOF. The laws of list and deck from state to state, through steps and cues, station states, resets, the tape's samples and the
pendant, up to every command and every step. -/

namespace Sys2Proof.Machine

open Sys2Proof (Byte Key KeySamples Instr Straps Readings)

/-! ### From one state to another -/

/-- The deck's law with the list's: a record that comes due carries a volume that the list's law bounds (R25, R44). -/
def DeckLaws (s : State) : Prop := ScheduleLaw s ∧ DeckLaw s

/-- What leads from `s` to `t` keeps the laws of list and deck. -/
abbrev DeckKept (s t : State) : Prop := Kept DeckLaws s t

section
variable {s t : State}

theorem Kept.deck_lawful (hsched : ScheduleKept s t) (hdeck : DeckLaw s → DeckLaw t) : DeckKept s t :=
  fun ⟨hlist, hlaw⟩ => ⟨hsched hlist, hdeck hlaw⟩

theorem Kept.deck_of_disp (hdisp : t.disp = s.disp) (hdeck : DeckLaw s → DeckLaw t) : DeckKept s t := .deck_lawful (.of_disp hdisp) hdeck

theorem Kept.deck_beside (hsame : SameDeck s t) (hsched : ScheduleKept s t) : DeckKept s t := .deck_lawful hsched (·.of_same hsame)

theorem Kept.deck_apart (hsame : SameDeck s t) (hdisp : t.disp = s.disp) : DeckKept s t := .deck_beside hsame (.of_disp hdisp)

theorem Kept.deck_decodes {d : Decoder} (hd : d.state = .closed ↔ s.dec.state = .closed) : DeckKept s { s with dec := d } :=
  .deck_of_disp rfl (·.decodes hd)

/-- An open decoder in another open state (R140). -/
theorem Kept.deck_reads {d : Decoder} (hopen : s.dec.state ≠ .closed) (hd : d.state ≠ .closed) : DeckKept s { s with dec := d } :=
  .deck_decodes (iff_of_false hd hopen)

end

/-! ### Steps and cues -/

/-- A volume as clamped fits its five bits (R25). -/
theorem volume_le_of_clamped {st : Step} (hclamp : clampArg st.verb st.a = st.a) (hverb : st.verb = .sound) : st.a ≤ 31 := by
  rw [hverb] at hclamp
  exact hclamp ▸ Nat.min_le_right st.a 31

/-- A step with its arguments clamped, taken by its owner (R41). -/
theorem routeStep_deckKept {st : Step} (hclamp : clampArg st.verb st.a = st.a) (o : Origin) (s : State) :
    DeckKept s (routeStep st o s) := by
  have hmove : ∀ k dark, DeckKept s (offerMove k dark o s) := fun k dark => .deck_apart (by simp [SameDeck]) (by simp)
  have hdemand : ∀ d, DeckKept s (setDemand d s) := fun d => .deck_apart (.refl s) rfl
  unfold routeStep
  split
  case h_1 | h_11 => exact .refl s
  case h_2 | h_3 => exact .ite (.refl s) (hmove _ _)
  case h_4 | h_5 => exact hmove _ _
  case h_6 => exact .ite (hdemand _) (.ite (hdemand _) (.refl s))
  case h_7 | h_8 => exact .deck_apart (by simp [SameDeck]) (by simp)
  case h_9 hverb => exact .deck_of_disp rfl (·.requestSound (volume_le_of_clamped hclamp hverb) st.b o)
  case h_10 =>
    split
    · exact .deck_of_disp (by simp) (·.tapeCommand _)
    · exact .refl s

theorem recordCue_deckKept (cue : Nat) (src : CueSource) (s : State) : DeckKept s (recordCue cue src s) :=
  .deck_beside (.refl s) (recordCue_kept cue src s)

theorem expandStep_deckKept (cue : Nat) (s : State) (p : PoolStep) : DeckKept s (expandStep cue s p) := by
  unfold expandStep
  split
  · exact .refl s
  · next st hst =>
    obtain ⟨-, hclamp, -, -⟩ := Step.sound_of_ofBytes hst
    have hentry := schedule_kept (entryRecord_sound hst p.delay cue) s
    exact .ite (routeStep_deckKept hclamp .ofShow s) (.deck_beside (by simp [SameDeck]) hentry)

theorem loadedCue_deckKept (cue : Nat) (src : CueSource) (s : State) : DeckKept s (loadedCue cue src s) :=
  .ite (.deck_apart (.refl s) rfl) ((recordCue_deckKept cue src s).trans (.foldl (expandStep_deckKept cue) _ _))

theorem stepCue_deckKept (cue : Nat) {v : Verb} (hv : v = .advance ∨ v = .reverse) (src : CueSource) (s : State) :
    DeckKept s (stepCue cue v src s) := by
  have hsound : Record.sound ⟨0, v, 1, 0, cue⟩ := by
    rcases hv with rfl | rfl <;> exact ⟨rfl, rfl, by simp, by simp, by simp⟩
  obtain ⟨-, hclamp, -⟩ := id hsound
  exact (recordCue_deckKept cue src s).trans <|
    .ite (routeStep_deckKept (st := ⟨v, 1, 0⟩) hclamp .ofShow _) (.deck_beside (by simp [SameDeck]) (schedule_kept hsound _))

theorem endOfShow_deckKept (s : State) : DeckKept s (endOfShow s) := by
  have hempty : DeckKept s (emptySchedule s) := .deck_beside (.refl s) (.of_empty rfl)
  have hstop : ∀ t, DeckKept t (routeStep ⟨.tape, 1, 0⟩ .ofShow t) := routeStep_deckKept rfl .ofShow
  have hdark : ∀ t, DeckKept t (routeStep ⟨.lamp, 0, 20⟩ .ofShow t) := routeStep_deckKept rfl .ofShow
  exact hempty.trans ((hstop _).trans (hdark _))

theorem holdEvent_deckKept (s : State) : DeckKept s (holdEvent s) := by
  have hheld : DeckKept s { s with stn := { s.stn with showState := .held } } := .deck_apart (.refl s) rfl
  exact .ite (hheld.trans (.deck_of_disp (by simp) (·.deckHold))) (.refl s)

theorem resumeShow_deckKept (s : State) : DeckKept s (resumeShow s) := by
  have hruns : DeckKept s { s with stn := { s.stn with showState := .running } } := .deck_apart (.refl s) rfl
  exact hruns.trans (.deck_of_disp (by simp) (·.deckResume))

/-- A cue arrival keeps the laws if what a RESUME does keeps them (R36 to R40). -/
theorem cueArrivalWith_deckKept {resume : State → State} (hresume : ∀ s, DeckKept s (resume s)) (cue : Nat) (src : CueSource)
    (s : State) : DeckKept s (cueArrivalWith resume cue src s) := by
  have hrecord := recordCue_deckKept cue src s
  have hcount : ∀ k, DeckKept s (count k s) := fun k => .deck_apart (.refl s) rfl
  have hcommit : DeckKept s (commitCue src s) := .deck_beside (by simp [SameDeck]) (commitCue_kept src s)
  exact .ite (hcount _) <| .ite (hcount _) <| .ite (loadedCue_deckKept cue src s) <| .ite (hrecord.trans (holdEvent_deckKept _)) <|
    .ite (hrecord.trans (hresume _)) <| .ite hcommit <| .ite (hrecord.trans (endOfShow_deckKept _)) <|
    .ite (hrecord.trans (routeStep_deckKept (st := ⟨.home, 0, 0⟩) rfl .ofShow _)) <|
    .ite (stepCue_deckKept cue (.inl rfl) src s) <| .ite (stepCue_deckKept cue (.inr rfl) src s) (hcount _)

/-- A record that is due has its volume clamped by the list's law (R46, R47). -/
theorem routeDueUpTo_deckKept (n : Nat) (s : State) : DeckKept s (routeDueUpTo n s) := by
  induction n generalizing s with
  | zero => exact .refl s
  | succ n ih =>
    unfold routeDueUpTo
    split
    · exact .refl s
    · next r rest hrest =>
      have htail : DeckKept s { s with disp := { s.disp with schedule := rest } } :=
        .deck_beside (.refl s) (.of_sublist (by rw [hrest]; exact List.sublist_cons_self r rest))
      refine .ite (fun hs => ?_) (.refl s)
      obtain ⟨⟨-, -, hsound⟩, -⟩ := id hs
      obtain ⟨-, hclamp, -⟩ := hsound r (by rw [hrest]; exact List.mem_cons_self)
      have hrecord : ∀ t, DeckKept t (routeRecord r t) := fun t =>
        .ite (cueArrivalWith_deckKept .refl r.a .follow t) (routeStep_deckKept (st := ⟨r.verb, r.a, r.b⟩) hclamp .ofShow t)
      exact (htail.trans ((hrecord _).trans (ih _))) hs

theorem resumeEvent_deckKept (s : State) : DeckKept s (resumeEvent s) :=
  .ite ((resumeShow_deckKept s).trans (routeDueUpTo_deckKept _ _)) (.refl s)

theorem cueArrival_deckKept (cue : Nat) (src : CueSource) (s : State) : DeckKept s (cueArrival cue src s) :=
  cueArrivalWith_deckKept resumeEvent_deckKept cue src s

theorem showTick_deckKept (s : State) : DeckKept s (showTick s) := by
  have htick : DeckKept s (tickRecords s) := .deck_beside (.refl s) (tickRecords_kept s)
  exact .ite (htick.trans (routeDueUpTo_deckKept _ _)) (.refl s)

theorem directStep_deckKept (verb a b : Byte) (s : State) : DeckKept s (directStep verb a b s) := by
  unfold directStep
  split
  · exact .refl s
  · next st hst =>
    obtain ⟨-, hclamp, -, -⟩ := Step.sound_of_ofBytes hst
    exact .ite (cueArrival_deckKept _ .follow s) (routeStep_deckKept hclamp .direct s)

/-! ### Station states and configuration -/

theorem standbyTest_deckKept (s : State) : DeckKept s (standbyTest s) := .deck_apart (by simp [SameDeck]) (by simp)

/-- The test of the standby condition after an event leaves the laws alone (R168). -/
theorem Kept.deck_tested {s t : State} (h : DeckKept s t) : DeckKept s (standbyTest t) := h.trans (standbyTest_deckKept t)

theorem closeConfiguration_deckKept (s : State) : DeckKept s (closeConfiguration s) :=
  .deck_beside (by simp [SameDeck, closeConfiguration, lockConfiguration]) (closeConfiguration_kept s)

theorem takeStandby_deckKept (s : State) : DeckKept s (takeStandby s) := by
  have hlock : DeckKept s (lockConfiguration s) := .deck_beside (.refl s) (lockConfiguration_kept s)
  have hblocks : ∀ t : State, DeckKept t (chooseFan (tellLampAndTray Lamp.coolDown Transport.flush (stopSilence { t with
      stn := { t.stn with state := .coolingDown, showState := .none, window := .off }, cool := fanBeforeCoolingDown t }))) := fun t =>
    .deck_apart (by simp [SameDeck]) (by simp)
  have hdeck : ∀ t, DeckKept t (emptySchedule (cancelSound (tapeStop t))) := fun t =>
    .deck_lawful (.of_empty rfl) fun h => h.tapeStop.cancelSound.of_same (.refl _)
  have hcooling : ∀ t, DeckKept t (enterCoolingDown t) := fun t => (hblocks t).trans (hdeck _)
  have hclosed : DeckKept s (if s.stn.state = .configuring then lockConfiguration s else s) := .ite hlock (.refl s)
  exact (hclosed.trans (hcooling _)).deck_tested

theorem mainsWarnOn_deckKept (s : State) : DeckKept s (mainsWarnOn s) := by
  have hwarn : DeckKept s { s with stn := { s.stn with mainsWarn := true } } := .deck_apart (.refl s) rfl
  have hbefore : ∀ t, DeckKept t (stopSilence { t with stn := { t.stn with state := .mainsLoss, showState := .none, window := .off } }) :=
    fun t => .deck_apart (.refl t) rfl
  have htell : ∀ l f t, DeckKept t (tellLampAndTray l f t) := fun l f t => .deck_apart (by simp [SameDeck]) (by simp)
  have hfan : ∀ (c : Prop) [Decidable c] t, DeckKept t (if c then chooseFan t else t) := fun c _ t =>
    .ite (.deck_apart (.refl t) rfl) (.refl t)
  have hafter : ∀ t : State, DeckKept t (beginWrite { emptySchedule (deckMainsLoss t) with remote := t.remote.mainsLoss }) := fun t =>
    .deck_lawful (.of_empty rfl) fun h => h.deckMainsLoss.of_same (by simp [SameDeck, beginWrite, emptySchedule])
  have henter : ∀ t, DeckKept t (enterMainsLoss t) := fun t => (hbefore t).trans ((htell _ _ _).trans ((hfan _ _).trans (hafter _)))
  exact .ite hwarn (hwarn.trans (henter _))

/-- A changed cue mode reaches a decoder that is open, and leaves a closed one closed (R151). -/
theorem changeCueMode_closed (m : TapeCueMode) (d : Decoder) : (changeCueMode m d).state = .closed ↔ d.state = .closed := by
  unfold changeCueMode
  dsimp only
  split
  · rfl
  · next hopen => cases m <;> simpa [Decoder.restart, startState] using hopen

theorem configSetItem_deckKept (code v : Nat) (s : State) : DeckKept s (configSetItem code v s).1 := by
  have hwrite : ∀ x, DeckKept s (writeItems x s) := fun x => by
    have hitems : DeckKept s { s with stn := { s.stn with items := x } } := .deck_apart (.refl s) rfl
    refine hitems.trans (.deck_decodes ?_)
    split
    · rfl
    · exact changeCueMode_closed _ _
  unfold configSetItem
  split
  · exact .refl s
  · split
    · exact .refl s
    · split
      · exact .refl s
      · exact hwrite _

/-! ### Resets (R139, R176) -/

/-- The volume a power-on takes fits its five bits, whatever record it finds (R139, R176). -/
theorem volumeAtPowerOn_le {x : Station} (h : RecordLaw x) : volumeAtPowerOn x ≤ 31 := by
  unfold volumeAtPowerOn
  split
  · next hvalid =>
    have hsense := h hvalid
    simp only [fieldsMakeSense, Bool.and_eq_true, decide_eq_true_eq] at hsense
    obtain ⟨⟨⟨⟨-, -⟩, hvolume⟩, -⟩, -⟩ := hsense
    exact hvolume
  · decide

/-- A reset leaves the deck and the decoder within their law (R139, R152). -/
theorem resetBlocks_deckLaw (kind : ResetKind) {x : Station} (r : Readings) {s : State}
    (hvolume : kind = .powerOn → volumeAtPowerOn x ≤ 31) (h : DeckLaw s) : DeckLaw (resetBlocks kind x r s) := by
  refine ⟨?_, ?_, ⟨Nat.zero_le _, Nat.zero_le _, Nat.le_refl _, nofun⟩, fun hstrap => ?_, nofun, nofun,
    iff_of_false (fun hopen => hopen rfl) nofun⟩
  · simp only [resetBlocks, Deck.atReset]
    split
    · exact Nat.zero_le _
    · exact h.counter_le
  · simp only [resetBlocks, Deck.atReset]
    split
    · next hkind => exact hvolume (by simpa using hkind)
    · exact h.volume_le
  · have hno : x.strapDeck = false := hstrap
    simp [resetBlocks, Deck.atReset, hno]

theorem resetWith_deckKept (kind : ResetKind) {x : Station} (r : Readings) (s : State) (hrecord : kind = .powerOn → RecordLaw x) :
    DeckKept s (resetWith kind x r s) := by
  have hblocks : DeckKept s (resetBlocks kind x r s) := by
    obtain ⟨-, -, hschedule, -⟩ := s.disp.atReset_cleared (kind == .powerOn)
    exact .deck_lawful (.of_empty hschedule) (resetBlocks_deckLaw kind r fun hkind => volumeAtPowerOn_le (hrecord hkind))
  have hraise : ∀ d t, DeckKept t (raise .restarted d t) := fun d t => .deck_apart (.refl t) rfl
  have htrips : ∀ t, DeckKept t (raiseActiveTrips t) := fun t => by
    obtain ⟨a, hstate, -⟩ := raiseActiveTrips_frame t
    rw [hstate]
    exact .deck_apart (.refl t) rfl
  have hfan : ∀ t, DeckKept t (fanAtReset kind s.cool.cutout t) := fun t => .ite (.deck_apart (.refl t) rfl) (.refl t)
  have hwarn : ∀ t, DeckKept t (readMainsWarn r.mainsWarn t) := fun t => .ite (mainsWarnOn_deckKept t) (.refl t)
  exact hblocks.trans ((hraise _ _).trans ((htrips _).trans ((hfan _).trans (hwarn _))))

/-- The retained record read as valid makes sense (R176). -/
theorem powerOn_deckKept (st : Straps) (r : Readings) (s : State) : DeckKept s (powerOn st r s) :=
  resetWith_deckKept .powerOn r s fun _ hvalid => by
    obtain ⟨-, hsense⟩ := (Bool.and_eq_true _ _).mp (show s.retained.valid = true from hvalid)
    exact hsense

/-! ### Commands and frames -/

/-- Every COMMAND keeps the laws. -/
theorem deckLaws_keptByCommands : KeptByCommands DeckLaws where
  step := directStep_deckKept
  hold := holdEvent_deckKept
  resume := resumeEvent_deckKept
  commit := fun s => .deck_beside (.refl s) (.of_schedule rfl)
  set := configSetItem_deckKept
  close := closeConfiguration_deckKept
  standby := takeStandby_deckKept
  wake := fun _ => .deck_apart (by simp [SameDeck]) (by simp)
  attention := fun _ s => .deck_apart (.refl s) rfl
  notice := fun _ => .deck_apart (by simp [SameDeck]) (by simp)

/-- Every frame keeps the laws. -/
theorem deckLaws_keptAtCheck : KeptAtCheck DeckLaws where
  blocks := fun {_ _} ⟨⟨_, _, hdeck, hdec, _, hstn⟩, hlist⟩ => Kept.deck_beside ⟨hdeck, hdec, by rw [hstn]⟩ (.of_schedule hlist)
  cue := fun cue s => cueArrival_deckKept cue .loop s
  command := deckLaws_keptByCommands.judgeCommand
  load := fun payload s => .deck_beside (by simp [SameDeck]) (judgeLoad_kept payload s)
  notice := fun _ => .deck_apart (by simp [SameDeck]) (by simp)

/-! ### The tape's cues (R140 to R150) -/

/-- A cue handed on may close the gate, and the decoder with it (R150). -/
theorem handOn_deckKept (cue : Nat) (s : State) : DeckKept s (handOn cue s) := by
  have hoffer : ∀ x t, DeckKept t (offerFrame x t) := fun x t => .deck_apart (by simp [SameDeck]) (by simp)
  exact (cueArrival_deckKept cue .tape s).trans (.ite (hoffer _ _) (.refl _))

/-- The words' candidate and guard are no part of the laws (R147). -/
theorem meetCandidate_deckKept (w : Byte) (s : State) : DeckKept s (meetCandidate w s) := by
  have hwords : ∀ c g, DeckKept s { s with dec := { s.dec with candidate := c, guardWord := g } } := fun _ _ => .deck_decodes Iff.rfl
  have hcount : ∀ k t, DeckKept t (count k t) := fun k t => .deck_apart (.refl t) rfl
  unfold meetCandidate
  split
  · exact hwords _ _
  · exact .ite ((hwords _ _).trans (handOn_deckKept _ _)) ((hwords _ _).trans (hcount _ _))

/-- A sample of a word leaves an open decoder open (R144). -/
theorem readSample_deckKept (q : Nat) (v : Bool) {s : State} (hopen : s.dec.state ≠ .closed) : DeckKept s (readSample q v s) := by
  have hreads : ∀ {d : Decoder}, d.state ≠ .closed → DeckKept s { s with dec := d } := .deck_reads hopen
  have hhunts : ∀ {t : State}, t.dec.state ≠ .closed → DeckKept t (setDecoder .hunting t) := fun ht => .deck_reads ht nofun
  have hfail : ∀ kind {t : State}, t.dec.state ≠ .closed → DeckKept t (wordFail kind t) := fun kind _ ht =>
    (hhunts ht).trans (.deck_apart (.refl _) rfl)
  have hgood : ∀ w {t : State}, t.dec.state ≠ .closed → DeckKept t (goodWord w t) := fun w _ ht =>
    .ite (hhunts ht) ((hhunts ht).trans (meetCandidate_deckKept w _))
  have hnext : DeckKept s (setDecoder (.reading q) s) := hreads nofun
  have hparity : DeckKept s { s with dec := { s.dec with state := .reading q, parity := v } } := hreads nofun
  exact .ite (.ite hparity (hparity.trans (hfail 1 nofun))) <|
    .ite (.ite (hnext.trans (hgood _ nofun)) (hnext.trans (hfail 2 nofun))) (.ite (hreads nofun) hnext)

theorem readWordUpTo_deckKept (data : Byte) (parity stop : Bool) (n : Nat) (s : State) :
    DeckKept s (readWordUpTo data parity stop n s) := by
  induction n generalizing s with
  | zero => exact .refl s
  | succ n ih =>
    unfold readWordUpTo
    split
    · next hstate => exact (readSample_deckKept _ _ (by simp [hstate])).trans (ih _)
    · exact .refl s

/-- A sample of a burst leaves an open decoder open (R149). -/
theorem pulseSample_deckKept (mark : Bool) (s : State) : DeckKept s (pulseSample mark s) := by
  have hreads : s.dec.state ≠ .closed → ∀ {d : Decoder}, d.state ≠ .closed → DeckKept s { s with dec := d } :=
    fun h _ => .deck_reads h
  have hcount : DeckKept s (countNonMark s) := .deck_decodes Iff.rfl
  unfold pulseSample
  split
  case h_1 hstate => exact .ite (hreads (by simp [hstate]) nofun) (.refl s)
  case h_2 hstate =>
    have hopen : s.dec.state ≠ .closed := by simp [hstate]
    have hidle : DeckKept s (enterPulseIdle s) := hreads hopen nofun
    have hspent : DeckKept s (setDecoder .spent { s with dec := { s.dec with burst := s.dec.burst + 1, nonMark := 0 } }) :=
      hreads hopen nofun
    have hend : DeckKept s (endBurst s) := .ite (hidle.trans (handOn_deckKept 248 _)) hidle
    have hlengthen : DeckKept s (lengthenBurst s) := .ite (hspent.trans (handOn_deckKept 249 _)) (.deck_decodes Iff.rfl)
    exact .ite hlengthen (.ite hcount hend)
  case h_3 hstate => exact .ite (.deck_decodes Iff.rfl) (.ite hcount (hreads (by simp [hstate]) nofun))
  all_goals exact .refl s

theorem takeSample_deckKept (age : Nat) (s : State) : DeckKept s (takeSample age s) := by
  have hword : ∀ v, DeckKept s (wordSample v s) := fun v => by
    have hset : s.dec.state ≠ .closed → ∀ {st}, st ≠ .closed → DeckKept s (setDecoder st s) := fun h _ hst => .deck_reads h hst
    unfold wordSample
    split
    case h_1 hstate => exact .ite (.refl s) (hset (by simp [hstate]) nofun)
    case h_2 hstate =>
      have hopen : s.dec.state ≠ .closed := by simp [hstate]
      exact .ite (hset hopen nofun) (.ite (hset hopen nofun) (.deck_reads hopen nofun))
    case h_3 hstate => exact readSample_deckKept _ v (by simp [hstate])
    all_goals exact .refl s
  unfold takeSample
  split
  case h_1 => exact .refl s
  case h_2 | h_3 | h_4 => exact hword _
  all_goals exact pulseSample_deckKept _ s

theorem takePeriod_deckKept (micros : Nat) (s : State) : DeckKept s (takePeriod micros s) :=
  .ite (.refl s) (.ite (.deck_decodes Iff.rfl) (.deck_decodes Iff.rfl))

theorem expireCandidate_deckKept (s : State) : DeckKept s (expireCandidate s) := by
  have hdrops : DeckKept s { s with dec := { s.dec with candidate := none } } := .deck_decodes Iff.rfl
  unfold expireCandidate
  split
  · exact hdrops.trans (.deck_apart (.refl _) rfl)
  · exact .refl s

/-! ### The pendant and the silent loop (R157, R21) -/

theorem recognizePress_deckKept (k : Key) (s : State) : DeckKept s (recognizePress k s) := by
  have hkey : ∀ t, DeckKept t (keyAction k t) := fun t => by
    cases k with
    | hold =>
      exact .ite (.refl t) (.ite (.ite (resumeEvent_deckKept t) (holdEvent_deckKept t)) (.deck_apart (by simp [SameDeck]) (by simp)))
    | fwd | rev | dark => exact .ite (.deck_apart (by simp [SameDeck]) (by simp)) (.deck_apart (by simp [SameDeck]) (by simp))
    | focusIn | focusOut => exact .refl t
  have hremote : ∀ (t : State) r, DeckKept t { t with remote := r } := fun t _ => .deck_apart (.refl t) rfl
  have hwake : ∀ t, DeckKept t (takeWake t) := fun t => .deck_apart (by simp [SameDeck]) (by simp)
  have hact : ∀ t, DeckKept t (actOnPress k t) := fun t => by
    unfold actOnPress
    split
    case h_1 | h_2 => exact hkey t
    case h_3 | h_4 => exact (hremote t _).trans (hwake _)
    case h_5 => exact hremote t _
  exact (Kept.ite (hremote s _) ((hremote s _).trans (hact _))).trans (hremote _ _)

theorem takeScan_deckKept (x : KeySamples) (order : List Key) (s : State) : DeckKept s (takeScan x order s) := by
  have hsamples : DeckKept s { s with remote := s.remote.sampleAll x } := .deck_apart (.refl s) rfl
  have hkey : ∀ t k, DeckKept t (recognizeKey t k) := fun t k =>
    .ite (.ite (.deck_apart (.refl t) rfl) (recognizePress_deckKept k t)) (.refl t)
  exact hsamples.trans (.foldl hkey (order ++ allKeys) _)

theorem expireSilence_deckKept (s : State) : DeckKept s (expireSilence s) := by
  have hexpire : ∀ n x, DeckKept s (raise .loopSilent n { s with loop := x }) := fun _ _ => .deck_apart (.refl s) rfl
  have hdark : ∀ t, DeckKept t (requestLamp 0 10 .direct t) := fun t => .deck_apart (by simp [SameDeck]) (by simp)
  unfold expireSilence
  refine .ite ?_ (.refl s)
  dsimp only
  split
  · exact hexpire _ _
  · exact (hexpire _ _).trans (holdEvent_deckKept _)
  · exact (hexpire _ _).trans (hdark _)
  · exact (hexpire _ _).trans ((holdEvent_deckKept _).trans (hdark _))

/-! ### A step -/

/-- Every command is a change of the state that keeps the laws. -/
theorem exec_deckKept (i : Instr) (s : State) : ∃ t, exec i s = .next t ∧ DeckKept s t := by
  have hframe : ∀ f bytes, DeckKept s (whenRunning (frameArrives f bytes) s) := fun f bytes =>
    (deckLaws_keptAtCheck.frameArrives f bytes s).whenRunning
  have hpulse : ∀ (c : Prop) [Decidable c] (m : Bool), DeckKept s (if c then pulseSample m s else s) := fun c _ m =>
    .ite (pulseSample_deckKept m s) (.refl s)
  have hdeck : ∀ {t : State}, t.disp = s.disp → (DeckLaw s → DeckLaw t) → DeckKept s t := Kept.deck_of_disp
  cases i
  case cassetteChange present => exact ⟨_, rfl, (hdeck (by simp) (·.takeCassette present)).deck_tested.whenRunning⟩
  case brakeTimerExpiry => exact ⟨_, rfl, (hdeck (by simp) (·.expireBrake)).deck_tested.whenRunning⟩
  case reelSilenceExpiry => exact ⟨_, rfl, (hdeck (by simp) (·.expireReel)).deck_tested.whenRunning⟩
  case reelPulse => exact ⟨_, rfl, (hdeck (by simp) (·.reelPulse)).whenRunning⟩
  case decoderGateOpen => exact ⟨_, rfl, (hdeck (by simp) (·.openDecoderGate)).whenRunning⟩
  case soundTick => exact ⟨_, rfl, (hdeck (by simp) (·.soundTick)).whenRunning⟩
  case soundRampEnd => exact ⟨_, rfl, (Kept.ite (hdeck (by simp) (·.soundTick)) (.refl s)).whenRunning⟩
  case tapeWord data parity stop => exact ⟨_, rfl, (readWordUpTo_deckKept data parity stop 50 s).whenRunning⟩
  case candidateExpiry => exact ⟨_, rfl, (expireCandidate_deckKept s).whenRunning⟩
  case guardExpiry =>
    have hguard : DeckKept s (expireGuard s) := .deck_decodes Iff.rfl
    exact ⟨_, rfl, hguard.whenRunning⟩
  case burstEnd | burstLimit | spentEnd => exact ⟨_, rfl, (hpulse _ _).whenRunning⟩
  case cueTrackSample age => exact ⟨_, rfl, (takeSample_deckKept age s).whenRunning⟩
  case cueTrackPeriod micros => exact ⟨_, rfl, (takePeriod_deckKept micros s).whenRunning⟩
  case cueFrame | poll | query | load | remoteFrame | assign | unknownKind | lengthAbove32 | unknownCommandCode | step | hold | resume |
      commit | configSet | configClose | standby | wake | ack | attnSet | clearCounters | reset =>
    exact ⟨_, rfl, hframe _ _⟩
  case strayByteRun gap bytes => exact ⟨_, rfl, (deckLaws_keptAtCheck.strayRun gap bytes s).whenRunning⟩
  case loopSilenceExpiry => exact ⟨_, rfl, (expireSilence_deckKept s).whenRunning⟩
  case showTick => exact ⟨_, rfl, (showTick_deckKept s).whenRunning⟩
  case scheduledRecordDue => exact ⟨_, rfl, (routeDueUpTo_deckKept _ s).whenRunning⟩
  case keyPress k => exact ⟨_, rfl, (Kept.ite (.refl s) (recognizePress_deckKept k s)).whenRunning⟩
  case keyScan samples order => exact ⟨_, rfl, (takeScan_deckKept samples order s).whenRunning⟩
  case configWindowExpiry => exact ⟨_, rfl, (Kept.ite (closeConfiguration_deckKept s) (.refl s)).whenRunning⟩
  case mainsWarnAssert => exact ⟨_, rfl, (mainsWarnOn_deckKept s).whenRunning⟩
  case powerOn st r => exact ⟨_, rfl, powerOn_deckKept st r s⟩
  case pinReset st r => exact ⟨_, rfl, .ite (.refl s) (resetWith_deckKept .pin r s nofun)⟩
  case loopReset r => exact ⟨_, rfl, (Kept.ite (resetWith_deckKept .loop r s nofun) (.refl s)).whenRunning⟩
  case brownoutRestart st r => exact ⟨_, rfl, (Kept.ite (resetWith_deckKept .brownout r s nofun) (.refl s)).whenRunning⟩
  case supplyFall => exact ⟨_, rfl, .deck_apart (.refl s) rfl⟩
  case mirrorComplete =>
    have hmirror : DeckKept s (completeMirror s) := .deck_beside (.refl s) (.of_schedule s.disp.mirrorComplete_schedule)
    exact ⟨_, rfl, hmirror.whenRunning⟩
  case pinResetAssert | mainsWarnDeassert => exact ⟨_, rfl, .whenRunning (.deck_apart (.refl s) rfl)⟩
  case spinUpElapsed => exact ⟨_, rfl, .whenRunning (.ite (.deck_apart (.refl s) rfl) (.refl s))⟩
  all_goals exact ⟨_, rfl, .whenRunning (.deck_apart (by (repeat' split) <;> simp [SameDeck]) (by (repeat' split) <;> simp))⟩

/-- Settles O56: a step idles, or is a command on the queue's rest. -/
theorem stepKeepsDeckLaw : Obligations.StepKeepsDeckLaw := by
  unfold Obligations.StepKeepsDeckLaw
  intro s s' hlaws hstep
  unfold step at hstep
  split at hstep
  · obtain rfl := Host.Outcome.next.inj hstep
    exact hlaws
  · next i rest _ =>
    obtain ⟨t, ht, hkept⟩ := exec_deckKept i { s with pending := rest }
    obtain rfl := Host.Outcome.next.inj (ht.symm.trans hstep)
    exact hkept hlaws

end Sys2Proof.Machine
-- ==== Sys2Proof/Proofs/TapeSamples.lean ====
/-! PROOF. What a crossing of the cue track and a sample of it in WORD mode do to the decoder: the class of a period (R141), the value of a
sample (R142), the start bit (R143), the samples of a word (R144, R145), and a good word against guard and candidate (R146, R147). -/

namespace Sys2Proof.Machine

open Sys2Proof (Byte)

/-! ### Crossings and the value of a sample (R141, R142) -/

section
variable {s : State}

theorem takePeriod_closed (us : Nat) (h : s.dec.state = .closed) : takePeriod us s = s := if_pos h

/-- The first crossing after the gate opened starts the timing and gives no period (R141). -/
theorem takePeriod_first (us : Nat) (hopen : s.dec.state ≠ .closed) (htiming : s.dec.timing = false) :
    takePeriod us s = { s with dec := { s.dec with timing := true } } := by
  rw [takePeriod, if_neg hopen, if_neg (ne_true_of_eq_false htiming)]

theorem takePeriod_timed (us : Nat) (hopen : s.dec.state ≠ .closed) (htiming : s.dec.timing = true) :
    takePeriod us s = { s with dec := { s.dec with lastPeriod := some (classify us) } } := by
  rw [takePeriod, if_neg hopen, if_pos htiming]

/-- A sample in WORD mode reads 0 after a recent SPACE alone (R142). -/
theorem wordValue_eq (d : Decoder) (age : Nat) : wordValue d age = !decide (d.lastPeriod = some .space ∧ age ≤ 2000) := by
  by_cases hage : age ≤ 2000 <;> simp [wordValue, recentPeriod, hage, bne, beq_eq_decide]

/-- A sample in PULSE mode is MARK after a recent MARK alone (R142). -/
theorem markSample_eq (d : Decoder) (age : Nat) : markSample d age = decide (d.lastPeriod = some .mark ∧ age ≤ 2000) := by
  by_cases hage : age ≤ 2000 <;> simp [markSample, recentPeriod, hage, beq_eq_decide]

/-! ### A sample in WORD mode, state by state (R143, R144) -/

theorem takeSample_closed (age : Nat) (h : s.dec.state = .closed) : takeSample age s = s := by
  simp only [takeSample, h]

theorem takeSample_hunting (age : Nat) (h : s.dec.state = .hunting) :
    takeSample age s = if wordValue s.dec age then s else setDecoder (.starting 0) s := by
  simp only [takeSample, wordSample, h]

theorem takeSample_starting (age q : Nat) (h : s.dec.state = .starting q) :
    takeSample age s = if wordValue s.dec age then setDecoder .hunting s
      else if q = 0 then setDecoder (.starting 1) s else beginReading s := by
  simp only [takeSample, wordSample, h]

theorem takeSample_reading (age q : Nat) (h : s.dec.state = .reading q) :
    takeSample age s = readSample (q + 1) (wordValue s.dec age) s := by
  simp only [takeSample, wordSample, h]

end

/-! ### The samples of a word (R144, R145) -/

/-- Every fifth sample is read, and those between are passed over (R144). -/
theorem readSample_passes {q : Nat} (v : Bool) (s : State) (hq : q % 5 ≠ 2) : readSample q v s = setDecoder (.reading q) s := by
  rw [readSample, if_neg (by omega), if_neg (by omega), if_neg (by omega)]

theorem bitAt_false (i : Nat) : bitAt i false = 0#8 := rfl

theorem bitAt_true (i : Nat) : bitAt i true = BitVec.twoPow 8 i :=
  BitVec.eq_of_toNat_eq (by simp [bitAt])

/-- A data bit is read at its sample (R144). -/
theorem readSample_data {i : Nat} (hi : i < 8) (v : Bool) (s : State) :
    readSample (7 + 5 * i) v s =
      { s with dec := { s.dec with state := .reading (7 + 5 * i), data := s.dec.data ||| bitAt i v } } := by
  rw [readSample, if_neg (by omega), if_neg (by omega), if_pos (by omega), show (7 + 5 * i - 7) / 5 = i by omega]
  rfl

theorem readSample_parity (v : Bool) (s : State) :
    readSample 47 v s =
      if parityPasses s.dec.data v then { s with dec := { s.dec with state := .reading 47, parity := v } }
      else wordFail 1 { s with dec := { s.dec with parity := v } } := rfl

theorem readSample_stop (v : Bool) (s : State) :
    readSample 52 v s = if v then goodWord s.dec.data s else wordFail 2 s := rfl

/-! ### A good word against guard and candidate (R146, R147) -/

section
variable {w : Byte} {s : State}

theorem goodWord_guarded (h : s.dec.guardWord = some w) : goodWord w s = { s with dec := { s.dec with state := .hunting } } := if_pos h

theorem goodWord_unguarded (h : s.dec.guardWord ≠ some w) : goodWord w s = meetCandidate w (setDecoder .hunting s) := if_neg h

variable (hguard : s.dec.guardWord ≠ some w)
include hguard

theorem goodWord_becomesCandidate (h : s.dec.candidate = none) :
    goodWord w s = { s with dec := { s.dec with state := .hunting, candidate := some w } } := by
  rw [goodWord_unguarded hguard, meetCandidate, show (setDecoder .hunting s).dec.candidate = none from h]
  rfl

theorem goodWord_confirms (h : s.dec.candidate = some w) :
    goodWord w s = handOn w.toNat { s with dec := { s.dec with state := .hunting, candidate := none, guardWord := some w } } := by
  rw [goodWord_unguarded hguard, meetCandidate, show (setDecoder .hunting s).dec.candidate = some w from h]
  exact if_pos rfl

theorem goodWord_replacesCandidate {c : Byte} (h : s.dec.candidate = some c) (hc : c ≠ w) :
    goodWord w s = { s with
      dec := { s.dec with state := .hunting, candidate := some w }, attn := s.attn.count .tapeUnconfirmed } := by
  rw [goodWord_unguarded hguard, meetCandidate, show (setDecoder .hunting s).dec.candidate = some c from h]
  exact if_neg hc

end

/-! ### The decoder's commands, on a part that runs -/

section
variable {s : State} (hpower : s.power = .running)
include hpower

theorem exec_cueTrackPeriod (us : Nat) : exec (.cueTrackPeriod us) s = .next (takePeriod us s) :=
  congrArg Host.Outcome.next (if_pos hpower)

theorem exec_cueTrackSample (age : Nat) : exec (.cueTrackSample age) s = .next (takeSample age s) :=
  congrArg Host.Outcome.next (if_pos hpower)

end

/-- Settles O46, by the decoder's state and the sample's position in its word. -/
theorem periodsAndSamples : Obligations.PeriodsAndSamples := by
  unfold Obligations.PeriodsAndSamples
  refine ⟨fun us age s hpower => ?_, fun age zero s hpower hzero => ?_⟩
  · rw [exec_cueTrackPeriod hpower, exec_cueTrackSample hpower]
    exact ⟨fun hopen htiming => by rw [takePeriod_timed us hopen htiming]; rfl,
      fun hopen htiming => by rw [takePeriod_first us hopen htiming],
      fun hclosed => ⟨by rw [takePeriod_closed us hclosed], by rw [takeSample_closed age hclosed]⟩⟩
  · have hvalue : wordValue s.dec age = !zero := by rw [wordValue_eq, hzero]
    have hread : ∀ {q}, s.dec.state = .reading q → takeSample age s = readSample (q + 1) (!zero) s := fun h =>
      hvalue ▸ takeSample_reading age _ h
    clear hzero
    dsimp only
    rw [exec_cueTrackSample hpower]
    refine ⟨fun h => ?_, fun h => ?_, fun h => ?_, fun q h _ _ hq => ?_, fun i hi h => ?_, fun h => ?_, fun h => ?_⟩
    · rw [takeSample_hunting age h, hvalue]
      cases zero <;> rfl
    · rw [takeSample_starting age 0 h, hvalue]
      cases zero <;> rfl
    · rw [takeSample_starting age 1 h, hvalue]
      cases zero <;> rfl
    · rw [hread h, readSample_passes _ s (by omega)]
      rfl
    · rw [hread h, show 6 + 5 * i + 1 = 7 + 5 * i by omega, readSample_data hi]
      cases zero with
      | true => simp [bitAt_false]
      | false => simp [bitAt_true, BitVec.twoPow_eq]
    · rw [hread h, readSample_parity]
      rfl
    · rw [hread h, readSample_stop]
      cases zero with
      | true => rfl
      | false =>
        simp only [Bool.not_false, if_true, Bool.false_eq_true, if_false]
        by_cases hguard : s.dec.guardWord = some s.dec.data
        · rw [goodWord_guarded hguard, if_pos hguard]
        · rw [if_neg hguard]
          rcases hcand : s.dec.candidate with _ | c
          · rw [goodWord_becomesCandidate hguard hcand]
          · by_cases hc : c = s.dec.data
            · rw [goodWord_confirms hguard (hc ▸ hcand)]
              exact congrArg Host.Outcome.next (if_pos hc).symm
            · rw [goodWord_replacesCandidate hguard hcand hc]
              exact congrArg Host.Outcome.next (if_neg hc).symm

end Sys2Proof.Machine

-- ==== Sys2Proof/Proofs/TapeWords.lean ====
/-! PROOF. A word of the cue track read from the start of READING to its end, five samples at a time (R144, R145), and what it does to guard and
candidate (R146, R147). -/

namespace Sys2Proof.Machine

open Sys2Proof (Byte)

/-! ### Five samples at a time (R144) -/

section
variable (data : Byte) (parity stop : Bool) (n : Nat) {s : State} {q : Nat}

theorem readWordUpTo_succ (h : s.dec.state = .reading q) :
    readWordUpTo data parity stop (n + 1) s =
      readWordUpTo data parity stop n (readSample (q + 1) (bitAtSample data parity stop (q + 1)) s) := by
  simp only [readWordUpTo, h]

/-- A word that has ended takes no further sample. -/
theorem readWordUpTo_hunting (h : s.dec.state = .hunting) : readWordUpTo data parity stop n s = s := by
  cases n with
  | zero => rfl
  | succ n => simp only [readWordUpTo, h]

/-- A sample passed over moves the position alone (R144). -/
theorem readWordUpTo_passes (h : s.dec.state = .reading q) (hq : (q + 1) % 5 ≠ 2) :
    readWordUpTo data parity stop (n + 1) s = readWordUpTo data parity stop n (setDecoder (.reading (q + 1)) s) := by
  rw [readWordUpTo_succ data parity stop n h, readSample_passes _ s hq]

/-- Of five samples four are passed over, and the fifth is read (R144). -/
theorem readWordUpTo_five (h : s.dec.state = .reading q) (hq : q % 5 = 2) :
    readWordUpTo data parity stop (n + 5) s =
      readWordUpTo data parity stop n (readSample (q + 5) (bitAtSample data parity stop (q + 5)) s) := by
  rw [readWordUpTo_passes data parity stop (n + 4) h (by omega), readWordUpTo_passes data parity stop (n + 3) rfl (by omega),
    readWordUpTo_passes data parity stop (n + 2) rfl (by omega), readWordUpTo_passes data parity stop (n + 1) rfl (by omega),
    readWordUpTo_succ data parity stop n rfl]
  rfl

end

/-! ### The data bits -/

/-- The lowest `k` bits of a word, the others 0: the shift word once `k` bits are read. -/
def lowBits (k : Nat) (data : Byte) : Byte := (data.setWidth k).setWidth 8

theorem lowBits_zero (data : Byte) : lowBits 0 data = 0#8 := BitVec.eq_of_toNat_eq (by simp [lowBits, Nat.mod_one])

theorem lowBits_eight (data : Byte) : lowBits 8 data = data := by simp [lowBits]

theorem lowBits_succ (k : Nat) (data : Byte) : lowBits (k + 1) data = lowBits k data ||| bitAt k (data.getLsbD k) := by
  cases hbit : data.getLsbD k with
  | true => exact (BitVec.setWidth_setWidth_succ_eq_setWidth_setWidth_or_twoPow_of_getLsbD_true hbit).trans (by rw [bitAt_true]; rfl)
  | false =>
    exact (BitVec.setWidth_setWidth_succ_eq_setWidth_setWidth_of_getLsbD_false hbit).trans (by simp [bitAt_false, lowBits])

theorem bitAtSample_data {i : Nat} (hi : i < 8) (data : Byte) (parity stop : Bool) :
    bitAtSample data parity stop (7 + 5 * i) = data.getLsbD i := by
  rw [bitAtSample, if_neg (by omega), if_neg (by omega), if_pos (by omega), show (7 + 5 * i - 7) / 5 = i by omega]

/-- The data bits enter the shift word one after the other (R144). -/
theorem readWordUpTo_data (data : Byte) (parity stop : Bool) {s : State} (hstate : s.dec.state = .reading 2) (hdata : s.dec.data = 0#8)
    (n : Nat) {k : Nat} (hk : k ≤ 8) :
    readWordUpTo data parity stop (n + 5 * k) s =
      readWordUpTo data parity stop n { s with dec := { s.dec with state := .reading (2 + 5 * k), data := lowBits k data } } := by
  induction k generalizing n with
  | zero => rw [lowBits_zero, ← hdata, ← hstate]; rfl
  | succ k ih =>
    rw [show n + 5 * (k + 1) = n + 5 + 5 * k by omega, ih (n + 5) (by omega),
      readWordUpTo_five data parity stop n rfl (by omega), show 2 + 5 * k + 5 = 7 + 5 * k by omega,
      readSample_data hk, bitAtSample_data hk, lowBits_succ, show 2 + 5 * (k + 1) = 7 + 5 * k by omega]

/-! ### A whole word -/

/-- The decoder at the end of a word: it hunts again, with the word's bits in it. -/
def wordEnded (data : Byte) (parity : Bool) (s : State) : State :=
  { s with dec := { s.dec with state := .hunting, data := data, parity := parity } }

/-- A word read from the start of READING ends at its parity bit or at its stop bit, and fails there, or is good (R144, R145). -/
theorem readWord_eq (data : Byte) (parity stop : Bool) {s : State} (hstate : s.dec.state = .reading 2) (hdata : s.dec.data = 0#8) :
    readWord data parity stop s =
      if parityPasses data parity = true then
        (if stop = true then goodWord data (wordEnded data parity s) else wordFail 2 (wordEnded data parity s))
      else wordFail 1 (wordEnded data parity s) := by
  have hparity : readWord data parity stop s =
      readWordUpTo data parity stop 5 (readSample 47 parity { s with dec := { s.dec with state := .reading 42, data := data } }) := by
    rw [readWord, readWordUpTo_data data parity stop hstate hdata 10 (le_refl 8), lowBits_eight,
      readWordUpTo_five data parity stop 5 rfl rfl]
    rfl
  rw [hparity, readSample_parity]
  by_cases hpasses : parityPasses data parity = true
  · rw [if_pos hpasses, if_pos hpasses, readWordUpTo_five data parity stop 0 rfl rfl]
    exact readSample_stop stop _
  · rw [if_neg hpasses, if_neg hpasses]
    exact readWordUpTo_hunting data parity stop 5 rfl

section
variable {s : State} (hpower : s.power = .running)
include hpower

theorem exec_tapeWord (data : Byte) (parity stop : Bool) : exec (.tapeWord data parity stop) s = .next (readWord data parity stop s) :=
  congrArg Host.Outcome.next (if_pos hpower)

theorem exec_candidateExpiry : exec .candidateExpiry s = .next (expireCandidate s) := congrArg Host.Outcome.next (if_pos hpower)

theorem exec_guardExpiry : exec .guardExpiry s = .next (expireGuard s) := congrArg Host.Outcome.next (if_pos hpower)

variable {data : Byte} {parity stop : Bool} (hstate : s.dec.state = .reading 2) (hdata : s.dec.data = 0#8)
include hstate hdata

theorem tapeWord_good {t : State} (hpasses : parityPasses data parity = true) (hstop : stop = true)
    (hgood : goodWord data (wordEnded data parity s) = t) : exec (.tapeWord data parity stop) s = .next t := by
  rw [exec_tapeWord hpower, readWord_eq data parity stop hstate hdata, if_pos hpasses, if_pos hstop, hgood]

/-- A word whose parity fails ends at its parity bit (R145). -/
theorem tapeWord_parityFails (hpasses : parityPasses data parity = false) :
    exec (.tapeWord data parity stop) s = .next (wordFail 1 (wordEnded data parity s)) := by
  rw [exec_tapeWord hpower, readWord_eq data parity stop hstate hdata, if_neg (ne_true_of_eq_false hpasses)]

theorem tapeWord_stopFails (hpasses : parityPasses data parity = true) (hstop : stop = false) :
    exec (.tapeWord data parity stop) s = .next (wordFail 2 (wordEnded data parity s)) := by
  rw [exec_tapeWord hpower, readWord_eq data parity stop hstate hdata, if_pos hpasses, if_neg (ne_true_of_eq_false hstop)]

end

/-- Settles O47, by how the word ends and what guard and candidate hold. -/
theorem tapeWordsRead : Obligations.TapeWordsRead := by
  unfold Obligations.TapeWordsRead
  intro data parity stop s hpower
  refine ⟨fun hstate hdata => ?_, exec_guardExpiry hpower⟩
  refine ⟨fun hpasses hstop hcand hguard => ?_, fun hpasses hstop hguard c hcand hc => ?_, fun hpasses hstop hcand hguard => ?_,
    fun hpasses hstop hguard => ?_, tapeWord_parityFails hpower hstate hdata, tapeWord_stopFails hpower hstate hdata⟩
  · exact tapeWord_good hpower hstate hdata hpasses hstop (goodWord_becomesCandidate hguard hcand)
  · exact tapeWord_good hpower hstate hdata hpasses hstop (goodWord_replacesCandidate hguard hcand hc)
  · exact tapeWord_good hpower hstate hdata hpasses hstop (goodWord_confirms hguard hcand)
  · exact tapeWord_good hpower hstate hdata hpasses hstop (goodWord_guarded hguard)

end Sys2Proof.Machine

-- ==== Sys2Proof/Proofs/CandidateExpiry.lean ====
/-! PROOF. The candidate's expiry, before and after the word that would confirm it (R148). That the confirmed cue leaves nothing to expire
needs that a cue, whatever it sets going, leaves the decoder's candidate alone: of all it does only the deck reaches the decoder, and
closes its gate (R133). -/

namespace Sys2Proof.Machine

open Sys2Proof (Byte)

/-- The decoder's candidate, or its absence. -/
def CandidateIs (c : Option Byte) (s : State) : Prop := s.dec.candidate = c

section
variable {c : Option Byte}

/-- An operation that does not reach the decoder. -/
theorem Kept.candidate_of_dec {s t : State} (h : t.dec = s.dec) : Kept (CandidateIs c) s t :=
  fun hs => (congrArg Decoder.candidate h).trans hs

/-! ### The deck -/

/-- A gate that closes discards the word in progress, not the candidate (R133, R140). -/
theorem enterDeck_candidate (d : DeckState) (s : State) : Kept (CandidateIs c) s (enterDeck d s) :=
  fun hs => (apply_ite Decoder.candidate _ _ _).trans ((ite_self _).trans hs)

theorem brakeTo_candidate (m : Pending) (s : State) : Kept (CandidateIs c) s (brakeTo m s) := by
  unfold brakeTo
  split
  case h_1 | h_2 => exact .candidate_of_dec rfl
  all_goals exact enterDeck_candidate _ s

theorem tapeStop_candidate (s : State) : Kept (CandidateIs c) s (tapeStop s) := by
  unfold tapeStop
  split
  case h_1 | h_2 => exact .refl s
  all_goals exact brakeTo_candidate .stopped s

theorem setCounter_candidate (n : Nat) (s : State) : Kept (CandidateIs c) s (setCounter n s) := by
  have hset : Kept (CandidateIs c) s { s with deck := { s.deck with counter := n } } := .candidate_of_dec rfl
  exact .ite (hset.trans (brakeTo_candidate .stopped _)) hset

theorem tapeCommand_candidate (m : TapeMode) (s : State) : Kept (CandidateIs c) s (tapeCommand m s) := by
  have hbrake : ∀ m, Kept (CandidateIs c) s (sideClear .tapeEnd (brakeTo m s)) := fun m => brakeTo_candidate m s
  refine .ite (.candidate_of_dec rfl) ?_
  cases m with
  | stop => exact tapeStop_candidate s
  | pause => exact .ite (enterDeck_candidate _ s) (.refl s)
  | zeroCounter => exact setCounter_candidate 0 s
  | play =>
    dsimp only [tapePlay]
    split
    case h_1 | h_2 => exact .refl s
    case h_3 => exact enterDeck_candidate .playing s
    all_goals exact hbrake _
  | windFwd =>
    dsimp only [tapeWindFwd]
    split
    case h_1 | h_2 => exact .refl s
    all_goals exact hbrake _
  | rewind =>
    dsimp only [tapeRewind]
    split
    case h_1 | h_2 => exact .candidate_of_dec rfl
    all_goals exact hbrake _
  | rewToZero =>
    refine .ite (tapeStop_candidate s) ?_
    split
    case h_1 | h_2 => exact .candidate_of_dec rfl
    all_goals exact hbrake _

/-! ### Steps and cues -/

theorem routeStep_candidate (st : Step) (o : Origin) (s : State) : Kept (CandidateIs c) s (routeStep st o s) := by
  have hmove : ∀ k dark, Kept (CandidateIs c) s (offerMove k dark o s) := fun k dark => .candidate_of_dec (by simp)
  have hdemand : ∀ d, Kept (CandidateIs c) s (setDemand d s) := fun d => .candidate_of_dec rfl
  unfold routeStep
  split
  case h_1 | h_11 => exact .refl s
  case h_2 | h_3 => exact .ite (.refl s) (hmove _ _)
  case h_4 | h_5 => exact hmove _ _
  case h_6 => exact .ite (hdemand _) (.ite (hdemand _) (.refl s))
  case h_7 | h_8 | h_9 => exact .candidate_of_dec (by simp)
  case h_10 =>
    split
    · exact tapeCommand_candidate _ s
    · exact .refl s

theorem recordCue_candidate (cue : Nat) (src : CueSource) (s : State) : Kept (CandidateIs c) s (recordCue cue src s) :=
  .candidate_of_dec rfl

theorem schedule_candidate (r : Record) (s : State) : Kept (CandidateIs c) s (schedule r s) := .candidate_of_dec (by simp)

theorem expandStep_candidate (cue : Nat) (s : State) (p : PoolStep) : Kept (CandidateIs c) s (expandStep cue s p) := by
  unfold expandStep
  split
  · exact .refl s
  · exact .ite (routeStep_candidate _ .ofShow s) (schedule_candidate _ s)

theorem endOfShow_candidate (s : State) : Kept (CandidateIs c) s (endOfShow s) := by
  have hempty : Kept (CandidateIs c) s (emptySchedule s) := .candidate_of_dec rfl
  exact hempty.trans ((routeStep_candidate ⟨.tape, 1, 0⟩ .ofShow _).trans (routeStep_candidate _ .ofShow _))

theorem deckHold_candidate (s : State) : Kept (CandidateIs c) s (deckHold s) := by
  unfold deckHold
  split
  · exact enterDeck_candidate _ s
  · exact brakeTo_candidate _ s
  · exact .refl s

theorem deckResume_candidate (s : State) : Kept (CandidateIs c) s (deckResume s) := by
  unfold deckResume
  split
  · exact enterDeck_candidate _ s
  · exact brakeTo_candidate _ s
  · exact .refl s

/-- A cue arrival leaves the candidate if what a RESUME does leaves it (R36 to R40). -/
theorem cueArrivalWith_candidate {resume : State → State} (hresume : ∀ s, Kept (CandidateIs c) s (resume s)) (cue : Nat)
    (src : CueSource) (s : State) : Kept (CandidateIs c) s (cueArrivalWith resume cue src s) := by
  have hrecord := recordCue_candidate (c := c) cue src s
  have hcount : ∀ k, Kept (CandidateIs c) s (count k s) := fun k => .candidate_of_dec rfl
  have hloaded : Kept (CandidateIs c) s (loadedCue cue src s) := .ite (hcount _) (hrecord.trans (.foldl (expandStep_candidate cue) _ _))
  have hstep : ∀ v, Kept (CandidateIs c) s (stepCue cue v src s) := fun v =>
    hrecord.trans (.ite (routeStep_candidate _ .ofShow _) (schedule_candidate _ _))
  have hhold : ∀ t, Kept (CandidateIs c) t (holdEvent t) := fun t =>
    .ite (deckHold_candidate { t with stn := { t.stn with showState := .held } }) (.refl t)
  exact .ite (hcount _) <| .ite (hcount _) <| .ite hloaded <| .ite (hrecord.trans (hhold _)) <| .ite (hrecord.trans (hresume _)) <|
    .ite (.candidate_of_dec (by simp)) <| .ite (hrecord.trans (endOfShow_candidate _)) <|
    .ite (hrecord.trans (routeStep_candidate ⟨.home, 0, 0⟩ .ofShow _)) <| .ite (hstep _) <| .ite (hstep _) (hcount _)

theorem routeDueUpTo_candidate (n : Nat) (s : State) : Kept (CandidateIs c) s (routeDueUpTo n s) := by
  have hroute : ∀ r t, Kept (CandidateIs c) t (routeRecord r t) := fun r t =>
    .ite (cueArrivalWith_candidate .refl r.a .follow t) (routeStep_candidate _ .ofShow t)
  induction n generalizing s with
  | zero => exact .refl s
  | succ n ih =>
    unfold routeDueUpTo
    split
    · exact .refl s
    · next r rest _ =>
      have hrest : Kept (CandidateIs c) s { s with disp := { s.disp with schedule := rest } } := .candidate_of_dec rfl
      exact .ite (hrest.trans ((hroute r _).trans (ih _))) (.refl s)

theorem resumeEvent_candidate (s : State) : Kept (CandidateIs c) s (resumeEvent s) :=
  .ite ((deckResume_candidate { s with stn := { s.stn with showState := .running } }).trans (routeDueUpTo_candidate _ _)) (.refl s)

/-- A cue handed on leaves the candidate alone (R150). -/
theorem handOn_candidate (cue : Nat) (s : State) : Kept (CandidateIs c) s (handOn cue s) := by
  have harrival : Kept (CandidateIs c) s (cueArrival cue .tape s) := cueArrivalWith_candidate resumeEvent_candidate cue .tape s
  exact harrival.trans (.ite (.candidate_of_dec (by simp)) (.refl _))

end

/-! ### The expiry (R148) -/

section
variable {s : State} (hpower : s.power = .running)
include hpower

theorem candidateExpiry_some {w : Byte} (h : s.dec.candidate = some w) :
    exec .candidateExpiry s =
      .next { s with dec := { s.dec with candidate := none }, attn := s.attn.count .tapeUnconfirmed } := by
  rw [exec_candidateExpiry hpower, expireCandidate, h]
  rfl

theorem candidateExpiry_none (h : s.dec.candidate = none) : exec .candidateExpiry s = .next s := by
  rw [exec_candidateExpiry hpower, expireCandidate, h]

end

/-- Settles O48: a word that confirms leaves no candidate, and one that fails leaves the one there was. -/
theorem candidateExpires : Obligations.CandidateExpires := by
  unfold Obligations.CandidateExpires
  intro data word parity p stop s hpower
  refine ⟨fun w => candidateExpiry_some hpower, candidateExpiry_none hpower,
    fun hstate hdata hcand hguard => ⟨fun hpasses => ⟨?_, ?_⟩, fun hfails => ?_⟩⟩
  · have hnone : ∀ {d : Decoder}, d.candidate = none → (handOn data.toNat { s with dec := d }).dec.candidate = none := fun hd =>
      handOn_candidate (c := none) data.toNat _ hd
    have hrunning : ∀ d, (handOn data.toNat { s with dec := d }).power = .running := by simp [hpower]
    exact ⟨_, tapeWord_good hpower hstate hdata hpasses rfl (goodWord_confirms hguard hcand), hnone rfl,
      candidateExpiry_none (hrunning _) (hnone rfl)⟩
  · let t : State := { s with dec := { s.dec with candidate := none }, attn := s.attn.count .tapeUnconfirmed }
    have hword : exec (.tapeWord data parity true) t = .next _ :=
      tapeWord_good (s := t) hpower hstate hdata hpasses rfl (goodWord_becomesCandidate hguard rfl)
    exact ⟨t, _, candidateExpiry_some hpower hcand, hword, rfl, rfl⟩
  · cases hpasses : parityPasses word p with
    | false => exact ⟨_, tapeWord_parityFails hpower hstate hdata hpasses, hcand⟩
    | true =>
      have hstop : stop = false := hfails.resolve_left (by simp [hpasses])
      exact ⟨_, tapeWord_stopFails hpower hstate hdata hpasses hstop, hcand⟩

end Sys2Proof.Machine

-- ==== Sys2Proof/Proofs/TapeBursts.lean ====
/-! PROOF. Samples in PULSE mode: the burst begun, lengthened, ended and spent, and the cues it gives (R149, R150). -/

namespace Sys2Proof.Machine

section
variable {s : State}

/-! ### A sample in PULSE mode, state by state (R149) -/

theorem takeSample_pulse (age : Nat) (h : s.dec.state = .pulseIdle ∨ s.dec.state = .burst ∨ s.dec.state = .spent) :
    takeSample age s = pulseSample (markSample s.dec age) s := by
  unfold takeSample
  rcases h with h | h | h <;> rw [h]

theorem pulseSample_pulseIdle (mark : Bool) (h : s.dec.state = .pulseIdle) :
    pulseSample mark s = if mark then { s with dec := { s.dec with state := .burst, burst := 1, nonMark := 0 } } else s := by
  simp only [pulseSample, h]

theorem pulseSample_burst (mark : Bool) (h : s.dec.state = .burst) :
    pulseSample mark s = if mark then lengthenBurst s else if s.dec.nonMark < 2 then countNonMark s else endBurst s := by
  simp only [pulseSample, h]

theorem pulseSample_spent (mark : Bool) (h : s.dec.state = .spent) :
    pulseSample mark s =
      if mark then { s with dec := { s.dec with nonMark := 0 } }
      else if s.dec.nonMark < 2 then countNonMark s else enterPulseIdle s := by
  simp only [pulseSample, h]

/-- One or two non-MARK samples end neither a burst nor what follows a spent one (R149). -/
theorem pulseSample_nonMark_counts (h : s.dec.state = .burst ∨ s.dec.state = .spent) (hcount : s.dec.nonMark < 2) :
    pulseSample false s = countNonMark s := by
  rcases h with h | h
  · rw [pulseSample_burst false h, if_neg nofun, if_pos hcount]
  · rw [pulseSample_spent false h, if_neg nofun, if_pos hcount]

theorem burst_nonMark_ends (h : s.dec.state = .burst) (hcount : s.dec.nonMark = 2) : pulseSample false s = endBurst s := by
  rw [pulseSample_burst false h, if_neg nofun, if_neg (by omega)]

theorem spent_nonMark_ends (h : s.dec.state = .spent) (hcount : s.dec.nonMark = 2) : pulseSample false s = enterPulseIdle s := by
  rw [pulseSample_spent false h, if_neg nofun, if_neg (by omega)]

theorem lengthenBurst_below (h : s.dec.burst < 524) :
    lengthenBurst s = { s with dec := { s.dec with burst := s.dec.burst + 1, nonMark := 0 } } :=
  if_neg (by simp only [burstLimit]; omega)

/-- The MARK sample that brings the length to 525 spends the burst, and gives cue 249 (R149, R150). -/
theorem lengthenBurst_limit (h : s.dec.burst = 524) :
    lengthenBurst s = handOn 249 { s with dec := { s.dec with state := .spent, burst := 525, nonMark := 0 } } := by
  rw [lengthenBurst, if_pos (by simp only [burstLimit]; omega), h]
  rfl

/-! ### The commands that name these samples, on a part that runs -/

variable (hpower : s.power = .running)
include hpower

theorem burstEnd_ends (h : s.dec.state = .burst) (hcount : s.dec.nonMark = 2) : exec .burstEnd s = .next (endBurst s) := by
  rw [← burst_nonMark_ends h hcount]
  exact congrArg Host.Outcome.next ((if_pos hpower).trans (if_pos ⟨h, hcount⟩))

theorem burstLimit_spends (h : s.dec.state = .burst) (hlength : s.dec.burst = 524) : exec .burstLimit s = .next (lengthenBurst s) := by
  rw [show lengthenBurst s = pulseSample true s by rw [pulseSample_burst true h, if_pos rfl]]
  exact congrArg Host.Outcome.next ((if_pos hpower).trans (if_pos ⟨h, by rw [hlength, burstLimit]⟩))

theorem spentEnd_idles (h : s.dec.state = .spent) (hcount : s.dec.nonMark = 2) : exec .spentEnd s = .next (enterPulseIdle s) := by
  rw [← spent_nonMark_ends h hcount]
  exact congrArg Host.Outcome.next ((if_pos hpower).trans (if_pos ⟨h, hcount⟩))

end

/-- Settles O49, by the decoder's state and whether the sample is MARK. -/
theorem burstsGiveCues : Obligations.BurstsGiveCues := by
  unfold Obligations.BurstsGiveCues
  refine ⟨fun s hpower => ⟨burstEnd_ends hpower, fun hburst hlength => ?_, spentEnd_idles hpower⟩, fun age mark s hpower hmark => ?_⟩
  · rw [burstLimit_spends hpower hburst hlength, lengthenBurst_limit hlength]
  · have hvalue : markSample s.dec age = mark := (markSample_eq s.dec age).trans hmark.symm
    clear hmark
    rw [exec_cueTrackSample hpower]
    refine ⟨fun hidle => ?_, fun hburst => ?_, fun hspent => ?_⟩
    · rw [takeSample_pulse age (.inl hidle), hvalue, pulseSample_pulseIdle mark hidle]
      cases mark <;> rfl
    · have hlengthens : mark = true → pulseSample mark s = lengthenBurst s := fun hmark => by
        rw [pulseSample_burst mark hburst, if_pos hmark]
      rw [takeSample_pulse age (.inr (.inl hburst)), hvalue]
      refine ⟨fun hmark hlength => ?_, fun hmark hlength => ⟨_, burstLimit_spends hpower hburst hlength, by rw [hlengthens hmark]⟩,
        fun hmark hcount => ?_, fun hmark hcount => ⟨_, burstEnd_ends hpower hburst hcount, ?_⟩⟩
      · rw [hlengthens hmark, lengthenBurst_below hlength]
      · rw [hmark, pulseSample_nonMark_counts (.inl hburst) hcount]
        rfl
      · rw [hmark, burst_nonMark_ends hburst hcount]
    · rw [takeSample_pulse age (.inr (.inr hspent)), hvalue]
      refine ⟨fun hmark => ?_, fun hmark hcount => ?_, fun hmark hcount => ⟨_, spentEnd_idles hpower hspent hcount, ?_⟩⟩
      · rw [pulseSample_spent mark hspent, if_pos hmark]
      · rw [hmark, pulseSample_nonMark_counts (.inr hspent) hcount]
        rfl
      · rw [hmark, spent_nonMark_ends hspent hcount]

end Sys2Proof.Machine

-- ==== Sys2Proof/Proofs/KeyRecords.lean ====
/-! PROOF. The Remote Scanner's record, key by key: what a write, a scan's samples, a wake and the focus drive leave of each key (R153,
R155, R159, R160). -/

namespace Sys2Proof.Machine

open Sys2Proof (Key KeySamples)

/-! ### One key read and written -/

/-- A key stands at its position among all keys. -/
theorem allKeys_keyIdx (k : Key) : allKeys[(keyIdx k).val]? = some k := by cases k <;> rfl

theorem mem_allKeys (k : Key) : k ∈ allKeys := List.mem_of_getElem? (allKeys_keyIdx k)

theorem keyIdx_inj {j k : Key} (h : keyIdx j = keyIdx k) : j = k := by
  have hj := allKeys_keyIdx j
  rw [h, allKeys_keyIdx k] at hj
  exact (Option.some.inj hj).symm

theorem keyIdx_surj (i : Fin 6) : ∃ k, keyIdx k = i := by
  have hall : ∀ i : Fin 6, ∃ k ∈ allKeys, keyIdx k = i := by decide
  obtain ⟨k, -, hk⟩ := hall i
  exact ⟨k, hk⟩

@[simp] theorem Remote.get_put_self (r : Remote) (k : Key) (x : KeyRec) : (r.put k x).get k = x := by
  simp [Remote.get, Remote.put]

@[simp] theorem Remote.get_put_ne (r : Remote) {j k : Key} (x : KeyRec) (h : j ≠ k) : (r.put k x).get j = r.get j := by
  have hidx : (keyIdx k).val ≠ (keyIdx j).val := fun e => h (keyIdx_inj (Fin.ext e)).symm
  simp [Remote.get, Remote.put, Vector.getElem_set_ne _ _ hidx]

theorem Remote.get_put (r : Remote) (j k : Key) (x : KeyRec) : (r.put k x).get j = if j = k then x else r.get j := by
  split
  · next h => rw [h, r.get_put_self]
  · next h => exact r.get_put_ne x h

@[simp] theorem Remote.put_put (r : Remote) (k : Key) (x y : KeyRec) : (r.put k x).put k y = r.put k y := by
  simp [Remote.put]

@[simp] theorem Remote.put_focus (r : Remote) (k : Key) (x : KeyRec) : (r.put k x).focus = r.focus := rfl

@[simp] theorem Remote.chooseFocus_get (r : Remote) (k : Key) : r.chooseFocus.get k = r.get k := rfl

/-- Six keys and the drive state are all that the Scanner holds. -/
theorem Remote.ext_get {r r' : Remote} (hfocus : r.focus = r'.focus) (hget : ∀ k, r.get k = r'.get k) : r = r' := by
  obtain ⟨keys, focus⟩ := r
  obtain ⟨keys', focus'⟩ := r'
  obtain rfl : focus = focus' := hfocus
  have hkeys : keys = keys' := by
    ext1 i hi
    obtain ⟨k, hk⟩ := keyIdx_surj ⟨i, hi⟩
    obtain rfl : (keyIdx k).val = i := congrArg Fin.val hk
    exact hget k
  rw [hkeys]

/-! ### The samples of a scan (R153) -/

/-- The sample of one key taken. -/
def Remote.sampleKey (x : KeySamples) (r : Remote) (k : Key) : Remote := r.put k ((r.get k).sample (sampleOf k x))

theorem Remote.get_foldl_sampleKey (x : KeySamples) (ks : List Key) (hks : ks.Nodup) (r : Remote) (j : Key) :
    (ks.foldl (Remote.sampleKey x) r).get j = if j ∈ ks then (r.get j).sample (sampleOf j x) else r.get j := by
  induction ks generalizing r with
  | nil => rfl
  | cons k ks ih =>
    obtain ⟨hk, hks⟩ := List.nodup_cons.1 hks
    rw [List.foldl_cons, ih hks, Remote.sampleKey]
    by_cases hj : j = k
    · subst hj
      simp [hk]
    · simp [hj]

/-- A scan samples each key once. -/
theorem Remote.sampleAll_get (r : Remote) (x : KeySamples) (k : Key) :
    (r.sampleAll x).get k = (r.get k).sample (sampleOf k x) :=
  (Remote.get_foldl_sampleKey x allKeys (by decide) r k).trans (if_pos (mem_allKeys k))

theorem Remote.sampleAll_focus (r : Remote) (x : KeySamples) : (r.sampleAll x).focus = r.focus := rfl

/-- A sample lengthens a run by one or ends it. -/
theorem KeyRec.sample_run_le (x : KeyRec) (pressed : Bool) : (x.sample pressed).run ≤ x.run + 1 := by
  unfold KeyRec.sample
  dsimp only
  split <;> omega

theorem KeyRec.sample_pressed (x : KeyRec) (pressed : Bool) : (x.sample pressed).pressed = x.pressed := rfl

/-! ### A wake (R155) -/

/-- A wake marks keys as consumed, and changes nothing else of them. -/
theorem Remote.consumeAtWake_get (r : Remote) (k : Key) :
    r.consumeAtWake.get k =
      { r.get k with consumed := (r.get k).consumed || (r.get k).pressed || decide (0 < (r.get k).run) } :=
  Vector.getElem_map _ (keyIdx k).isLt

/-! ### The focus drive (R159, R160) -/

/-- The drive state follows the two focus keys: one that drives alone turns the motor its way (R159). -/
theorem Remote.chooseFocus_focus (r : Remote) :
    r.chooseFocus.focus =
      match (r.get .focusIn).drives, (r.get .focusOut).drives with
      | true, false => .inward
      | false, true => .outward
      | _, _ => .stopped := by
  show focusFor (r.get .focusIn).drives (r.get .focusOut).drives = _
  cases (r.get .focusIn).drives <;> cases (r.get .focusOut).drives <;> rfl

theorem Remote.limitRun_inward {r : Remote} (h : r.focus = .inward) :
    r.limitRun = (r.put .focusIn { r.get .focusIn with limited := true }).chooseFocus := by
  simp only [Remote.limitRun, h]

theorem Remote.limitRun_stopped {r : Remote} (h : r.focus = .stopped) : r.limitRun = r := by
  simp only [Remote.limitRun, h]

/-- A limited key does not drive, so that with FOCUS OUT idle the motor stops (R159, R160). -/
theorem Remote.limitRun_inward_focus {r : Remote} (h : r.focus = .inward) (hout : (r.get .focusOut).drives = false) :
    r.limitRun.focus = .stopped := by
  rw [Remote.limitRun_inward h, Remote.chooseFocus_focus, Remote.get_put_self, Remote.get_put_ne _ _ (by decide), hout]
  simp [KeyRec.drives]

section
variable {s : State} (hpower : s.power = .running)
include hpower

theorem exec_focusRunLimit : exec .focusRunLimit s = .next { s with remote := s.remote.limitRun } :=
  congrArg Host.Outcome.next (if_pos hpower)

/-- The run limit of FOCUS IN, on a part that runs (R160). -/
theorem focusRunLimit_inward (h : s.remote.focus = .inward) (hout : (s.remote.get .focusOut).drives = false) :
    ∃ t, exec .focusRunLimit s = .next t ∧ t = { s with remote := t.remote } ∧ t.remote.focus = .stopped ∧
      t.remote.get .focusIn = { s.remote.get .focusIn with limited := true } ∧
      ∀ k, k ≠ .focusIn → t.remote.get k = s.remote.get k := by
  refine ⟨_, exec_focusRunLimit hpower, rfl, Remote.limitRun_inward_focus h hout, ?_, fun k hk => ?_⟩
  · simp [Remote.limitRun_inward h]
  · simp [Remote.limitRun_inward h, hk]

theorem focusRunLimit_stopped (h : s.remote.focus = .stopped) : exec .focusRunLimit s = .next s := by
  rw [exec_focusRunLimit hpower, Remote.limitRun_stopped h]

end

end Sys2Proof.Machine

-- ==== Sys2Proof/Proofs/KeyPresses.lean ====
/-! PROOF. Presses and releases of keys: what a press does under each policy and in each station state (R155 to R158), the DARK request
(R99), and the wake (R155, R169). -/

namespace Sys2Proof.Machine

open Sys2Proof (Key)

/-! ### The DARK request (R99) -/

/-- What a DARK press asks for: dark for a lamp that shows light, else the last nonzero target. -/
def Lamp.darkTarget (l : Lamp) : Nat := if l.burning = true ∧ 64 < l.p then 0 else l.lastTarget.getD 4096

/-- The lamp with a DARK request taken: a DIRECT ramp over 5 tenths. -/
def Lamp.darkRequested (l : Lamp) : Lamp :=
  { l with
    ramp := ⟨l.p, l.darkTarget, 50, 0, .direct, true⟩
    lastTarget := if 0 < l.darkTarget then some l.darkTarget else l.lastTarget }

theorem Lamp.startRamp_darkTarget (l : Lamp) : l.startRamp l.darkTarget 50 .direct = l.darkRequested := rfl

/-- A DARK press is a request of a position; the lamp states that it leaves are those that ignore any request (R80, R99). -/
theorem requestDark_eq (s : State) : requestDark s = requestPosition s.lamp.darkTarget 50 .direct s := by
  have htarget : (if s.lamp.burning && decide (Config.darkPosition < s.lamp.p) then 0 else s.lamp.recall) = s.lamp.darkTarget :=
    if_congr (by rw [Bool.and_eq_true, decide_eq_true_eq, Config.darkPosition]) rfl rfl
  have hignored : s.lamp.state = .tripped ∨ s.lamp.state = .failed → requestPosition s.lamp.darkTarget 50 .direct s = s := fun h => by
    rw [requestPosition]
    rcases h with h | h <;> simp only [h, ite_self]
  unfold requestDark
  dsimp only
  rw [htarget]
  split
  case h_4 h => exact (hignored (.inl h)).symm
  case h_5 h => exact (hignored (.inr h)).symm
  all_goals rfl

/-- A DARK press leaves a lamp that a cause holds OFF, and one TRIPPED or FAILED (R99). -/
theorem requestDark_ignored {s : State}
    (h : (s.lamp.state = .off ∧ s.cool.tripped = true) ∨ s.lamp.state = .tripped ∨ s.lamp.state = .failed) : requestDark s = s := by
  rw [requestDark_eq, requestPosition]
  rcases h with ⟨h, htripped⟩ | h | h
  · simp only [h, htripped, if_true, ite_self]
  · simp only [h, ite_self]
  · simp only [h, ite_self]

section
variable {s : State} (hqueue : s.tray.queue = []) (hstate : s.stn.state = .configuring ∨ s.stn.state = .active)
include hqueue hstate

theorem requestDark_burning (h : s.lamp.burning = true) : requestDark s = { s with lamp := s.lamp.darkRequested } := by
  have hset : setLamp (s.lamp.startRamp s.lamp.darkTarget 50 .direct) s = { s with lamp := s.lamp.darkRequested } := by
    rw [setLamp_of_empty _ _ hqueue]
    exact if_pos rfl
  rw [requestDark_eq, requestPosition, if_neg (not_mainsLoss_of_open hstate)]
  split
  case h_2 | h_3 => exact hset
  all_goals next hlamp => simp [Lamp.burning, hlamp] at h

/-- An OFF lamp that no cause holds is lit, and the fan runs for it (R80, R99, R107). -/
theorem requestDark_off (h : s.lamp.state = .off) (htripped : s.cool.tripped = false) :
    requestDark s = { s with
      lamp := { s.lamp.darkRequested with state := .warming }
      cool := s.cool.setStage (max s.cool.heatStage 1) } := by
  let l : Lamp := { s.lamp.darkRequested with state := .warming }
  have hfan : fanWanted { s with lamp := l } = max s.cool.heatStage 1 :=
    (fanWanted_open { s with lamp := l } hstate).trans (by simp [htripped, l, Lamp.burning])
  have hlit : ({ s.lamp with state := .warming } : Lamp).startRamp s.lamp.darkTarget 50 .direct = l := rfl
  rw [requestDark_eq, requestPosition, if_neg (not_mainsLoss_of_open hstate)]
  simp only [h, htripped, Bool.false_eq_true, if_false]
  rw [hlit, setLamp_of_empty _ _ hqueue, if_neg (by rw [h]; exact nofun), chooseFan, hfan]

end

/-! ### What a key does (R156 to R158) -/

section
variable {s : State}

theorem localKeys_iff :
    localKeys s = true ↔ s.stn.state = .configuring ∨ s.stn.items.remotePolicy = .localKeys := by simp [localKeys]

theorem localKeys_of_open (h : s.stn.state = .configuring ∨ (s.stn.state = .active ∧ s.stn.items.remotePolicy = .localKeys)) :
    localKeys s = true := localKeys_iff.2 (h.imp_right And.right)

/-- FWD and REV step the tray where the keys act as under LOCAL (R156, R157). -/
theorem keyAction_fwd (h : localKeys s = true) : keyAction .fwd s = offerMove (.step 1) false .direct s := if_pos h

theorem keyAction_rev (h : localKeys s = true) : keyAction .rev s = offerMove (.step (-1)) false .direct s := if_pos h

theorem keyAction_dark (h : localKeys s = true) : keyAction .dark s = requestDark s := if_pos h

/-- In ACTIVE, under a policy other than LOCAL, a key that drives no lens does what relaying it does (R156, R158). -/
theorem keyAction_relayed {k : Key} (hactive : s.stn.state = .active) (hpolicy : s.stn.items.remotePolicy ≠ .localKeys)
    (hin : k ≠ .focusIn) (hout : k ≠ .focusOut) : keyAction k s = relayKey k s := by
  have hlocal : ¬ localKeys s = true := fun h => (localKeys_iff.1 h).elim (by rw [hactive]; nofun) hpolicy
  cases k with
  | fwd | rev | dark => exact if_neg hlocal
  | hold => exact (if_neg (by rw [hactive]; nofun)).trans (if_neg hlocal)
  | focusIn => exact absurd rfl hin
  | focusOut => exact absurd rfl hout

/-- A frame offered where the station has a number and the queue has room (R15). -/
theorem offerFrame_queued (x : OrigFrame) (hnumber : stationNumber s ≠ 0) (hroom : s.loop.origQueue.length < 4) :
    offerFrame x s = { s with loop := { s.loop with origQueue := s.loop.origQueue ++ [x] } } := by
  rw [offerFrame, if_neg hnumber, if_neg (by simp only [Config.originationCapacity]; omega)]

/-- RELAY queues the key's REMOTE frame (R158). -/
theorem keyAction_relay {k : Key} (hactive : s.stn.state = .active) (hpolicy : s.stn.items.remotePolicy = .relay)
    (hin : k ≠ .focusIn) (hout : k ≠ .focusOut) (hnumber : stationNumber s ≠ 0) (hroom : s.loop.origQueue.length < 4) :
    keyAction k s = { s with loop := { s.loop with origQueue := s.loop.origQueue ++ [.remote k] } } := by
  rw [keyAction_relayed hactive (by rw [hpolicy]; nofun) hin hout, relayKey, if_pos hpolicy, offerFrame_queued _ hnumber hroom]

/-- A press that does nothing by itself: HOLD in CONFIGURING, any key under OFF, a focus key (R156, R159). -/
def pressOnly (k : Key) (s : State) : Prop :=
  (k = .hold ∧ s.stn.state = .configuring) ∨ (s.stn.state = .active ∧ s.stn.items.remotePolicy = .off) ∨
    ((k = .focusIn ∨ k = .focusOut) ∧ (s.stn.state = .configuring ∨ s.stn.state = .active))

theorem pressOnly_open {k : Key} (h : pressOnly k s) : s.stn.state = .configuring ∨ s.stn.state = .active := by
  rcases h with ⟨-, hconf⟩ | ⟨hactive, -⟩ | ⟨-, hopen⟩
  · exact .inl hconf
  · exact .inr hactive
  · exact hopen

theorem keyAction_pressOnly {k : Key} (h : pressOnly k s) : keyAction k s = s := by
  rcases h with ⟨rfl, hconf⟩ | ⟨hactive, hoff⟩ | ⟨rfl | rfl, -⟩
  · exact if_pos hconf
  · by_cases hfocus : k = .focusIn ∨ k = .focusOut
    · rcases hfocus with rfl | rfl <;> rfl
    · obtain ⟨hin, hout⟩ := not_or.1 hfocus
      rw [keyAction_relayed hactive (by rw [hoff]; nofun) hin hout, relayKey, if_neg (by rw [hoff]; nofun)]
  · rfl
  · rfl

theorem keyAction_hold (hactive : s.stn.state = .active) (hlocal : s.stn.items.remotePolicy = .localKeys) :
    keyAction .hold s = holdToggle s :=
  (if_neg (by rw [hactive]; nofun)).trans (if_pos (localKeys_iff.2 (.inr hlocal)))

/-- HOLD under LOCAL holds a show that runs (R157, R166). -/
theorem keyAction_hold_running (hactive : s.stn.state = .active) (hlocal : s.stn.items.remotePolicy = .localKeys)
    (hrun : s.stn.showState = .running) : keyAction .hold s = afterHold s := by
  rw [keyAction_hold hactive hlocal, holdToggle, if_neg fun h => by simp [showHeld_iff, hrun] at h, holdEvent_active s hactive, if_pos hrun]

/-- HOLD under LOCAL lets a held show run again (R157, R166). -/
theorem keyAction_hold_held (hactive : s.stn.state = .active) (hlocal : s.stn.items.remotePolicy = .localKeys)
    (hheld : s.stn.showState = .held) (hdue : ∀ r ∈ s.disp.schedule, r.remaining ≠ 0) : keyAction .hold s = afterResume s := by
  rw [keyAction_hold hactive hlocal, holdToggle, if_pos ((showHeld_iff s).2 ⟨hactive, hheld⟩), resumeEvent_held s hactive hheld hdue]

end

/-! ### Presses and releases, on a part that runs (R153, R155) -/

/-- The part after a press that does nothing more: the key's record and the drive state alone. -/
def withKey (k : Key) (x : KeyRec) (s : State) : State := { s with remote := (s.remote.put k x).chooseFocus }

theorem actOnPress_open {k : Key} {s : State} (h : s.stn.state = .configuring ∨ s.stn.state = .active) :
    actOnPress k s = keyAction k s := by
  rcases h with h | h <;> simp only [actOnPress, h]

theorem actOnPress_wakes {k : Key} {s : State} (h : s.stn.state = .standby ∨ s.stn.state = .coolingDown) :
    actOnPress k s = takeWake { s with remote := s.remote.consumeAtWake } := by
  rcases h with h | h <;> simp only [actOnPress, h]

theorem actOnPress_mainsLoss {k : Key} {s : State} (h : s.stn.state = .mainsLoss) :
    actOnPress k s = { s with remote := s.remote.put k { s.remote.get k with consumed := true } } := by
  simp only [actOnPress, h]

/-- A wake taken in STANDBY or COOLING_DOWN leads to ACTIVE with the show RUNNING (R169, R163). -/
theorem takeWake_stn {s : State} (h : s.stn.state = .standby ∨ s.stn.state = .coolingDown) :
    (takeWake s).stn = { s.stn with state := .active, showState := .running, window := .off } := by
  rw [takeWake, if_pos h.symm]
  simp [enterActive]

section
variable {k : Key} {s : State} (hpower : s.power = .running)
include hpower

theorem exec_keyPress : exec (.keyPress k) s = .next (pressEvent k s) := congrArg Host.Outcome.next (if_pos hpower)

theorem exec_keyRelease : exec (.keyRelease k) s = .next (releaseEvent k s) := congrArg Host.Outcome.next (if_pos hpower)

theorem keyPress_recognized (h : (s.remote.get k).pressed = false) : exec (.keyPress k) s = .next (recognizePress k s) := by
  rw [exec_keyPress hpower, pressEvent, if_neg (by simp [h])]

theorem keyRelease_recognized (h : (s.remote.get k).pressed = true) : exec (.keyRelease k) s = .next (recognizeRelease k s) := by
  rw [exec_keyRelease hpower, releaseEvent, if_pos h]

/-- A press of a key not consumed acts by the station state (R155, R156). -/
theorem keyPress_unconsumed (h : (s.remote.get k).pressed = false) (hconsumed : (s.remote.get k).consumed = false) :
    exec (.keyPress k) s = .next (chooseFocus (actOnPress k (pressKey k s))) := by
  rw [keyPress_recognized hpower h, recognizePress, if_neg (by simp [hconsumed])]

/-- A press of a consumed key is a press and nothing more (R155; log 35). -/
theorem keyPress_consumed (h : (s.remote.get k).pressed = false) (hconsumed : (s.remote.get k).consumed = true) :
    exec (.keyPress k) s = .next (withKey k { s.remote.get k with pressed := true, run := 0 } s) := by
  rw [keyPress_recognized hpower h, recognizePress, if_pos hconsumed]
  rfl

/-- In CONFIGURING and ACTIVE a press of a RELEASED key with no marks does what the key does (R156). -/
theorem keyPress_acts {t : State} (hget : s.remote.get k = ⟨false, 0, false, false⟩)
    (hopen : s.stn.state = .configuring ∨ s.stn.state = .active)
    (hact : keyAction k { s with remote := s.remote.put k ⟨true, 0, false, false⟩ } = t) :
    exec (.keyPress k) s = .next (chooseFocus t) := by
  have hpressed : pressKey k s = { s with remote := s.remote.put k ⟨true, 0, false, false⟩ } := by rw [pressKey, hget]
  rw [keyPress_unconsumed hpower (by rw [hget]) (by rw [hget]), hpressed, ← hact]
  exact congrArg (fun u => Host.Outcome.next (chooseFocus u)) (actOnPress_open hopen)

/-- In MAINS_LOSS a press consumes its key (R155). -/
theorem keyPress_mainsLoss (h : (s.remote.get k).pressed = false) (hconsumed : (s.remote.get k).consumed = false)
    (hstate : s.stn.state = .mainsLoss) :
    exec (.keyPress k) s = .next (withKey k { s.remote.get k with pressed := true, run := 0, consumed := true } s) := by
  rw [keyPress_unconsumed hpower h hconsumed, actOnPress_mainsLoss (by simp [hstate])]
  simp [pressKey, chooseFocus, withKey]

/-- In STANDBY and COOLING_DOWN a press wakes the station and consumes its key (R155, R169). -/
theorem keyPress_wakes (h : (s.remote.get k).pressed = false) (hconsumed : (s.remote.get k).consumed = false)
    (hstate : s.stn.state = .standby ∨ s.stn.state = .coolingDown) :
    ∃ t, exec (.keyPress k) s = .next t ∧ t.stn.state = .active ∧ t.stn.showState = .running ∧
      (t.remote.get k).consumed = true ∧ (t.remote.get k).pressed = true ∧
      t.tray = s.tray ∧ t.lamp = s.lamp ∧ t.deck = s.deck ∧ t.disp = s.disp ∧ t.attn = s.attn := by
  refine ⟨_, keyPress_unconsumed hpower h hconsumed, ?_⟩
  let woken : State := { pressKey k s with remote := (pressKey k s).remote.consumeAtWake }
  have hstn : (takeWake woken).stn = { s.stn with state := .active, showState := .running, window := .off } := takeWake_stn hstate
  have hkey : (takeWake woken).remote.get k = { s.remote.get k with pressed := true, run := 0, consumed := true } := by
    simp [woken, Remote.consumeAtWake_get, pressKey]
  rw [actOnPress_wakes (by simpa using hstate)]
  refine ⟨congrArg Station.state hstn, congrArg Station.showState hstn, ?_, ?_, ?_⟩
  · exact congrArg KeyRec.consumed hkey
  · exact congrArg KeyRec.pressed hkey
  · simp [chooseFocus]

/-- A release clears all marks of its key (R153, R155). -/
theorem keyRelease_clears (h : (s.remote.get k).pressed = true) :
    exec (.keyRelease k) s = .next (withKey k ⟨false, 0, false, false⟩ s) := keyRelease_recognized hpower h

theorem keyPress_of_pressed (h : (s.remote.get k).pressed = true) : exec (.keyPress k) s = .next s := by
  rw [exec_keyPress hpower, pressEvent, if_pos h]

theorem keyRelease_of_released (h : (s.remote.get k).pressed = false) : exec (.keyRelease k) s = .next s := by
  rw [exec_keyRelease hpower, releaseEvent, if_neg (by simp [h])]

end

end Sys2Proof.Machine

-- ==== Sys2Proof/Proofs/KeyScans.lean ====
/-! PROOF. Key scans: the samples that recognize nothing, and the fourth in a row of one key (R153). -/

namespace Sys2Proof.Machine

open Sys2Proof (Key KeySamples)

/-! ### What a recognition leaves of the runs -/

theorem takeScan_eq (x : KeySamples) (order : List Key) (s : State) :
    takeScan x order s = (order ++ allKeys).foldl recognizeKey { s with remote := s.remote.sampleAll x } := rfl

/-- What a press sets going leaves every run. -/
theorem actOnPress_run (j k : Key) (s : State) : ((actOnPress k s).remote.get j).run = (s.remote.get j).run := by
  unfold actOnPress
  split
  case h_1 | h_2 => simp
  case h_3 | h_4 => simp [Remote.consumeAtWake_get]
  case h_5 =>
    rw [Remote.get_put]
    split
    · next h => rw [h]
    · rfl

/-- A press ends the run of its key, and leaves every other. -/
theorem recognizePress_run (j k : Key) (s : State) :
    ((recognizePress k s).remote.get j).run = if j = k then 0 else (s.remote.get j).run := by
  have hpressed : ((pressKey k s).remote.get j).run = if j = k then 0 else (s.remote.get j).run := by
    rw [pressKey, Remote.get_put]
    split <;> rfl
  rw [recognizePress, chooseFocus, Remote.chooseFocus_get, ← hpressed]
  split
  · rfl
  · exact actOnPress_run j k _

/-- A release ends the run of its key, and leaves every other. -/
theorem recognizeRelease_run (j k : Key) (s : State) :
    ((recognizeRelease k s).remote.get j).run = if j = k then 0 else (s.remote.get j).run := by
  rw [recognizeRelease, chooseFocus, Remote.chooseFocus_get, Remote.get_put]
  split <;> rfl

theorem recognizeKey_of_run {k : Key} {s : State} (h : 4 ≤ (s.remote.get k).run) :
    recognizeKey s k = if (s.remote.get k).pressed then recognizeRelease k s else recognizePress k s := if_pos h

theorem recognizeKey_run {j k : Key} {s : State} (h : 4 ≤ (s.remote.get k).run) :
    ((recognizeKey s k).remote.get j).run = if j = k then 0 else (s.remote.get j).run := by
  rw [recognizeKey_of_run h]
  split
  · exact recognizeRelease_run j k s
  · exact recognizePress_run j k s

/-! ### Runs of recognitions -/

theorem recognizeKey_of_short {k : Key} {s : State} (h : (s.remote.get k).run < 4) : recognizeKey s k = s :=
  if_neg (Nat.not_le.2 h)

theorem foldl_recognizeKey_of_short (ks : List Key) {s : State} (h : ∀ k, (s.remote.get k).run < 4) : ks.foldl recognizeKey s = s := by
  induction ks with
  | nil => rfl
  | cons k ks ih => rw [List.foldl_cons, recognizeKey_of_short (h k), ih]

/-- Where one key alone has a run of four, the order of the keys does not matter, and it is recognized once. -/
theorem foldl_recognizeKey_one {ks : List Key} {k : Key} {s : State} (hmem : k ∈ ks) (hk : 4 ≤ (s.remote.get k).run)
    (hothers : ∀ j, j ≠ k → (s.remote.get j).run < 4) : ks.foldl recognizeKey s = recognizeKey s k := by
  induction ks with
  | nil => nomatch hmem
  | cons i ks ih =>
    rw [List.foldl_cons]
    by_cases hi : i = k
    · subst hi
      refine foldl_recognizeKey_of_short ks fun j => ?_
      rw [recognizeKey_run hk]
      split
      · decide
      · next hj => exact hothers j hj
    · rw [recognizeKey_of_short (hothers i hi)]
      exact ih ((List.mem_cons.1 hmem).resolve_left (Ne.symm hi))

/-! ### The run of a recognized key -/

/-- A key with its run ended. -/
def Remote.endRun (r : Remote) (k : Key) : Remote := r.put k { r.get k with run := 0 }

/-- A recognition does not depend on the run it ends: the event is that of KEY_PRESS or KEY_RELEASE (R153). -/
theorem recognizePress_endRun (k : Key) (s : State) : recognizePress k { s with remote := s.remote.endRun k } = recognizePress k s := by
  simp [recognizePress, pressKey, Remote.endRun]

theorem recognizeRelease_endRun (k : Key) (s : State) :
    recognizeRelease k { s with remote := s.remote.endRun k } = recognizeRelease k s := by
  simp [recognizeRelease, Remote.endRun]

/-- A key with a run of four is pressed or released as by its own event. -/
theorem exec_event_of_run {k : Key} {s : State} (hpower : s.power = .running) (h : 4 ≤ (s.remote.get k).run) :
    exec (if (s.remote.get k).pressed then .keyRelease k else .keyPress k) { s with remote := s.remote.endRun k } =
      .next (recognizeKey s k) := by
  have hpressed : ((s.remote.endRun k).get k).pressed = (s.remote.get k).pressed := by simp [Remote.endRun]
  rw [recognizeKey_of_run h]
  cases hk : (s.remote.get k).pressed
  · rw [if_neg nofun, if_neg nofun, ← recognizePress_endRun]
    exact keyPress_recognized hpower (hpressed.trans hk)
  · rw [if_pos rfl, if_pos rfl, ← recognizeRelease_endRun]
    exact keyRelease_recognized hpower (hpressed.trans hk)

/-! ### Scans -/

section
variable (x : KeySamples) (order : List Key) {s : State} (hpower : s.power = .running)
include hpower

theorem exec_keyScan : exec (.keyScan x order) s = .next (takeScan x order s) := congrArg Host.Outcome.next (if_pos hpower)

/-- With no run at three a scan only counts (R153). -/
theorem keyScan_counts (h : ∀ k, (s.remote.get k).run < 3) :
    exec (.keyScan x order) s = .next { s with remote := s.remote.sampleAll x } := by
  rw [exec_keyScan x order hpower, takeScan_eq, foldl_recognizeKey_of_short]
  intro k
  have hrun := (s.remote.get k).sample_run_le (sampleOf k x)
  have := h k
  rw [Remote.sampleAll_get]
  omega

/-- The fourth sample in a row that disagrees with one key is its press or release, on the record with the samples taken (R153). -/
theorem keyScan_recognizes {k : Key} {r : Remote} (hrun : (s.remote.get k).run = 3)
    (hdisagrees : sampleOf k x ≠ (s.remote.get k).pressed) (hothers : ∀ j, j ≠ k → (s.remote.get j).run < 3)
    (hfocus : r.focus = s.remote.focus)
    (hget : ∀ j, r.get j = { s.remote.get j with
      run := if j = k ∨ sampleOf j x = (s.remote.get j).pressed then 0 else (s.remote.get j).run + 1 }) :
    exec (.keyScan x order) s =
      exec (if (s.remote.get k).pressed then .keyRelease k else .keyPress k) { s with remote := r } := by
  let t : State := { s with remote := s.remote.sampleAll x }
  have hsampled : ∀ j, t.remote.get j = (s.remote.get j).sample (sampleOf j x) := s.remote.sampleAll_get x
  have hk : 4 ≤ (t.remote.get k).run := by
    simp [hsampled, KeyRec.sample, hdisagrees, hrun]
  have hshort : ∀ j, j ≠ k → (t.remote.get j).run < 4 := fun j hj => by
    have hsample := (s.remote.get j).sample_run_le (sampleOf j x)
    have := hothers j hj
    rw [hsampled]
    omega
  have hr : r = t.remote.endRun k := Remote.ext_get hfocus fun j => by
    rw [hget, Remote.endRun, Remote.get_put, hsampled, hsampled]
    by_cases hj : j = k
    · simp [hj, KeyRec.sample]
    · simp [hj, KeyRec.sample]
  have hpressed : (t.remote.get k).pressed = (s.remote.get k).pressed := by rw [hsampled, KeyRec.sample_pressed]
  have hevent := exec_event_of_run (s := t) hpower hk
  rw [exec_keyScan x order hpower, takeScan_eq, foldl_recognizeKey_one (List.mem_append_right order (mem_allKeys k)) hk hshort, ← hevent,
    hpressed, hr]

end

/-- Settles O50: presses by key, policy and station state, then scans by the runs they find, then the run limit and the drive state. -/
theorem keysAct : Obligations.KeysAct := by
  unfold Obligations.KeysAct
  refine ⟨fun k s hpower => ⟨?fwd, ?rev, ?dark, ?relay, ?hold, ?nothing, ?consumed, ?mainsLoss, keyPress_wakes hpower,
      keyRelease_clears hpower, keyPress_of_pressed hpower, keyRelease_of_released hpower⟩, ?counts,
    fun x order k r s hpower => keyScan_recognizes x order hpower,
    fun s hpower => ⟨focusRunLimit_inward hpower, focusRunLimit_stopped hpower⟩, Remote.chooseFocus_focus⟩
  case fwd =>
    rintro hget rfl hlocal
    exact keyPress_acts hpower hget (hlocal.imp_right And.left) (keyAction_fwd (localKeys_of_open hlocal))
  case rev =>
    rintro hget rfl hlocal
    exact keyPress_acts hpower hget (hlocal.imp_right And.left) (keyAction_rev (localKeys_of_open hlocal))
  case dark =>
    rintro hget rfl hqueue hlocal
    have hopen := hlocal.imp_right And.left
    have hpress : ∀ t, requestDark { s with remote := s.remote.put .dark ⟨true, 0, false, false⟩ } = t →
        exec (.keyPress .dark) s = .next (chooseFocus t) := by
      rintro _ rfl
      exact keyPress_acts hpower hget hopen (keyAction_dark (localKeys_of_open hlocal))
    exact ⟨fun hburning => hpress _ (requestDark_burning hqueue hopen hburning),
      fun hoff htripped => hpress _ (requestDark_off hqueue hopen hoff htripped),
      fun hignores => hpress _ (requestDark_ignored hignores)⟩
  case relay =>
    exact fun hget hin hout hactive hpolicy hnumber hroom =>
      keyPress_acts hpower hget (.inr hactive) (keyAction_relay hactive hpolicy hin hout hnumber hroom)
  case hold =>
    rintro hget rfl hactive hlocal
    exact ⟨fun hrun => keyPress_acts hpower hget (.inr hactive) (keyAction_hold_running hactive hlocal hrun),
      fun hheld hdue => keyPress_acts hpower hget (.inr hactive) (keyAction_hold_held hactive hlocal hheld hdue)⟩
  case nothing => exact fun hget h => keyPress_acts hpower hget (pressOnly_open h) (keyAction_pressOnly h)
  case consumed => exact fun h hconsumed _ => keyPress_consumed hpower h hconsumed
  case mainsLoss => exact keyPress_mainsLoss hpower
  case counts =>
    intro x order s hpower h
    exact ⟨_, keyScan_counts x order hpower h, rfl, rfl, s.remote.sampleAll_get x⟩

end Sys2Proof.Machine

-- ==== Sys2Proof/Proofs/StationLaws.lean ====
/-! PROOF. The laws of station and configuration items (R163, R49, R164, R20, R170): in ACTIVE they speak of the Station Controller alone, so that
the show keeps them by keeping it; elsewhere the lamp is not lit, the list and the silence timer stand still; and every command and reset
keeps them. -/

namespace Sys2Proof.Machine

open Sys2Proof (Byte Readings)

/-! ### The laws -/

/-- The laws of O57: the station's law (R163, R49, R164, R20) and the items' cross conditions (R170). -/
structure StationLaws (s : State) : Prop where
  show_iff : s.stn.showState ≠ .none ↔ s.stn.state = .active
  burning : s.lamp.burning = true → s.stn.state = .configuring ∨ s.stn.state = .active
  list : s.disp.schedule ≠ [] → s.stn.state = .active
  window : s.stn.window ≠ .off → s.stn.state = .configuring
  silence : s.loop.silence ≠ .stopped → s.stn.state = .active
  items : s.stn.items.consistent = true

theorem stationLaws_iff (s : State) : StationLaws s ↔ StationLaw s ∧ ItemsLaw s :=
  ⟨fun h => ⟨⟨h.show_iff, h.burning, h.list, h.window, h.silence⟩, h.items⟩,
    fun ⟨⟨hshow, hburning, hlist, hwindow, hsilence⟩, hitems⟩ => ⟨hshow, hburning, hlist, hwindow, hsilence, hitems⟩⟩

/-- What leads from `s` to `t` keeps the laws. -/
abbrev StationKept (s t : State) : Prop := Kept StationLaws s t

/-- The lamp is out of use. -/
def LampOut (s : State) : Prop := s.lamp.burning = false

/-- What the laws come to in ACTIVE: they speak of the Station Controller alone (R163, R164, R170). -/
def InShow (s : State) : Prop :=
  s.stn.state = .active ∧ s.stn.showState ≠ .none ∧ s.stn.window = .off ∧ s.stn.items.consistent = true

theorem StationLaws.inShow {s : State} (h : StationLaws s) (hactive : s.stn.state = .active) : InShow s := by
  refine ⟨hactive, h.show_iff.mpr hactive, ?_, h.items⟩
  by_contra hwindow
  exact absurd (hactive.symm.trans (h.window hwindow)) nofun

theorem InShow.stationLaws {s : State} (h : InShow s) : StationLaws s := by
  obtain ⟨hactive, hshow, hwindow, hitems⟩ := h
  exact ⟨iff_of_true hshow hactive, fun _ => .inr hactive, fun _ => hactive, fun hw => absurd hwindow hw, fun _ => hactive, hitems⟩

section
variable {s t : State}

theorem Kept.inShow_of_stn (h : t.stn = s.stn) : Kept InShow s t := fun hs => by rwa [InShow, h]

/-- In ACTIVE whatever keeps the show going keeps the laws. -/
theorem Kept.station_in_show (hactive : s.stn.state = .active) (h : Kept InShow s t) : StationKept s t := fun hs =>
  (h (hs.inShow hactive)).stationLaws

/-- An entry into ACTIVE asks only for what the Station Controller holds after it. -/
theorem Kept.station_of_inShow (h : StationLaws s → InShow t) : StationKept s t := fun hs => (h hs).stationLaws

/-- Where station, list and silence timer stand, the laws ask only that the lamp is not lit. -/
theorem Kept.station_fields (hstate : t.stn.state = s.stn.state) (hshow : t.stn.showState = s.stn.showState)
    (hwindow : t.stn.window = s.stn.window) (hitems : t.stn.items = s.stn.items) (hlamp : Kept LampOut s t)
    (hlist : t.disp.schedule = s.disp.schedule) (hsilence : t.loop.silence = s.loop.silence) : StationKept s t := fun h => by
  refine ⟨?_, fun hb => ?_, ?_, ?_, ?_, ?_⟩
  · rw [hshow, hstate]
    exact h.show_iff
  · rw [hstate]
    refine h.burning ?_
    by_contra hout
    exact absurd hb (ne_true_of_eq_false (hlamp (eq_false_of_ne_true hout)))
  · rw [hlist, hstate]
    exact h.list
  · rw [hwindow, hstate]
    exact h.window
  · rw [hsilence, hstate]
    exact h.silence
  · rw [hitems]
    exact h.items

theorem Kept.lampOut_of_lamp (h : t.lamp = s.lamp) : Kept LampOut s t := fun hs => by rwa [LampOut, h]

theorem Kept.station_same (hstn : t.stn = s.stn) (hlamp : t.lamp = s.lamp) (hlist : t.disp.schedule = s.disp.schedule)
    (hsilence : t.loop.silence = s.loop.silence) : StationKept s t :=
  .station_fields (by rw [hstn]) (by rw [hstn]) (by rw [hstn]) (by rw [hstn]) (.lampOut_of_lamp hlamp) hlist hsilence

/-- What the lamp does by itself, it does not light. -/
theorem Kept.station_lamp (hstn : t.stn = s.stn) (hdisp : t.disp = s.disp) (hloop : t.loop = s.loop) (hlamp : Kept LampOut s t) :
    StationKept s t :=
  .station_fields (by rw [hstn]) (by rw [hstn]) (by rw [hstn]) (by rw [hstn]) hlamp (by rw [hdisp]) (by rw [hloop])

/-- In CONFIGURING and in ACTIVE the lamp may burn (09 section 9.2). -/
theorem Kept.station_open (hopen : s.stn.state = .configuring ∨ s.stn.state = .active) (hstn : t.stn = s.stn)
    (hdisp : t.disp = s.disp) (hsilence : t.loop.silence = s.loop.silence) : StationKept s t := fun h => by
  refine ⟨?_, fun _ => ?_, ?_, ?_, ?_, ?_⟩ <;> rw [hstn]
  · exact h.show_iff
  · exact hopen
  · rw [hdisp]
    exact h.list
  · exact h.window
  · rw [hsilence]
    exact h.silence
  · exact h.items

end

/-! ### The show (R35 to R48, R166) -/

theorem holdEvent_inShow (s : State) : Kept InShow s (holdEvent s) := by
  rintro ⟨hactive, hshow, hwindow, hitems⟩
  unfold holdEvent
  split
  · exact ⟨by simpa using hactive, by simp, by simpa using hwindow, by simpa using hitems⟩
  · exact ⟨hactive, hshow, hwindow, hitems⟩

theorem resumeShow_inShow (s : State) : Kept InShow s (resumeShow s) := fun ⟨hactive, _, hwindow, hitems⟩ =>
  ⟨by simpa [resumeShow] using hactive, by simp [resumeShow], by simpa [resumeShow] using hwindow, by simpa [resumeShow] using hitems⟩

/-- A cue arrival keeps the show going if what a RESUME does keeps it (R36 to R40). -/
theorem cueArrivalWith_inShow {resume : State → State} (h : ∀ s, Kept InShow s (resume s)) (cue : Nat) (src : CueSource) (s : State) :
    Kept InShow s (cueArrivalWith resume cue src s) := by
  have hrecord : Kept InShow s (recordCue cue src s) := .inShow_of_stn rfl
  have hcount : ∀ k, Kept InShow s (count k s) := fun k => .inShow_of_stn rfl
  have hroute : ∀ st, Kept InShow s (routeStep st .ofShow (recordCue cue src s)) := fun st => .inShow_of_stn (by simp)
  have hstep : ∀ v, Kept InShow s (stepCue cue v src s) := fun v => .inShow_of_stn (by simp)
  exact .ite (hcount _) <| .ite (hcount _) <| .ite (.inShow_of_stn (by simp)) <| .ite (hrecord.trans (holdEvent_inShow _)) <|
    .ite (hrecord.trans (h _)) <| .ite (.inShow_of_stn (by simp)) <| .ite (.inShow_of_stn (by simp)) <| .ite (hroute _) <|
    .ite (hstep _) <| .ite (hstep _) (hcount _)

theorem routeDueUpTo_inShow (n : Nat) (s : State) : Kept InShow s (routeDueUpTo n s) := by
  induction n generalizing s with
  | zero => exact .refl s
  | succ n ih =>
    unfold routeDueUpTo
    split
    · exact .refl s
    · next r rest _ =>
      have htail : Kept InShow s { s with disp := { s.disp with schedule := rest } } := .inShow_of_stn rfl
      have hrecord : ∀ t, Kept InShow t (routeRecord r t) := fun t =>
        .ite (cueArrivalWith_inShow .refl r.a .follow t) (.inShow_of_stn (by simp))
      exact .ite (htail.trans ((hrecord _).trans (ih _))) (.refl s)

theorem resumeEvent_inShow (s : State) : Kept InShow s (resumeEvent s) :=
  .ite ((resumeShow_inShow s).trans (routeDueUpTo_inShow _ _)) (.refl s)

/-- Outside ACTIVE a HOLD and a RESUME find no show (R166). -/
theorem holdEvent_stationKept (s : State) : StationKept s (holdEvent s) := by
  by_cases hshow : showRunning s = true
  · exact .station_in_show ((showRunning_iff s).mp hshow).1 (holdEvent_inShow s)
  · rw [holdEvent, if_neg hshow]
    exact .refl s

theorem resumeEvent_stationKept (s : State) : StationKept s (resumeEvent s) := by
  by_cases hshow : showHeld s = true
  · exact .station_in_show ((showHeld_iff s).mp hshow).1 (resumeEvent_inShow s)
  · rw [resumeEvent, if_neg hshow]
    exact .refl s

/-- A cue outside ACTIVE is counted and nothing else (R36). -/
theorem cueArrival_stationKept (cue : Nat) (src : CueSource) (s : State) : StationKept s (cueArrival cue src s) := by
  by_cases hactive : s.stn.state = .active
  · exact .station_in_show hactive (cueArrivalWith_inShow resumeEvent_inShow cue src s)
  · rw [cueArrival, cueArrivalWith, if_pos hactive]
    exact .station_same rfl rfl rfl rfl

/-- Records wait in ACTIVE alone (R49). -/
theorem routeDueUpTo_stationKept (n : Nat) (s : State) : StationKept s (routeDueUpTo n s) := fun h => by
  by_cases hactive : s.stn.state = .active
  · exact Kept.station_in_show hactive (routeDueUpTo_inShow n s) h
  · rw [routeDueUpTo_none_due n s fun hrunning => absurd ((showRunning_iff s).mp hrunning).1 hactive]
    exact h

theorem showTick_stationKept (s : State) : StationKept s (showTick s) := by
  by_cases hshow : showRunning s = true
  · have htick : Kept InShow s (tickRecords s) := .inShow_of_stn rfl
    rw [showTick, if_pos hshow]
    exact .station_in_show ((showRunning_iff s).mp hshow).1 (htick.trans (routeDueUpTo_inShow _ _))
  · rw [showTick, if_neg hshow]
    exact .refl s

/-- A direct STEP, accepted in CONFIGURING and ACTIVE alone, may light the lamp there (R43, R172). -/
theorem directStep_stationKept (verb a b : Byte) {s : State} (hopen : s.stn.state = .configuring ∨ s.stn.state = .active) :
    StationKept s (directStep verb a b s) := by
  unfold directStep
  split
  · exact .refl s
  · exact .ite (cueArrival_stationKept _ .follow s) (.station_open hopen (by simp) (by simp) (by simp))

/-! ### Lamp and fan: a lamp out of use stays so (R82, R94, R97) -/

theorem Lamp.burning_extinguish {l : Lamp} {st : LampState} (h : st = .off ∨ st = .tripped ∨ st = .failed) :
    (l.extinguish st).burning = false := by
  rcases h with rfl | rfl | rfl <;> rfl

theorem setLamp_lampOut {l : Lamp} {s : State} (h : LampOut s → l.burning = false) : Kept LampOut s (setLamp l s) := fun hs => by
  rw [LampOut, setLamp_lamp]
  exact h hs

theorem tickedLamp_lampOut (current : Bool) {s : State} (h : LampOut s) : (tickedLamp current s).burning = false := by
  rcases tickedLamp_state current s with hst | ⟨hburning, -⟩
  · rw [Lamp.burning, hst]
    exact h
  · exact absurd hburning (ne_true_of_eq_false h)

theorem meetTrips_burning {l : Lamp} (h : l.burning = false) (tripped : Bool) : (l.meetTrips tripped).burning = false := by
  unfold Lamp.meetTrips
  split
  case h_1 hl | h_2 hl => exact absurd (Lamp.burning_of_state (by simp [hl])) (ne_true_of_eq_false h)
  case h_3 =>
    split
    · exact h
    · exact Lamp.burning_extinguish (.inl rfl)
  all_goals exact h

theorem tripsChanged_lampOut (s : State) (c : Cooling) : Kept LampOut s (tripsChanged { s with cool := c }) := fun h => by
  rw [LampOut, tripsChanged_lamp]
  exact meetTrips_burning h _

theorem updateCeiling_lampOut (s : State) : Kept LampOut s (updateCeiling s) := fun h => by
  obtain ⟨hlamp, -⟩ := updateCeiling_spec s
  rw [LampOut, hlamp, Lamp.applyCeiling]
  split <;> exact h

theorem coolingTick_lampOut (energy : Nat) (s : State) : Kept LampOut s (coolingTick energy s) := by
  have hthermal : ∀ t, Kept LampOut t (testThermal t) := fun t =>
    .ite (.ite (tripsChanged_lampOut t _) (.refl t))
      (.ite ((tripsChanged_lampOut t _).trans (.lampOut_of_lamp rfl)) (.refl t))
  have hheat : ∀ n, Kept LampOut s { s with cool := { s.cool with heat := n } } := fun _ => .lampOut_of_lamp rfl
  have hstages : ∀ t, Kept LampOut t (updateStages t) := fun t => .lampOut_of_lamp rfl
  have hcool : ∀ t, Kept LampOut t (updateCool t) := fun t => .lampOut_of_lamp rfl
  exact (hheat _).trans ((hthermal _).trans ((hstages _).trans ((updateCeiling_lampOut _).trans (hcool _))))

theorem handOver_lampOut (s : State) : Kept LampOut s (handOver s) := by
  have hsum : Kept LampOut s { s with lamp := { s.lamp with energy := 0, ticks := 0 } } := id
  exact .ite (hsum.trans (coolingTick_lampOut _ _)) (.refl s)

theorem failLamp_lampOut (drive : Nat) (l : Lamp) (s : State) : Kept LampOut s (failLamp drive l s) := by
  have hfailed : Kept LampOut s (setLamp (l.extinguish .failed) s) :=
    setLamp_lampOut fun _ => Lamp.burning_extinguish (.inr (.inr rfl))
  exact hfailed.trans (.lampOut_of_lamp rfl)

theorem lampTickIn_lampOut (first current : Bool) (s : State) : Kept LampOut s (lampTickIn first current s) := by
  have htick : Kept LampOut s (setLamp (tickedLamp current s) s) := setLamp_lampOut (tickedLamp_lampOut current)
  have hhand : Kept LampOut s (handOver (setLamp (tickedLamp current s) s)) := htick.trans (handOver_lampOut _)
  have honly : Kept LampOut s (lampTickOnly current s) := .ite (failLamp_lampOut _ _ s) htick
  exact .ite (.ite (hhand.trans (failLamp_lampOut _ _ _)) hhand) (honly.trans (handOver_lampOut _))

theorem lampTick_lampOut (current : Bool) (s : State) : Kept LampOut s (lampTick current s) := by
  have hopen : Kept LampOut s { s with openValues := s.openValues + 1 } := .lampOut_of_lamp rfl
  exact .ite (hopen.trans (lampTickIn_lampOut _ current _)) (lampTickIn_lampOut false current s)

theorem endTachGate_lampOut (s : State) : Kept LampOut s (endTachGate s) := by
  have hstall : ∀ n t, Kept LampOut t (stallTest n t) := fun n t =>
    .ite (.ite (.refl t) (tripsChanged_lampOut t _))
      (.ite ((tripsChanged_lampOut t _).trans (.lampOut_of_lamp rfl)) (.refl t))
  have hread : ∀ n, Kept LampOut s { s with cool := { s.cool with lastTach := n } } := fun _ => .lampOut_of_lamp rfl
  have hnext : ∀ t : State, Kept LampOut t { t with cool := { t.cool with gateCount := 0, stageChanged := false } } := fun _ =>
    .lampOut_of_lamp rfl
  have htested : ∀ n, Kept LampOut s (if gateTested s.cool = true then stallTest n { s with cool := { s.cool with lastTach := n } }
      else { s with cool := { s.cool with lastTach := n } }) := fun n => .ite ((hread n).trans (hstall _ _)) (hread n)
  exact (htested _).trans (hnext _)

theorem takeCutout_lampOut (opened : Bool) (s : State) : Kept LampOut s (takeCutout opened s) := by
  have htrips := tripsChanged_lampOut s { s.cool with cutout := opened }
  exact .ite (.refl s) (.ite (htrips.trans (.lampOut_of_lamp rfl)) htrips)

/-! ### Station states and resets -/

/-- ACTIVE is entered with the show RUNNING and the window over (R163, R165, R169). -/
theorem enterActive_inShow {s : State} (hitems : s.stn.items.consistent = true) : InShow (enterActive s) := by
  simpa [InShow, enterActive] using hitems

theorem closeConfiguration_stationKept (s : State) : StationKept s (closeConfiguration s) :=
  .station_of_inShow fun h => enterActive_inShow h.items

theorem takeWake_stationKept (s : State) : StationKept s (takeWake s) := by
  have hfan : ∀ t, Kept InShow t (chooseFan t) := fun t => .inShow_of_stn rfl
  exact .ite (.station_of_inShow fun h => hfan _ (enterActive_inShow h.items)) (.refl s)

/-- At rest, in COOLING_DOWN, STANDBY or MAINS_LOSS, the laws ask for a lamp out of use, no show, no list, no window and no silence timer. -/
theorem stationLaws_at_rest {s : State} (hshow : s.stn.showState = .none) (hactive : s.stn.state ≠ .active)
    (hlamp : s.lamp.burning = false) (hlist : s.disp.schedule = []) (hwindow : s.stn.window = .off)
    (hsilence : s.loop.silence = .stopped) (hitems : s.stn.items.consistent = true) : StationLaws s :=
  ⟨iff_of_false (fun h => h hshow) hactive, fun hb => absurd hb (ne_true_of_eq_false hlamp), fun h => absurd hlist h,
    fun h => absurd hwindow h, fun h => absurd hsilence h, hitems⟩

theorem coolDown_burning (l : Lamp) : l.coolDown.burning = false := by
  unfold Lamp.coolDown
  split
  · exact Lamp.burning_extinguish (.inl rfl)
  · next h => simpa using h

theorem enterCoolingDown_stn (s : State) :
    (enterCoolingDown s).stn = { s.stn with state := .coolingDown, showState := .none, window := .off } := by
  simp [enterCoolingDown]

theorem enterCoolingDown_loop (s : State) : (enterCoolingDown s).loop = { s.loop with silence := .stopped } := by
  simp [enterCoolingDown, stopSilence]

theorem enterCoolingDown_stationLaws {s : State} (hitems : s.stn.items.consistent = true) : StationLaws (enterCoolingDown s) := by
  have hstn := enterCoolingDown_stn s
  exact stationLaws_at_rest (by rw [hstn]) (by rw [hstn]; exact nofun) (by rw [enterCoolingDown_lamp]; exact coolDown_burning _) rfl
    (by rw [hstn]) (by rw [enterCoolingDown_loop]) (by rw [hstn]; exact hitems)

theorem standbyTest_stationKept (s : State) : StationKept s (standbyTest s) := by
  unfold standbyTest
  split
  · next hstate =>
    obtain ⟨hcooling, -⟩ := hstate
    intro h
    have hrest : s.stn.state ≠ .active := by rw [hcooling]; exact nofun
    have hclosed : s.stn.state ≠ .configuring := by rw [hcooling]; exact nofun
    exact stationLaws_at_rest (not_not.mp fun hn => hrest (h.show_iff.mp hn)) nofun
      (eq_false_of_ne_true fun hb => (h.burning hb).elim hclosed hrest) (not_not.mp fun hn => hrest (h.list hn))
      (not_not.mp fun hn => hclosed (h.window hn)) (not_not.mp fun hn => hrest (h.silence hn)) h.items
  · exact .refl s

theorem takeStandby_stationKept (s : State) : StationKept s (takeStandby s) := fun h =>
  standbyTest_stationKept _ (enterCoolingDown_stationLaws (by split <;> exact h.items))

theorem enterMainsLoss_stn (s : State) :
    (enterMainsLoss s).stn = { s.stn with
      state := .mainsLoss, showState := .none, window := .off, writing := (enterMainsLoss s).stn.writing } := by
  unfold enterMainsLoss
  dsimp only
  split <;> simp [beginWrite]

theorem enterMainsLoss_loop (s : State) : (enterMainsLoss s).loop = { s.loop with silence := .stopped } := by
  unfold enterMainsLoss
  dsimp only
  split <;> simp [stopSilence]

theorem enterMainsLoss_lamp (s : State) : (enterMainsLoss s).lamp = s.lamp.extinguish .off := by
  unfold enterMainsLoss
  dsimp only
  split <;> simp [tellLampAndTray_lamp]

theorem enterMainsLoss_stationLaws {s : State} (hitems : s.stn.items.consistent = true) : StationLaws (enterMainsLoss s) := by
  have hstn := enterMainsLoss_stn s
  exact stationLaws_at_rest (by rw [hstn]) (by rw [hstn]; exact nofun)
    (by rw [enterMainsLoss_lamp]; exact Lamp.burning_extinguish (.inl rfl)) rfl (by rw [hstn]) (by rw [enterMainsLoss_loop])
    (by rw [hstn]; exact hitems)

theorem mainsWarnOn_stationKept (s : State) : StationKept s (mainsWarnOn s) := by
  have hnoted : StationKept s { s with stn := { s.stn with mainsWarn := true } } := fun h => { h with }
  exact .ite hnoted fun h => enterMainsLoss_stationLaws h.items

/-- A reset opens configuration, with lamp, list and silence timer at rest (R22, R50, R102, R174). -/
theorem resetBlocks_stationLaws (kind : ResetKind) {x : Station} (r : Readings) (s : State) (hitems : x.items.consistent = true) :
    StationLaws (resetBlocks kind x r s) := by
  obtain ⟨-, -, hlist, -⟩ := s.disp.atReset_cleared (kind == .powerOn)
  exact ⟨iff_of_false (fun h => h rfl) nofun, nofun, fun h => absurd hlist h, fun _ => rfl, fun h => absurd rfl h, hitems⟩

theorem resetWith_stationLaws (kind : ResetKind) {x : Station} (r : Readings) (s : State) (hitems : x.items.consistent = true) :
    StationLaws (resetWith kind x r s) := by
  obtain ⟨a, htrips, -⟩ := raiseActiveTrips_frame
    (raise .restarted (restartedDetail kind (resetBlocks kind x r s).stn.valid) (resetBlocks kind x r s))
  have hattn : StationKept (resetBlocks kind x r s) { resetBlocks kind x r s with attn := a } := .station_same rfl rfl rfl rfl
  have hfan : ∀ t, StationKept t (fanAtReset kind s.cool.cutout t) := fun t => .ite (.station_same rfl rfl rfl rfl) (.refl t)
  have hwarn : ∀ t, StationKept t (readMainsWarn r.mainsWarn t) := fun t => .ite (mainsWarnOn_stationKept t) (.refl t)
  unfold resetWith
  dsimp only
  rw [htrips]
  exact (hattn.trans ((hfan _).trans (hwarn _))) (resetBlocks_stationLaws kind r s hitems)

/-! ### Commands (R164, R171, R172) -/

/-- A window that runs may be stopped, in CONFIGURING alone (R164). -/
theorem noticeConfig_stationKept (s : State) : StationKept s (noticeConfig s) := by
  unfold noticeConfig
  split
  · next hconfig =>
    obtain ⟨hstate, -⟩ := hconfig
    exact fun h => { h with window := fun _ => hstate }
  · exact .refl s

/-- A CONFIG_SET writes no items that break a cross condition (R170, R171). -/
theorem configSetItem_stationKept (code v : Nat) (s : State) : StationKept s (configSetItem code v s).1 := by
  unfold configSetItem
  split
  · exact .refl s
  · next x _ =>
    split
    · exact .refl s
    · next hconsistent =>
      split
      · exact .refl s
      · exact fun h => { h with items := eq_true_of_ne_false hconsistent }

theorem judgeLoad_stationKept (payload : List Byte) (s : State) : StationKept s (judgeLoad payload s).1 := by
  have hwrite : ∀ e, StationKept s (writeLoad e s) := fun e => by
    cases e with
    | index | pool => exact .station_same rfl rfl (by simp [writeLoad]) rfl
    | curve => exact .station_fields rfl rfl rfl rfl id rfl rfl
  unfold judgeLoad
  repeat' split
  case h_2.isFalse.isFalse => exact hwrite _
  all_goals exact .refl s

/-- A command in a state of its column keeps the laws; with other arguments than its own it does nothing (R172). -/
theorem runCommand_stationKept {c : Cmd} (args : List Byte) {s : State} (h : c.acceptedIn s.stn.state = true) :
    StationKept s (runCommand c args s).1 := by
  have noArgs : c ≠ .step ∧ c ≠ .configSet ∧ c ≠ .ack ∧ c ≠ .attnSet → StationKept s (runCommand c [] s).1 →
      StationKept s (runCommand c args s).1 := fun ⟨h1, h2, h3, h4⟩ hnone => by
    cases args with
    | nil => exact hnone
    | cons => cases c <;> first | contradiction | exact .refl s
  have hattn : ∀ a, StationKept s { s with attn := a } := fun a => .station_same rfl rfl rfl rfl
  cases c with
  | hold => exact noArgs (by decide) (holdEvent_stationKept s)
  | resume => exact noArgs (by decide) (resumeEvent_stationKept s)
  | commit =>
    refine noArgs (by decide) ?_
    dsimp only [runCommand]
    split
    · exact .refl s
    · exact .station_same rfl rfl rfl rfl
  | configClose => exact noArgs (by decide) (closeConfiguration_stationKept s)
  | standby => exact noArgs (by decide) (takeStandby_stationKept s)
  | wake => exact noArgs (by decide) (takeWake_stationKept s)
  | clearCounters => exact noArgs (by decide) (hattn _)
  | reset => exact noArgs (by decide) (.refl s)
  | step =>
    have hopen : s.stn.state = .configuring ∨ s.stn.state = .active := by simpa [Cmd.acceptedIn] using h
    match args with
    | [v, a, b] =>
      dsimp only [runCommand]
      split
      · exact .refl s
      · exact directStep_stationKept v a b hopen
    | [] | [_] | [_, _] | _ :: _ :: _ :: _ :: _ => exact .refl s
  | configSet =>
    match args with
    | [item, hi, lo] => exact configSetItem_stationKept item.toNat (word16 hi lo) s
    | [] | [_] | [_, _] | _ :: _ :: _ :: _ :: _ => exact .refl s
  | ack =>
    match args with
    | [code] =>
      dsimp only [runCommand]
      split
      · exact hattn _
      · exact .refl s
    | [] | _ :: _ :: _ => exact .refl s
  | attnSet =>
    match args with
    | [code, enable, level] =>
      dsimp only [runCommand]
      split
      · split
        · exact hattn _
        · exact .refl s
      · exact .refl s
    | [] | [_] | [_, _] | _ :: _ :: _ :: _ :: _ => exact .refl s

theorem judgeCommand_stationKept (payload : List Byte) (s : State) : StationKept s (judgeCommand payload s).1 := by
  unfold judgeCommand
  split
  · exact .refl s
  · split
    · exact .refl s
    · next c _ =>
      have hnotice : StationKept s (if c.configClass = true then noticeConfig s else s) := .ite (noticeConfig_stationKept s) (.refl s)
      dsimp only
      generalize (if c.configClass = true then noticeConfig s else s) = u at hnotice ⊢
      split
      · next haccepted => exact hnotice.trans (runCommand_stationKept _ haccepted)
      · exact hnotice

end Sys2Proof.Machine

-- ==== Sys2Proof/Proofs/StationSteps.lean ====
/-! PROOF. Every step keeps the laws of station and configuration items: the line leaves the silence timer alone, a frame is judged at its
CHECK, and keys, tape and ticks reach the station by the operations before. -/

namespace Sys2Proof.Machine

open Sys2Proof (Byte Key KeySamples Frame Instr)

/-! ### The line leaves the silence timer alone (R20) -/

@[simp] theorem setRx_silence (r : Rx) (s : State) : (setRx r s).loop.silence = s.loop.silence := rfl

@[simp] theorem undoProvisional_silence (s : State) : (undoProvisional s).loop.silence = s.loop.silence := rfl

@[simp] theorem endFrame_silence (p : Passage) (s : State) : (endFrame p s).loop.silence = s.loop.silence := by simp [endFrame]

@[simp] theorem failFrame_silence (p : Passage) (r : Rx) (s : State) : (failFrame p r s).loop.silence = s.loop.silence := by
  simp [failFrame]

@[simp] theorem passOn_silence (p : Passage) (b x : Byte) (s : State) : (passOn p b x s).loop.silence = s.loop.silence := by
  unfold passOn
  dsimp only
  split <;> simp

@[simp] theorem afterCheck_silence (k : FrameKind) (p : Passage) (b : Byte) (s : State) :
    (afterCheck k p b s).loop.silence = s.loop.silence := by
  unfold afterCheck
  dsimp only
  split <;> simp

@[simp] theorem trailerByte_silence (p : Passage) (second : Bool) (b : Byte) (s : State) :
    (trailerByte p second b s).loop.silence = s.loop.silence := by
  unfold trailerByte
  dsimp only
  (repeat' split) <;> simp

@[simp] theorem pollByte_silence (p : Passage) (b : Byte) (s : State) : (pollByte p b s).loop.silence = s.loop.silence := by
  unfold pollByte
  split <;> simp

@[simp] theorem assignByte_silence (p : Passage) (b : Byte) (s : State) : (assignByte p b s).loop.silence = s.loop.silence := by
  unfold assignByte
  split <;> simp

@[simp] theorem quietByte_silence (b : Byte) (s : State) : (quietByte b s).loop.silence = s.loop.silence := by
  unfold quietByte
  split <;> simp [beginFrame]

@[simp] theorem byteTick_silence (s : State) : (byteTick s).loop.silence = s.loop.silence := by
  unfold byteTick
  split <;> simp

@[simp] theorem byteFor_silence (n : Nat) (s : State) : (byteFor n s).loop.silence = s.loop.silence := by
  induction n generalizing s with
  | zero => rfl
  | succ n ih => rw [byteFor, ih, byteTick_silence]

@[simp] theorem endByIdle_silence (s : State) : (endByIdle s).loop.silence = s.loop.silence := by
  unfold endByIdle
  (repeat' split) <;> simp

@[simp] theorem idleTick_silence (s : State) : (idleTick s).loop.silence = s.loop.silence := by
  unfold idleTick
  (repeat' split) <;> simp [spaceTick]

@[simp] theorem idleFor_silence (n : Nat) (s : State) : (idleFor n s).loop.silence = s.loop.silence := by
  induction n generalizing s with
  | zero => rfl
  | succ n ih => rw [idleFor, ih, idleTick_silence]

@[simp] theorem lineReady_silence (s : State) : (lineReady s).loop.silence = s.loop.silence := by simp [lineReady, markAgain]

@[simp] theorem takeBrokenByte_silence (held : Nat) (s : State) : (takeBrokenByte held s).loop.silence = s.loop.silence := by
  unfold takeBrokenByte
  dsimp only
  split <;> simp [noteByte]

@[simp] theorem startOriginated_silence (s : State) : (startOriginated s).loop.silence = s.loop.silence := by
  unfold startOriginated
  (repeat' split) <;> rfl

@[simp] theorem offerFrame_silence (x : OrigFrame) (s : State) : (offerFrame x s).loop.silence = s.loop.silence := by
  unfold offerFrame
  (repeat' split) <;> simp

/-! ### Frames -/

/-- The silence timer restarted runs in ACTIVE (R20). -/
theorem restartSilence_stationKept (s : State) : StationKept s (restartSilence s) := by
  by_cases hactive : s.stn.state = .active
  · exact .station_in_show hactive (.inShow_of_stn (by simp))
  · rw [restartSilence, if_neg fun h => hactive h.1]
    exact .refl s

theorem takePosition_stationKept (p : Passage) (s : State) : StationKept s (takePosition p s) :=
  .station_same (by simp) (by simp) (by simp) (by rw [takePosition_loop])

theorem passOn_stationKept (p : Passage) (b x : Byte) (s : State) : StationKept s (passOn p b x s) :=
  .station_same (by simp) (by simp) (by simp) (by simp)

theorem takeCue_stationKept (payload : List Byte) (s : State) : StationKept s (takeCue payload s) := by
  unfold takeCue
  split
  · exact .ite (cueArrival_stationKept _ .loop s) (.refl s)
  · exact .refl s

theorem takeAssign_stationKept (s : State) : StationKept s (takeAssign s) := by
  refine (noticeConfig_stationKept s).trans ?_
  unfold takeAssign
  dsimp only
  split
  · exact .station_same rfl rfl rfl rfl
  · exact .refl _

theorem actOn_stationKept (k : FrameKind) (p : Passage) (s : State) : StationKept s (actOn k p s).1 := by
  cases k with
  | cue => exact takeCue_stationKept p.payload s
  | poll => exact .station_same rfl rfl rfl rfl
  | query | remote => exact .refl s
  | assign => exact .ite (takeAssign_stationKept s) (.refl s)
  | command =>
    simp only [actOn]
    split
    · exact judgeCommand_stationKept p.payload s
    · exact .refl s
  | load =>
    simp only [actOn]
    split
    · exact (noticeConfig_stationKept s).trans (judgeLoad_stationKept p.payload _)
    · exact .refl s

theorem goodFrame_stationKept (k : FrameKind) (p : Passage) (s : State) : StationKept s (goodFrame k p s).1 := by
  have hbefore : StationKept s (restartSilence (takePosition p s)) :=
    (takePosition_stationKept p s).trans (restartSilence_stationKept _)
  unfold goodFrame
  dsimp only
  split
  · exact hbefore.trans (actOn_stationKept k p _)
  · exact hbefore.trans (.station_same rfl rfl rfl rfl)

theorem checkByte_stationKept (p : Passage) (b : Byte) (s : State) : StationKept s (checkByte p b s) := by
  have hemit : ∀ x t, StationKept t (emit x false t) := fun x t => .station_same (by simp) (by simp) (by simp) (by simp)
  have hafter : ∀ k q t, StationKept t (afterCheck k q b t) := fun k q t =>
    .station_same (by simp) (by simp) (by simp) (by simp)
  have hend : ∀ t, StationKept t (endFrame p t) := fun t => .station_same (by simp) (by simp) (by simp) (by simp)
  have hcount : ∀ k t, StationKept t (count k t) := fun k t => .station_same rfl rfl rfl rfl
  have hundo : ∀ t, StationKept t (undoProvisional t) := fun t => .station_same rfl rfl rfl rfl
  unfold checkByte
  split
  · exact (Kept.ite ((hemit b s).trans (restartSilence_stationKept _)) (hemit b s)).trans ((hcount _ _).trans (hend _))
  · next k _ =>
    have hgood := (goodFrame_stationKept k p s).trans ((hemit p.txCheck _).trans (hafter k (goodFrame k p s).2 _))
    have hbad := (hcount .checkFail s).trans ((hundo _).trans ((hemit (~~~p.txCheck) _).trans (hafter k p _)))
    exact .ite ((Kept.ite (restartSilence_stationKept s) (.refl s)).trans (hend _)) (.ite hgood hbad)

/-- A look at the mirror touches the banks alone (R32). -/
theorem queryByte_stationKept (p : Passage) (b : Byte) (s : State) : StationKept s (queryByte p b s) := by
  have hanswer : ∀ fields area, StationKept s (answerQuery fields area s).2 := fun fields area => by
    rcases answerQuery_state fields area s with hstate | hstate <;> rw [hstate]
    · exact .refl s
    · exact .ite (.station_same rfl rfl rfl rfl) (.refl s)
  exact .ite ((hanswer _ _).trans (passOn_stationKept _ _ _ _)) (passOn_stationKept _ _ _ _)

theorem payloadByte_stationKept (p : Passage) (b : Byte) (s : State) : StationKept s (payloadByte p b s) := by
  have hpass := passOn_stationKept p b b s
  have hpoll : StationKept s (pollByte p b s) := .station_same (by simp) (by simp) (by simp) (by simp)
  have hassign : StationKept s (assignByte p b s) := .station_same (by simp) (by simp) (by simp) (by simp)
  unfold payloadByte
  split
  · exact passOn_stationKept _ _ _ s
  · split
    case h_1 => exact .ite hpoll hpass
    case h_2 => exact queryByte_stationKept p b s
    case h_3 => exact .ite hassign hpass
    all_goals exact hpass

theorem frameByte_stationKept (p : Passage) (b : Byte) (s : State) : StationKept s (frameByte p b s) := by
  have htrailer : ∀ second, StationKept s (trailerByte p second b s) := fun second =>
    .station_same (by simp) (by simp) (by simp) (by simp)
  have hlength : StationKept s (lengthByte p b s) :=
    .ite ((passOn_stationKept p b b s).trans (.station_same (by simp) (by simp) (by simp) (by simp))) (passOn_stationKept p b b s)
  unfold frameByte
  split
  case h_1 | h_2 => exact passOn_stationKept p b b s
  case h_3 => exact passOn_stationKept _ b b s
  case h_4 => exact .ite (passOn_stationKept p b b s) (passOn_stationKept p b _ s)
  case h_5 => exact hlength
  case h_6 => exact .ite (payloadByte_stationKept p b s) (.ite (checkByte_stationKept p b s) (htrailer _))

theorem rxByte_stationKept (b : Byte) (s : State) : StationKept s (rxByte b s) := by
  have hpass : StationKept s (passByte s) := .station_same (by simp) (by simp) (by simp) (by simp)
  have hnote : ∀ t, StationKept t (noteByte t) := fun t => .station_same rfl rfl rfl rfl
  refine hpass.trans (Kept.trans ?_ (hnote _))
  split
  · exact .station_same (by simp) (by simp) (by simp) (by simp)
  · exact .refl _
  · exact frameByte_stationKept _ b _

theorem rxBytes_stationKept (bs : List Byte) (s : State) : StationKept s (rxBytes bs s) :=
  .foldl (fun s b => rxByte_stationKept b s) bs s

theorem idleFor_stationKept (n : Nat) (s : State) : StationKept s (idleFor n s) :=
  .station_same (by simp) (by simp) (by simp) (by simp)

theorem lineReady_stationKept (s : State) : StationKept s (lineReady s) := .station_same (by simp) (by simp) (by simp) (by simp)

theorem frameArrives_stationKept (f : Frame) (bytes : List Byte) (s : State) : StationKept s (frameArrives f bytes s) := by
  have hafter : ∀ t, StationKept t (byteFor f.bits t) := fun t => .station_same (by simp) (by simp) (by simp) (by simp)
  exact (lineReady_stationKept s).trans ((idleFor_stationKept f.gap _).trans ((rxBytes_stationKept _ _).trans (hafter _)))

theorem strayRun_stationKept (gap : Nat) (bytes : List Byte) (s : State) : StationKept s (strayRun gap bytes s) :=
  (lineReady_stationKept s).trans ((idleFor_stationKept gap _).trans ((rxBytes_stationKept bytes _).trans
    (idleFor_stationKept Config.frameGap _)))

/-! ### The tape's cues, the pendant and the silent loop (R21, R150, R157) -/

/-- A change of the decoder alone. -/
theorem Kept.station_dec (s : State) (d : Decoder) : StationKept s { s with dec := d } := .station_same rfl rfl rfl rfl

theorem handOn_stationKept (cue : Nat) (s : State) : StationKept s (handOn cue s) := by
  have hoffer : ∀ x t, StationKept t (offerFrame x t) := fun x t => .station_same (by simp) (by simp) (by simp) (by simp)
  exact (cueArrival_stationKept cue .tape s).trans (.ite (hoffer _ _) (.refl _))

theorem readSample_stationKept (q : Nat) (v : Bool) (s : State) : StationKept s (readSample q v s) := by
  have hcount : ∀ k t, StationKept t (count k t) := fun k t => .station_same rfl rfl rfl rfl
  have hmeet : ∀ w t, StationKept t (meetCandidate w t) := fun w t => by
    unfold meetCandidate
    split
    · exact .station_dec t _
    · exact .ite ((Kept.station_dec t _).trans (handOn_stationKept _ _)) ((Kept.station_dec t _).trans (hcount _ _))
  have hset : ∀ st t, StationKept t (setDecoder st t) := fun st t => .station_dec t _
  have hgood : ∀ w t, StationKept t (goodWord w t) := fun w t => .ite (hset _ t) ((hset .hunting t).trans (hmeet w _))
  have hfail : ∀ kind t, StationKept t (wordFail kind t) := fun kind t => .station_same rfl rfl rfl rfl
  have hbit : ∀ t d, StationKept t { t with dec := d } := Kept.station_dec
  exact .ite (.ite ((hset _ s).trans (hbit _ _)) ((hset _ s).trans ((hbit _ _).trans (hfail 1 _)))) <|
    .ite (.ite ((hset _ s).trans (hgood _ _)) ((hset _ s).trans (hfail 2 _))) (.ite ((hset _ s).trans (hbit _ _)) (hset _ s))

theorem readWordUpTo_stationKept (data : Byte) (parity stop : Bool) (n : Nat) (s : State) :
    StationKept s (readWordUpTo data parity stop n s) := by
  induction n generalizing s with
  | zero => exact .refl s
  | succ n ih =>
    unfold readWordUpTo
    split
    · exact (readSample_stationKept _ _ s).trans (ih _)
    · exact .refl s

theorem pulseSample_stationKept (mark : Bool) (s : State) : StationKept s (pulseSample mark s) := by
  have hdec := Kept.station_dec s
  have hend : StationKept s (endBurst s) := .ite ((hdec _).trans (handOn_stationKept 248 _)) (hdec _)
  have hlengthen : StationKept s (lengthenBurst s) :=
    .ite ((hdec _).trans ((Kept.station_dec _ _).trans (handOn_stationKept 249 _))) (hdec _)
  unfold pulseSample
  split
  case h_1 => exact .ite (hdec _) (.refl s)
  case h_2 => exact .ite hlengthen (.ite (hdec _) hend)
  case h_3 => exact .ite (hdec _) (.ite (hdec _) (hdec _))
  all_goals exact .refl s

theorem takeSample_stationKept (age : Nat) (s : State) : StationKept s (takeSample age s) := by
  have hdec := Kept.station_dec s
  have hword : ∀ v, StationKept s (wordSample v s) := fun v => by
    unfold wordSample
    split
    case h_1 => exact .ite (.refl s) (hdec _)
    case h_2 => exact .ite (hdec _) (.ite (hdec _) (hdec _))
    case h_3 => exact readSample_stationKept _ v s
    all_goals exact .refl s
  unfold takeSample
  split
  case h_1 => exact .refl s
  case h_2 | h_3 | h_4 => exact hword _
  all_goals exact pulseSample_stationKept _ s

/-- A key acts on the part in CONFIGURING and ACTIVE alone; elsewhere it wakes the station or does nothing (R155, R156). -/
theorem recognizePress_stationKept (k : Key) (s : State) : StationKept s (recognizePress k s) := by
  have hremote : ∀ (t : State) r, StationKept t { t with remote := r } := fun t r => .station_same rfl rfl rfl rfl
  have hrelay : ∀ k t, StationKept t (relayKey k t) := fun k t => by
    have hoffer : StationKept t (offerFrame (.remote k) t) := .station_same (by simp) (by simp) (by simp) (by simp)
    exact .ite hoffer (.refl t)
  have hkey : ∀ t, t.stn.state = .configuring ∨ t.stn.state = .active → StationKept t (keyAction k t) := fun t hopen => by
    have hmove : ∀ c, StationKept t (offerMove (.step c) false .direct t) := fun c =>
      .station_same (by simp) (by simp) (by simp) (by simp)
    have hdark : StationKept t (requestDark t) := .station_open hopen (by simp) (by simp) (by simp)
    have htoggle : StationKept t (holdToggle t) := .ite (resumeEvent_stationKept t) (holdEvent_stationKept t)
    cases k with
    | fwd | rev => exact .ite (hmove _) (hrelay _ t)
    | hold => exact .ite (.refl t) (.ite htoggle (hrelay _ t))
    | dark => exact .ite hdark (hrelay _ t)
    | focusIn | focusOut => exact .refl t
  have hact : ∀ t, StationKept t (actOnPress k t) := fun t => by
    unfold actOnPress
    split
    case h_1 hstate => exact hkey t (.inl hstate)
    case h_2 hstate => exact hkey t (.inr hstate)
    case h_3 | h_4 => exact (hremote t _).trans (takeWake_stationKept _)
    case h_5 => exact hremote t _
  exact (Kept.ite (hremote s _) ((hremote s _).trans (hact _))).trans (hremote _ _)

theorem takeScan_stationKept (x : KeySamples) (order : List Key) (s : State) : StationKept s (takeScan x order s) := by
  have hremote : ∀ (t : State) r, StationKept t { t with remote := r } := fun t r => .station_same rfl rfl rfl rfl
  have hkey : ∀ t k, StationKept t (recognizeKey t k) := fun t k =>
    .ite (.ite (hremote t _) (recognizePress_stationKept k t)) (.refl t)
  exact (hremote s _).trans (.foldl hkey (order ++ allKeys) _)

/-- The silence timer runs in ACTIVE alone, so that its policy finds a show (R20, R21). -/
theorem expireSilence_stationKept (s : State) : StationKept s (expireSilence s) := by
  unfold expireSilence
  split
  · next hrunning =>
    intro h
    have hactive : s.stn.state = .active := h.silence (by rw [hrunning]; exact nofun)
    have hexpire : ∀ n x, Kept InShow s (raise .loopSilent n { s with loop := x }) := fun _ _ => .inShow_of_stn rfl
    have hdark : ∀ t, Kept InShow t (requestLamp 0 10 .direct t) := fun t => .inShow_of_stn (by simp)
    refine Kept.station_in_show hactive ?_ h
    dsimp only
    split
    · exact hexpire _ _
    · exact (hexpire _ _).trans (holdEvent_inShow _)
    · exact (hexpire _ _).trans (hdark _)
    · exact (hexpire _ _).trans ((holdEvent_inShow _).trans (hdark _))
  · exact .refl s

/-! ### A step -/

/-- What is done in a state of the blocks that a test of the standby condition follows (R168). -/
theorem Kept.station_tested {s t : State} (h : StationKept s t) : StationKept s (standbyTest t) := h.trans (standbyTest_stationKept t)

theorem itemsDefault_consistent : Items.default.consistent = true := by decide

/-- Every command is a change of the state that keeps the laws. -/
theorem exec_stationKept (i : Instr) (s : State) : ∃ t, exec i s = .next t ∧ StationKept s t := by
  have hframe : ∀ f bytes, StationKept s (whenRunning (frameArrives f bytes) s) := fun f bytes =>
    (frameArrives_stationKept f bytes s).whenRunning
  have hpulse : ∀ (c : Prop) [Decidable c] (m : Bool), StationKept s (if c then pulseSample m s else s) := fun c _ m =>
    .ite (pulseSample_stationKept m s) (.refl s)
  have hlamp : ∀ {t : State}, t.stn = s.stn → t.disp = s.disp → t.loop = s.loop → Kept LampOut s t → StationKept s t :=
    Kept.station_lamp
  have hreset : ∀ kind x r, x.items = s.stn.items → StationKept s (resetWith kind x r s) := fun kind x r hx h =>
    resetWith_stationLaws kind r s (by rw [hx]; exact h.items)
  cases i
  case cueFrame | poll | query | load | remoteFrame | assign | unknownKind | lengthAbove32 | unknownCommandCode | step | hold | resume |
      commit | configSet | configClose | standby | wake | ack | attnSet | clearCounters | reset =>
    exact ⟨_, rfl, hframe _ _⟩
  case strayByteRun gap bytes => exact ⟨_, rfl, (strayRun_stationKept gap bytes s).whenRunning⟩
  case loopSilenceExpiry => exact ⟨_, rfl, (expireSilence_stationKept s).whenRunning⟩
  case loopReset r => exact ⟨_, rfl, (Kept.ite (hreset .loop s.stn r rfl) (.refl s)).whenRunning⟩
  case powerOn st r => exact ⟨_, rfl, fun _ => resetWith_stationLaws .powerOn r s itemsDefault_consistent⟩
  case pinReset st r => exact ⟨_, rfl, .ite (.refl s) (hreset .pin _ r rfl)⟩
  case brownoutRestart st r => exact ⟨_, rfl, (Kept.ite (hreset .brownout (s.stn.latch st) r rfl) (.refl s)).whenRunning⟩
  case showTick => exact ⟨_, rfl, (showTick_stationKept s).whenRunning⟩
  case scheduledRecordDue => exact ⟨_, rfl, (routeDueUpTo_stationKept _ s).whenRunning⟩
  case mirrorComplete =>
    have hmirror : StationKept s (completeMirror s) := .station_same rfl rfl s.disp.mirrorComplete_schedule rfl
    exact ⟨_, rfl, hmirror.whenRunning⟩
  case configWindowExpiry => exact ⟨_, rfl, (Kept.ite (closeConfiguration_stationKept s) (.refl s)).whenRunning⟩
  case standbyCondition => exact ⟨_, rfl, (standbyTest_stationKept s).whenRunning⟩
  case mainsWarnAssert => exact ⟨_, rfl, (mainsWarnOn_stationKept s).whenRunning⟩
  case retainedWriteEnd =>
    have hwrite : StationKept s (endWrite s) := by
      unfold endWrite
      split
      · exact fun h => { h with }
      · exact .refl s
    exact ⟨_, rfl, hwrite.whenRunning⟩
  case mainsWarnDeassert =>
    have hnoted : StationKept s (mainsWarnOff s) := fun h => { h with }
    exact ⟨_, rfl, hnoted.whenRunning⟩
  case pinResetAssert =>
    have hheld : StationKept s (assertPin s) := fun h => { h with }
    exact ⟨_, rfl, hheld.whenRunning⟩
  case supplyFall => exact ⟨_, rfl, fun h => { h with }⟩
  case lampTick c =>
    exact ⟨_, rfl, (hlamp (by simp) (by simp) (by simp) (lampTick_lampOut c s)).station_tested.whenRunning⟩
  case lampRampEnd c =>
    exact ⟨_, rfl, (Kept.ite (hlamp (by simp) (by simp) (by simp) (lampTick_lampOut c s)).station_tested (.refl s)).whenRunning⟩
  case lampFailed =>
    exact ⟨_, rfl,
      (Kept.ite (hlamp (by simp) (by simp) (by simp) (lampTickIn_lampOut false false s)).station_tested (.refl s)).whenRunning⟩
  case coolingTick c =>
    exact ⟨_, rfl,
      (Kept.ite (hlamp (by simp) (by simp) (by simp) (lampTickIn_lampOut true c s)).station_tested (.refl s)).whenRunning⟩
  case tachGateEnd => exact ⟨_, rfl, (hlamp (by simp) (by simp) (by simp) (endTachGate_lampOut s)).whenRunning⟩
  case cutoutChange opened =>
    exact ⟨_, rfl, (hlamp (by simp) (by simp) (by simp) (takeCutout_lampOut opened s)).whenRunning⟩
  case tapeWord data parity stop => exact ⟨_, rfl, (readWordUpTo_stationKept data parity stop 50 s).whenRunning⟩
  case burstEnd | burstLimit | spentEnd => exact ⟨_, rfl, (hpulse _ _).whenRunning⟩
  case cueTrackSample age => exact ⟨_, rfl, (takeSample_stationKept age s).whenRunning⟩
  case keyPress k => exact ⟨_, rfl, (Kept.ite (.refl s) (recognizePress_stationKept k s)).whenRunning⟩
  case keyScan samples order => exact ⟨_, rfl, (takeScan_stationKept samples order s).whenRunning⟩
  case spinUpElapsed => exact ⟨_, rfl, .whenRunning (.ite (.station_same rfl rfl rfl rfl) (.refl s))⟩
  case trayCodeChange | liftTimeout | indexPulse | indexTimeout | camHome | dropTimeout | settleEnd | cassetteChange | brakeTimerExpiry |
      reelSilenceExpiry =>
    exact ⟨_, rfl, .whenRunning (.station_tested (.station_same (by simp) (by simp) (by simp) (by simp)))⟩
  case homingPassLimit =>
    exact ⟨_, rfl, .whenRunning (.ite (.station_tested (.station_same (by simp) (by simp) (by simp) (by simp))) (.refl s))⟩
  all_goals exact ⟨_, rfl, .whenRunning (.station_same (by (repeat' split) <;> simp) (by (repeat' split) <;> simp)
    (by (repeat' split) <;> simp) (by (repeat' split) <;> simp))⟩

/-- Settles O57: a step idles, or is a command on the queue's rest. -/
theorem stepKeepsStationLaw : Obligations.StepKeepsStationLaw := by
  unfold Obligations.StepKeepsStationLaw
  intro s s' hlaws hstep
  rw [← stationLaws_iff] at hlaws ⊢
  unfold step at hstep
  split at hstep
  · obtain rfl := Host.Outcome.next.inj hstep
    exact hlaws
  · next i rest _ =>
    have hrest : StationLaws { s with pending := rest } := { hlaws with }
    obtain ⟨t, ht, hkept⟩ := exec_stationKept i { s with pending := rest }
    obtain rfl := Host.Outcome.next.inj (ht.symm.trans hstep)
    exact hkept hrest

end Sys2Proof.Machine

-- ==== Sys2Proof/Proofs/StationEvents.lean ====
/-! PROOF. Every command answers a next state; the part held by its RESET pin, its shutter and its MUTE; the window's expiry and the standby
condition. -/

namespace Sys2Proof.Machine

open Sys2Proof (Instr Readings)

/-! ### Every command answers a next state -/

theorem whenRunning_pending {f : State → State} {s : State} (h : (f s).pending = s.pending) :
    (whenRunning f s).pending = s.pending := by
  unfold whenRunning
  split
  · exact h
  · rfl

theorem whenRunning_of_not_running (f : State → State) {s : State} (h : s.power ≠ .running) : whenRunning f s = s := if_neg h

/-- A reset leaves the queue as it is (log 1). -/
theorem resetWith_pending (kind : ResetKind) (x : Station) (r : Readings) (s : State) : (resetWith kind x r s).pending = s.pending := by
  obtain ⟨a, htrips, -⟩ := raiseActiveTrips_frame
    (raise .restarted (restartedDetail kind (resetBlocks kind x r s).stn.valid) (resetBlocks kind x r s))
  have hfan : ∀ t, (fanAtReset kind s.cool.cutout t).pending = t.pending := fun t => by
    unfold fanAtReset
    split <;> rfl
  have hwarn : ∀ t, (readMainsWarn r.mainsWarn t).pending = t.pending := fun t => by
    unfold readMainsWarn
    split
    · simp
    · rfl
  unfold resetWith
  dsimp only
  rw [htrips, hwarn, hfan]
  rfl

/-- A reset that waits for its moment. -/
theorem resetWhen_pending (c : Prop) [Decidable c] (kind : ResetKind) (x : Station) (r : Readings) (s : State) :
    (if c then resetWith kind x r s else s).pending = s.pending := by
  split
  · exact resetWith_pending kind x r s
  · rfl

/-- Every command is a change of the state that leaves the queue as it is (log 1). -/
theorem exec_next (c : Instr) (s : State) : ∃ t, exec c s = .next t ∧ t.pending = s.pending := by
  cases c
  case powerOn st r => exact ⟨_, rfl, resetWith_pending .powerOn _ r s⟩
  case pinReset st r =>
    refine ⟨_, rfl, ?_⟩
    split
    · rfl
    · exact resetWith_pending .pin _ r s
  case loopReset r => exact ⟨_, rfl, whenRunning_pending (resetWhen_pending _ .loop s.stn r s)⟩
  case brownoutRestart st r => exact ⟨_, rfl, whenRunning_pending (resetWhen_pending _ .brownout (s.stn.latch st) r s)⟩
  case supplyFall => exact ⟨_, rfl, rfl⟩
  case mainsWarnDeassert | mirrorComplete => exact ⟨_, rfl, whenRunning_pending rfl⟩
  case strayByteRun => exact ⟨_, rfl, whenRunning_pending (by simp [strayRun])⟩
  case spinUpElapsed => exact ⟨_, rfl, whenRunning_pending (by unfold elapseSpinUp; split <;> rfl)⟩
  all_goals exact ⟨_, rfl, whenRunning_pending (by (repeat' split) <;> simp)⟩

/-- Settles O2: but for the resets and the fall of the supply, a command is what it does while the part runs. -/
theorem everyCommandAnswersNext : Obligations.EveryCommandAnswersNext := by
  unfold Obligations.EveryCommandAnswersNext
  intro c s
  refine ⟨exec_next c s, fun hpower => ?_⟩
  have hstands : ∀ f, Host.Outcome.next (whenRunning f s) = (Host.Outcome.next s : Host.Outcome State Fault Refusal) := fun f =>
    congrArg Host.Outcome.next (whenRunning_of_not_running f hpower)
  cases c
  case powerOn | pinReset | supplyFall => rfl
  all_goals exact hstands _

/-! ### The held part and its outputs (R173, R54, R67, R68, R137) -/

theorem shutterClosed_cycle {s : State} (h : s.tray.inCycle = true ∨ s.tray.state = .jammed) : shutterClosed s = true := by
  unfold shutterClosed
  unfold Transport.inCycle at h
  split
  · rfl
  · rfl
  all_goals
    next hstate => simp [hstate] at h

theorem shutterClosed_standing {s : State} (h : s.tray.state = .idle ∨ s.tray.state = .noTray) :
    shutterClosed s = decide (s.tray.demand = .closed) := by
  rcases h with h | h <;> simp only [shutterClosed, h] <;> rfl

theorem mute_iff {s : State} (hsupply : s.power ≠ .off) :
    mute s = true ↔ s.power = .held ∨ s.deck.state ≠ .playing ∨ s.deck.volume = 0 ∨
      s.stn.state = .coolingDown ∨ s.stn.state = .standby ∨ s.stn.state = .mainsLoss := by
  have hheld : s.power ≠ .running ↔ s.power = .held := by
    cases hp : s.power <;> simp_all
  simp only [mute, mutedState, Bool.or_eq_true, bne_iff_ne, beq_iff_eq, hheld, or_assoc, ne_eq]

/-- A drive of a part that does not run is off (R173). -/
theorem whileRunning_of_not_running {s : State} (h : s.power ≠ .running) (on : Bool) : whileRunning s on = false := by
  simp [whileRunning, h]

/-- Settles O31, by the tray's states, the lines of MUTE, and the outputs of a held part. -/
theorem pinAssertHoldsPart : Obligations.PinAssertHoldsPart := by
  unfold Obligations.PinAssertHoldsPart
  refine ⟨fun s hsupply => ⟨shutterClosed_cycle, shutterClosed_standing, mute_iff hsupply⟩, fun s hrunning => ?_⟩
  have hexec : exec .pinResetAssert s = .next (assertPin s) := congrArg Host.Outcome.next (if_pos hrunning)
  have hheld : (assertPin s).power ≠ .running := nofun
  have hdrive := whileRunning_of_not_running hheld
  exact ⟨_, hexec, rfl, if_neg hheld, hdrive _, hdrive _, hdrive _, hdrive _, hdrive _, hdrive _, hdrive _, hdrive _, rfl, rfl, rfl, rfl,
    rfl⟩

/-! ### The window and the standby condition (R164, R165, R168) -/

theorem fanWanted_standby {s : State} (hstate : s.stn.state = .standby) (hlamp : s.lamp.burning = false) :
    fanWanted s = if s.cool.tripped then 3 else 0 := by
  simp [fanWanted, hstate, hlamp]

/-- The standby condition holds in COOLING_DOWN with the lamp out: the fan runs for a trip cause alone (R107, R168). -/
theorem standbyTest_settled {s : State} (hstate : s.stn.state = .coolingDown) (hcool : s.cool.cool = true)
    (hcycle : s.tray.inCycle = false) (hdeck : s.deck.state = .stopped ∨ s.deck.state = .noCassette) (hlamp : s.lamp.burning = false) :
    standbyTest s = { s with
      stn := { s.stn with state := .standby }
      cool := s.cool.setStage (if s.cool.tripped then 3 else 0) } := by
  have hsettled : s.deck.settled = true := by simpa [Deck.settled] using hdeck
  have hfan : fanWanted { s with stn := { s.stn with state := .standby } } = if s.cool.tripped then 3 else 0 :=
    fanWanted_standby rfl hlamp
  rw [standbyTest, if_pos ⟨hstate, by simp [standbyCondition, hcool, hcycle, hsettled]⟩, chooseFan, hfan]

theorem standbyTest_not_due {s : State} (h : s.stn.state ≠ .coolingDown ∨ s.cool.cool = false) : standbyTest s = s := by
  refine if_neg fun ⟨hstate, hcondition⟩ => ?_
  rcases h with h | h
  · exact h hstate
  · simp [standbyCondition, h] at hcondition

/-- Configuration closes: but for the silence timer, the commit and the Station Controller are all that changes (R165, R20). -/
theorem closeConfiguration_eq (s : State) :
    (closeConfiguration s).loop.silence = (if s.stn.items.silenceTimeout ≠ 0 then .running else s.loop.silence) ∧
    closeConfiguration s = { s with
      loop := (closeConfiguration s).loop
      disp := s.disp.closeCommit
      stn := { s.stn with state := .active, showState := .running, lock := true, window := .off } } := by
  unfold closeConfiguration enterActive lockConfiguration
  refine ⟨by simp [restartSilence_loop], ?_⟩
  unfold restartSilence
  split <;> rfl

/-- Settles O33, by the window's marks and the terms of the standby condition. -/
theorem windowExpiryAndStandbyCondition : Obligations.WindowExpiryAndStandbyCondition := by
  unfold Obligations.WindowExpiryAndStandbyCondition
  intro s hrunning
  have hwindow : exec .configWindowExpiry s = .next (if windowRuns s then closeConfiguration s else s) :=
    congrArg Host.Outcome.next (if_pos hrunning)
  have htest : exec .standbyCondition s = .next (standbyTest s) := congrArg Host.Outcome.next (if_pos hrunning)
  rw [hwindow, htest]
  refine ⟨fun hstate hruns => ?_, fun hno => ?_, fun hstate hcool hcycle hdeck hlamp => ?_, fun hno => ?_⟩
  · obtain ⟨hsilence, hstands⟩ := closeConfiguration_eq s
    rw [if_pos (by simp [windowRuns, hstate, hruns])]
    exact ⟨_, rfl, hsilence, hstands⟩
  · rw [if_neg (by simpa [windowRuns, ← not_and_or] using hno)]
  · rw [standbyTest_settled hstate hcool hcycle hdeck hlamp]
  · rw [standbyTest_not_due hno]

end Sys2Proof.Machine

-- ==== Sys2Proof/Proofs/PowerOn.lean ====
/-! PROOF. A power-on read with no mains warning: straps, banks, items, the retained record and the attention settings (R161, R174, R176). -/

namespace Sys2Proof.Machine

open Sys2Proof (Straps Readings)

/-! ### A power-on (R161, R174, R176) -/

/-- The attention settings a power-on leaves: every source enabled, the first seven HIGH (R184, 10 section 10.1). -/
theorem Attn.atReset_defaults (a : Attn) (c : Source) :
    ((a.atReset true).get c).enable = true ∧ ((a.atReset true).get c).high = decide (c.code ≤ 7) := by
  cases c <;> exact ⟨rfl, rfl⟩

/-- A power-on read with no mains warning: the blocks' values, the fan chosen from the trip causes alone (R121), and the attention settings
at their defaults. -/
theorem powerOn_eq (st : Straps) (r : Readings) (s : State) (hwarn : r.mainsWarn = false) :
    ∃ x a, x = (s.stn.latch st).readRetained s.retained ∧
      powerOn st r s = { resetBlocks .powerOn x r s with
        cool := (resetBlocks .powerOn x r s).cool.setStage (if (resetBlocks .powerOn x r s).cool.tripped then 3 else 0), attn := a } ∧
      ∀ c, (a.get c).enable = true ∧ (a.get c).high = decide (c.code ≤ 7) := by
  let x := (s.stn.latch st).readRetained s.retained
  let s1 := resetBlocks .powerOn x r s
  let s2 := raise .restarted (restartedDetail .powerOn s1.stn.valid) s1
  obtain ⟨a, htrips, -⟩ := raiseActiveTrips_frame s2
  have hfan : fanWanted { s2 with attn := a } = if s1.cool.tripped then 3 else 0 := Nat.zero_max _
  refine ⟨x, a, rfl, ?_, fun c => ?_⟩
  · show readMainsWarn r.mainsWarn (fanAtReset .powerOn s.cool.cutout (raiseActiveTrips s2)) = _
    rw [hwarn, htrips, fanAtReset, if_pos (.inl rfl), chooseFan, hfan]
    rfl
  · obtain ⟨htripEnable, htripHigh⟩ := raiseActiveTrips_setting s2 c
    obtain ⟨hraiseEnable, hraiseHigh⟩ := s1.attn.raise_setting .restarted c (restartedDetail .powerOn s1.stn.valid)
    obtain ⟨henable, hhigh⟩ := s.attn.atReset_defaults c
    rw [htrips] at htripEnable htripHigh
    exact ⟨htripEnable.trans (hraiseEnable.trans henable), htripHigh.trans (hraiseHigh.trans hhigh)⟩

/-- Settles O30, by the blocks' values at a power-on. -/
theorem powerOnReadsRecord : Obligations.PowerOnReadsRecord := by
  unfold Obligations.PowerOnReadsRecord
  intro st r s hwarn
  obtain ⟨x, a, rfl, heq, hattn⟩ := powerOn_eq st r s hwarn
  refine ⟨_, rfl, ?_⟩
  rw [heq]
  refine ⟨rfl, rfl, rfl, rfl, rfl, rfl, rfl, rfl, rfl, rfl, rfl, rfl, by simp [resetBlocks, Cooling.atReset], by simp, rfl, rfl,
    fun hvalid => ?_, fun hinvalid => ?_, by simp [resetBlocks, Cooling.atReset, Station.readRetained, Items.default],
    by simp [resetBlocks, Cooling.atReset, Station.readRetained, Items.default], hattn⟩
  · simp [resetBlocks, Cooling.atReset, Deck.atReset, heatAtPowerOn, volumeAtPowerOn, Station.readRetained, hvalid]
  · simp [resetBlocks, Cooling.atReset, Deck.atReset, heatAtPowerOn, volumeAtPowerOn, Station.readRetained, hinvalid, Items.default,
      Config.defaultVolume]

end Sys2Proof.Machine

-- ==== Sys2Proof/Proofs/MainsLoss.lean ====
/-! PROOF. The entry into MAINS_LOSS block by block, in either order of lamp and tray (R163, R175), and the sense of the record it writes
(R176). -/

namespace Sys2Proof.Machine

open Sys2Proof (Byte Key)

/-! ### Records that start leave the tray where it is (R58, R61) -/

/-- The two trays differ in state, cycle and queue at most. -/
def SameTray (t u : Transport) : Prop :=
  u.slot = t.slot ∧ u.size = t.size ∧ u.certainty = t.certainty ∧ u.demand = t.demand

theorem SameTray.refl (t : Transport) : SameTray t t := ⟨rfl, rfl, rfl, rfl⟩

theorem startMove_sameTray (t : Transport) (m : Move) (s : State) : Kept (SameTray t ·.tray) s (startMove m s) := by
  rcases startMove_cases m s with h | h | ⟨c, h⟩ <;> rw [h] <;> exact id

theorem startMovesUpTo_sameTray (t : Transport) (n : Nat) (s : State) : Kept (SameTray t ·.tray) s (startMovesUpTo n s) := by
  induction n generalizing s with
  | zero => exact .refl s
  | succ n ih =>
    unfold startMovesUpTo
    split
    · exact .refl s
    · next m rest _ =>
      have htail : Kept (SameTray t ·.tray) s { s with tray := ({ s.tray with queue := rest } : Transport).newHead } := id
      exact .ite (htail.trans ((startMove_sameTray t m _).trans (ih _))) (.refl s)

theorem setLamp_eq_startMoves (l : Lamp) (s : State) : ∃ u, u.tray = s.tray ∧ setLamp l s = startMoves u := by
  unfold setLamp
  split
  · exact ⟨{ s with lamp := l }, rfl, rfl⟩
  · exact ⟨chooseFan { s with lamp := l }, rfl, rfl⟩

/-- The tray at the entry into a station state that flushes its queue: the lamp handed over first may have started a record before,
unless a cycle ran or none waited (R163, R58; log 12). -/
theorem tellLampAndTray_tray (l : Lamp → Lamp) {f : Transport → Transport} {s : State} (hflush : (f s.tray).queue = []) :
    ∃ x, (tellLampAndTray l f s).tray = f x ∧ SameTray s.tray x ∧ (s.tray.inCycle = true ∨ s.tray.queue = [] → x = s.tray) := by
  unfold tellLampAndTray
  dsimp only
  split
  · obtain ⟨u, hu, hset⟩ := setLamp_eq_startMoves (l s.lamp) { s with openValues := s.openValues + 1 }
    replace hu : u.tray = s.tray := hu
    rw [hset]
    refine ⟨_, rfl, startMovesUpTo_sameTray s.tray _ u (hu ▸ SameTray.refl _), fun h => ?_⟩
    rw [← hu] at h ⊢
    rcases h with hcycle | hqueue
    · rw [startMoves_inCycle hcycle]
    · rw [startMoves_of_empty u hqueue]
  · refine ⟨s.tray, ?_, .refl _, fun _ => rfl⟩
    rw [setLamp_of_empty _ _ hflush]
    split <;> rfl

theorem tellLampAndTray_heat (l : Lamp → Lamp) (f : Transport → Transport) (s : State) :
    (tellLampAndTray l f s).cool.heat = s.cool.heat := by
  rw [tellLampAndTray_cool, setLamp_cool]
  split
  · rfl
  · simp [chooseFan]

/-! ### The blocks at the entry into MAINS_LOSS (R75, R138, R160) -/

/-- A cycle ends UNCERTAIN with the slot at its last count; otherwise the queue is all that goes (R75). -/
theorem Transport.mainsLoss_spec (t : Transport) :
    t.mainsLoss.queue = [] ∧ t.mainsLoss.inCycle = false ∧ t.mainsLoss.slot = t.slot ∧ t.mainsLoss.size = t.size ∧
    t.mainsLoss.certainty = if t.inCycle then .uncertain else t.certainty := by
  unfold Transport.mainsLoss Transport.inCycle
  cases h : t.state <;> simp [Transport.flush, h]

/-- The deck stops, and the sound ramp is cancelled at the volume it has reached (R138). -/
theorem deckMainsLoss_deck (s : State) :
    (deckMainsLoss s).deck = { s.deck with
      state := if s.deck.state = .noCassette then .noCassette else .stopped
      gateOpen := if s.deck.state = .noCassette then s.deck.gateOpen else false
      gateTimer := if s.deck.state = .noCassette then s.deck.gateTimer else false
      ramp := { s.deck.ramp with running := false } } := by
  unfold deckMainsLoss cancelSound enterDeck
  by_cases h : s.deck.state = .noCassette
  · simp only [h, if_true]
  · simp only [h, if_false]
    rfl

/-- Both focus keys are consumed, the drive stops, and the other keys stand (R160). -/
theorem Remote.mainsLoss_get (r : Remote) (k : Key) :
    r.mainsLoss.get k = if k = .focusIn ∨ k = .focusOut then { r.get k with consumed := true } else r.get k := by
  have hput : r.mainsLoss.get k =
      ((r.put .focusIn { r.get .focusIn with consumed := true }).put .focusOut { r.get .focusOut with consumed := true }).get k := rfl
  rw [hput, Remote.get_put, Remote.get_put]
  cases k <;> rfl

/-! ### The entry into MAINS_LOSS (R175) -/

/-- Before deck, list, pendant and write the entry has told lamp and tray, and chosen the fan afresh out of a rest (R175). -/
theorem enterMainsLoss_eq (s : State) :
    ∃ u x, enterMainsLoss s = beginWrite { emptySchedule (deckMainsLoss u) with remote := u.remote.mainsLoss } ∧
      SameTray s.tray x ∧ (s.tray.inCycle = true ∨ s.tray.queue = [] → x = s.tray) ∧ u.tray = x.mainsLoss ∧ u.deck = s.deck ∧
      u.disp = s.disp ∧ u.remote = s.remote ∧ u.cool.heat = s.cool.heat ∧ u.retained = s.retained := by
  let s1 := stopSilence { s with stn := { s.stn with state := .mainsLoss, showState := .none, window := .off } }
  let s2 := tellLampAndTray (fun l => l.extinguish .off) Transport.mainsLoss s1
  obtain ⟨x, htray, hsame, hkept⟩ := tellLampAndTray_tray (l := fun l => l.extinguish .off) (s := s1) s.tray.mainsLoss_spec.1
  have hheat : s2.cool.heat = s.cool.heat := tellLampAndTray_heat _ _ s1
  have hrest : s2.deck = s.deck ∧ s2.disp = s.disp ∧ s2.remote = s.remote ∧ s2.retained = s.retained := by simp [s2, s1]
  obtain ⟨hdeck, hdisp, hremote, hretained⟩ := hrest
  refine ⟨if s.stn.state = .coolingDown ∨ s.stn.state = .standby then chooseFan s2 else s2, x, rfl, hsame, hkept, ?_⟩
  split
  · exact ⟨htray, hdeck, hdisp, hremote, by simpa [chooseFan] using hheat, hretained⟩
  · exact ⟨htray, hdeck, hdisp, hremote, hheat, hretained⟩

theorem beginWrite_writing (s : State) : (beginWrite s).stn.writing = some (recordFields (beginWrite s)) := rfl

theorem mainsWarnOn_in_mainsLoss {s : State} (h : s.stn.state = .mainsLoss) :
    mainsWarnOn s = { s with stn := { s.stn with mainsWarn := true } } := if_pos h

theorem mainsWarnOn_elsewhere {s : State} (h : s.stn.state ≠ .mainsLoss) :
    mainsWarnOn s = enterMainsLoss { s with stn := { s.stn with mainsWarn := true } } := if_neg h

/-- A tray in a cycle is left UNCERTAIN, every other with what it had; nothing waits and no cycle runs (R75). -/
theorem enterMainsLoss_tray (s : State) :
    (enterMainsLoss s).tray.queue = [] ∧ (enterMainsLoss s).tray.inCycle = false ∧ (enterMainsLoss s).tray.slot = s.tray.slot ∧
    (enterMainsLoss s).tray.size = s.tray.size ∧ (s.tray.inCycle = true → (enterMainsLoss s).tray.certainty = .uncertain) ∧
    (s.tray.inCycle = false → s.tray.queue = [] → (enterMainsLoss s).tray.certainty = s.tray.certainty) := by
  obtain ⟨u, x, heq, ⟨hslot, hsize, -⟩, hkept, htray, -⟩ := enterMainsLoss_eq s
  obtain ⟨hqueue, hcycle, hslotLoss, hsizeLoss, hcertainty⟩ := x.mainsLoss_spec
  have hleft : (enterMainsLoss s).tray = x.mainsLoss := by rw [heq, ← htray]; simp
  rw [hleft]
  refine ⟨hqueue, hcycle, hslotLoss.trans hslot, hsizeLoss.trans hsize, fun h => ?_, fun h hempty => ?_⟩
  · rw [hcertainty, hkept (.inl h), if_pos h]
  · rw [hcertainty, hkept (.inr hempty), if_neg (ne_true_of_eq_false h)]

/-- Deck, list, pendant, heat estimate and retained memory at the entry (R49, R138, R160, R176). -/
theorem enterMainsLoss_blocks (s : State) :
    (enterMainsLoss s).deck = (deckMainsLoss s).deck ∧ (enterMainsLoss s).disp = { s.disp with schedule := [] } ∧
    (enterMainsLoss s).remote = s.remote.mainsLoss ∧ (enterMainsLoss s).cool.heat = s.cool.heat ∧
    (enterMainsLoss s).retained = { s.retained with check := ~~~s.retained.check, void := true } ∧
    (enterMainsLoss s).stn.writing = some (recordFields (enterMainsLoss s)) := by
  obtain ⟨u, x, heq, -, -, -, hdeck, hdisp, hremote, hheat, hretained⟩ := enterMainsLoss_eq s
  rw [heq]
  refine ⟨?_, ?_, by simp [hremote], by simpa using hheat, by simp [beginWrite, hretained], beginWrite_writing _⟩
  · show (deckMainsLoss u).deck = (deckMainsLoss s).deck
    rw [deckMainsLoss_deck, deckMainsLoss_deck, hdeck]
  · show { (deckMainsLoss u).disp with schedule := [] } = _
    simp [hdisp]

/-! ### The retained record (R176, 11 section 11.7) -/

theorem byteOf_toNat_of_lt {n : Nat} (h : n < 256) : (byteOf n).toNat = n := by
  simp [byteOf, Nat.mod_eq_of_lt h]

/-- The terms of the record's sense, as propositions. -/
theorem fieldsMakeSense_iff (f : Vector Byte 6) :
    fieldsMakeSense f = true ↔
      (f[0].toNat = 0 ∨ f[0].toNat = 84 ∨ f[0].toNat = 120) ∧ f[2].toNat ≤ 2 ∧ f[5].toNat ≤ 31 ∧
      (f[2].toNat = 0 ↔ f[0].toNat = 0) ∧ (if f[0].toNat = 0 then f[1].toNat = 0 else f[1].toNat < f[0].toNat) := by
  simp only [fieldsMakeSense, Bool.and_eq_true, Bool.or_eq_true, beq_iff_eq, decide_eq_true_eq, and_assoc, or_assoc]
  refine and_congr Iff.rfl (and_congr Iff.rfl (and_congr Iff.rfl (and_congr ?_ ?_)))
  · rw [Bool.eq_iff_iff, beq_iff_eq, beq_iff_eq]
  · split
    · exact beq_iff_eq
    · exact decide_eq_true_iff

/-- The tray's fields of a record, as R52 has them. -/
theorem trayFields_makeSense {t : Transport} (hsize : t.certainty = .invalid ↔ t.size = .none)
    (hslot : if t.size = .none then t.slot = 0 else t.slot < t.size.slots) {h l v : Byte} (hv : v.toNat ≤ 31) :
    fieldsMakeSense #v[byteOf t.size.slots, byteOf t.slot, byteOf t.certainty.code, h, l, v] = true := by
  have hslots : t.size.slots < 256 := by cases t.size <;> decide
  have hcode : t.certainty.code < 256 := by cases t.certainty <;> decide
  have hnone : t.size.slots = 0 ↔ t.size = .none := by cases t.size <;> decide
  have hinvalid : t.certainty.code = 0 ↔ t.certainty = .invalid := by cases t.certainty <;> decide
  have hon : t.slot < 256 ∧ (if t.size.slots = 0 then t.slot = 0 else t.slot < t.size.slots) := by
    by_cases h0 : t.size = .none
    · rw [if_pos h0] at hslot
      rw [if_pos (hnone.mpr h0)]
      omega
    · rw [if_neg h0] at hslot
      rw [if_neg (fun h => h0 (hnone.mp h))]
      omega
  rw [fieldsMakeSense_iff]
  show ((byteOf t.size.slots).toNat = 0 ∨ (byteOf t.size.slots).toNat = 84 ∨ (byteOf t.size.slots).toNat = 120) ∧
    (byteOf t.certainty.code).toNat ≤ 2 ∧ v.toNat ≤ 31 ∧
    ((byteOf t.certainty.code).toNat = 0 ↔ (byteOf t.size.slots).toNat = 0) ∧
    (if (byteOf t.size.slots).toNat = 0 then (byteOf t.slot).toNat = 0 else (byteOf t.slot).toNat < (byteOf t.size.slots).toNat)
  rw [byteOf_toNat_of_lt hslots, byteOf_toNat_of_lt hcode, byteOf_toNat_of_lt hon.1]
  refine ⟨?_, ?_, hv, hinvalid.trans (hsize.trans hnone.symm), hon.2⟩
  · cases t.size <;> decide
  · cases t.certainty <;> decide

/-- The record of a part within its laws makes sense (R52, R134, R176). -/
theorem recordFields_makeSense {s : State} (htray : TrayLaw s) (hvolume : s.deck.volume ≤ 31) :
    fieldsMakeSense (recordFields s) = true := by
  obtain ⟨hsize, -, hslot, hrecord⟩ := htray
  have hv : (byteOf s.deck.volume).toNat ≤ 31 := by rwa [byteOf_toNat_of_lt (by omega)]
  unfold recordFields
  dsimp only
  split
  · split
    · next hvalid =>
      have hsense := (fieldsMakeSense_iff _).mp (hrecord hvalid)
      obtain ⟨hsize, hcertainty, -, hnone, hslot⟩ := hsense
      exact (fieldsMakeSense_iff _).mpr ⟨hsize, hcertainty, hv, hnone, hslot⟩
    · exact (fieldsMakeSense_iff _).mpr ⟨.inl rfl, Nat.zero_le _, hv, Iff.rfl, rfl⟩
  · exact trayFields_makeSense hsize hslot hv

/-- A write begun and ended leaves a record that is found valid if its fields make sense (R176). -/
theorem endWrite_beginWrite_valid {s : State} (h : fieldsMakeSense (recordFields s) = true) :
    (endWrite (beginWrite s)).retained.valid = true := by
  have hwritten : (endWrite (beginWrite s)).retained = ⟨recordFields s, crc (recordFields s).toList, false⟩ := rfl
  simp [hwritten, Retained.valid, h]

theorem endWrite_of_writing {s : State} {f : Vector Byte 6} (h : s.stn.writing = some f) :
    endWrite s = { s with retained := ⟨f, crc f.toList, false⟩, stn := { s.stn with writing := none } } := by
  simp only [endWrite, h]

/-- Settles O32, by the entry's blocks and the terms of the record's sense. -/
theorem mainsWarnSavesRecord : Obligations.MainsWarnSavesRecord := by
  unfold Obligations.MainsWarnSavesRecord
  refine ⟨fun s hrunning => ?_, fun f s hrunning hwriting => ?_, fun s => rfl, fun s htray hvolume => ?_⟩
  · have hassert : exec .mainsWarnAssert s = .next (mainsWarnOn s) := congrArg Host.Outcome.next (if_pos hrunning)
    have hdeassert : exec .mainsWarnDeassert s = .next (mainsWarnOff s) := congrArg Host.Outcome.next (if_pos hrunning)
    rw [hassert, hdeassert]
    refine ⟨fun hloss => by rw [mainsWarnOn_in_mainsLoss hloss], fun hloss => ?_, rfl, fun hloss hwritten => ⟨_, rfl, ?_⟩⟩
    · let w := { s with stn := { s.stn with mainsWarn := true } }
      have hstn := enterMainsLoss_stn w
      have hlamp := enterMainsLoss_lamp w
      have hleft := deckMainsLoss_deck w
      obtain ⟨hqueue, hcycle, hslot, hsize, huncertain, hcertainty⟩ := enterMainsLoss_tray w
      obtain ⟨hdeck, hdisp, hremote, hheat, hretained, hwriting⟩ := enterMainsLoss_blocks w
      rw [mainsWarnOn_elsewhere hloss]
      refine ⟨_, rfl, by rw [hstn], by rw [hstn], by rw [hstn], by rw [hstn], by rw [hstn], by rw [hstn], enterMainsLoss_loop w,
        by simp, hdisp, by rw [hlamp]; rfl, by rw [hlamp]; rfl, by rw [hlamp]; rfl, by rw [hlamp]; rfl, by rw [hlamp]; rfl, hqueue,
        hcycle, hslot, hsize, huncertain, hcertainty, by rw [hdeck, hleft], fun hcassette => ?_, by rw [hdeck, hleft],
        by rw [hdeck, hleft], by rw [hdeck, hleft], by rw [hremote]; rfl, fun k => by rw [hremote]; exact s.remote.mainsLoss_get k,
        hheat, hwriting, hretained, by simp, by simp⟩
      rw [hdeck, hleft]
      exact if_neg hcassette
    · simp [brownoutDue, mainsWarnOff, hloss, hwritten]
  · have hexec : exec .retainedWriteEnd s = .next (endWrite s) := congrArg Host.Outcome.next (if_pos hrunning)
    rw [hexec, endWrite_of_writing hwriting]
  · have hsense := recordFields_makeSense htray hvolume
    exact ⟨hsense, endWrite_beginWrite_valid hsense⟩

end Sys2Proof.Machine

-- ==== Sys2Proof/Proofs/CommandsJudged.lean ====
/-! PROOF. A COMMAND addressed to the station, with the lines it leaves; the judging of a command reads no line; a frame for another station passes
(R7, R10, R12, R172). -/

namespace Sys2Proof.Machine

open Sys2Proof (Byte Frame)

/-! ### The lines after a frame with a trailer -/

/-- The lines from the CHECK to the second trailer byte, with what is then ahead of a loop reset (R3, R10, R173). -/
theorem rxBytes_trailerEnd {k : FrameKind} (hk : k.hasTrailer = true) (p q : Passage) (check c b1 b2 : Byte) (s g : State)
    (sent : List Byte) (hp : p.got.length = 5 + p.length) (hgot : q.got = p.got)
    (hcheck : checkByte p check (passingFree s p sent) = afterCheck k q check (emit c false g))
    (hout : g.out = (passingFree s p sent).out)
    (hloop : g.loop = { g.loop with rx := .frame p, inIdle := 0, bits := 0, space := 0 }) :
    ∃ ahead, (s.out.resetAhead = none → ahead = none) ∧
      rxBytes (endBytes k check b1 b2) (passing s p sent) =
        onLine g .quiet (lineOut 10 (sent ++ [c] ++ trailerOut q.result b1 b2) (resetAfter q.resetTaken ahead)) := by
  let q' : Passage := { q with got := q.got ++ [check] }
  obtain ⟨-, -, -, -, hlength⟩ := Passage.header_of_append (p := p) (q := q') (by rw [← hgot]) (by omega)
  have hq' : q'.got.length = q'.length + 6 := by
    rw [hlength, show q'.got.length = q.got.length + 1 from List.length_append, hgot, hp]
    omega
  have hemit := (congrArg (emit c false) (eq_onLine hout hloop)).trans (emit_lineOut ..)
  rw [endBytes, rxBytes_cons, rxByte_passing, frameByte_check p check _ hp, hcheck, hemit, afterCheck]
  simp only [hk, if_true, setRx_onLine, noteByte_onLine]
  refine ⟨_, fun hnone => ?_, rxBytes_trailer q' b1 b2 g (sent ++ [c]) _ hq' (by omega)⟩
  have hrest : s.out.rest.resetAhead = none := by simp [LoopOut.rest, hnone]
  simp [hrest]

/-- The judging of a COMMAND begins with the position and the silence timer of a good frame (R5, R7, R20). -/
def atCheck (f : Frame) (payload : List Byte) (s : State) : State :=
  let p := asGivenPassage .command f payload
  restartSilence (takePosition p (passingFree s p (sentHeader .command f payload.length ++ payload)))

theorem atCheck_offLine (f : Frame) (payload : List Byte) (s : State) : (atCheck f payload s).offLine = s.offLine := by
  rw [atCheck, restartSilence_offLine, takePosition_offLine]
  rfl

theorem atCheck_silence (f : Frame) (payload : List Byte) (s : State) :
    (atCheck f payload s).loop.silence =
      if s.stn.state = .active ∧ s.stn.items.silenceTimeout ≠ 0 then .running else s.loop.silence := by
  rw [atCheck, restartSilence_loop, takePosition_loop, takePosition_stn]
  rfl

/-- An accepted RESET of a COMMAND's payload has its frame mark the loop reset (R173). -/
def resetAccepted (payload : List Byte) (r : Result) : Bool := payload == [Cmd.reset.code] && r == .accepted

/-- A good COMMAND addressed to the station, the lines included: it leaves what its judging leaves, its RESULT in the trailer, and an
accepted RESET waits for the last trailer byte (R7, R10, R172, R173). -/
theorem exec_commandOnLine {c : Cmd} {f : Frame} {args : List Byte} {s : State} (h : Addressed c f args s) :
    ∃ u ahead, u.offLine = s.offLine ∧
      u.loop.silence = (if s.stn.state = .active ∧ s.stn.items.silenceTimeout ≠ 0 then .running else s.loop.silence) ∧
      (s.out.resetAhead = none → ahead = none) ∧
      exec (commandInstr c f args) s = .next (onLine (judgeCommand (c.code :: args) u).1 .quiet
        { lineOut 10 [] (resetAfter (resetAccepted (c.code :: args) (judgeCommand (c.code :: args) u).2) ahead) with
          sent := sentBytes f .command (c.code :: args) ++ resultTrailer f (judgeCommand (c.code :: args) u).2 s }) := by
  obtain ⟨harrives, hgood, htarget⟩ := h
  let payload := c.code :: args
  let p := asGivenPassage .command f payload
  let sent := sentHeader .command f payload.length ++ payload
  let u := atCheck f payload s
  have hlen := payload_length_le harrives
  have hu : u.offLine = s.offLine := atCheck_offLine f payload s
  have hto : matchesTarget u p.target.toNat = true := (matchesTarget_of_offLine hu _).trans htarget
  have hact : goodFrame .command p (passingFree s p sent) = ((judgeCommand payload u).1, { p with
      result := trailerResult p (judgeCommand payload u).2 u
      resetTaken := resetAccepted payload (judgeCommand payload u).2 }) := by
    rw [goodFrame_rightLength (lengthRight_of_open p rfl)]
    show (if matchesTarget u p.target.toNat = true then _ else _) = _
    rw [if_pos hto, asGivenPassage_payload .command f payload hlen]
    rfl
  obtain ⟨s', xs, reply, hrx, -, -, hplain⟩ := rxBytes_upToCheck .command f payload s hlen (by simp)
  obtain ⟨rfl, rfl, rfl⟩ := hplain (neverRewritten_of_plain (.inr (.inr (.inl rfl))))
  obtain ⟨z, assigned, number, hloop, -⟩ := goodFrame_loop .command p (passingFree s' p sent)
  obtain ⟨ahead, hahead, hend⟩ := rxBytes_trailerEnd (k := .command) rfl p (goodFrame .command p (passingFree s' p sent)).2 p.rxCheck
    p.txCheck f.result f.resultComplement s' (goodFrame .command p (passingFree s' p sent)).1 sent
    (wholePassage_got_length .command f payload payload [] hlen) (by rw [hact])
    ((checkByte_known .command p _ _ (wholePassage_kind ..) rfl).trans (if_pos rfl)) (goodFrame_frame .command p _).2.1
    (by rw [hloop]; rfl)
  refine ⟨u, ahead, hu, atCheck_silence f payload s', hahead, ?_⟩
  have hrow : exec (commandInstr c f args) s' = exec (frameInstr .command f payload) s' := by cases c <;> rfl
  have hexec : exec (frameInstr .command f payload) s' =
      .next (rxBytes (endBytes .command f.check f.result f.resultComplement) (passing s' p sent)) :=
    exec_of_upToCheck harrives hrx f.check
  have hcheck : f.check = p.rxCheck := hgood.trans (wholePassage_rxCheck ..).symm
  have htx : p.txCheck = crc sent := wholePassage_txCheck ..
  rw [hcheck, hend, hact, htx] at hexec
  rw [hrow, hexec, sentBytes_eq, ← trailerOut_result .command f payload _ hu]
  rfl

/-! ### What the judging of a command reads (R172) -/

/-- The argument bytes a command carries (11 section 11.5). -/
def Cmd.argCount : Cmd → Nat
  | .step | .configSet | .attnSet => 3
  | .ack => 1
  | .hold | .resume | .commit | .configClose | .standby | .wake | .clearCounters | .reset => 0

theorem runCommand_wrongCount {c : Cmd} {args : List Byte} (h : args.length ≠ c.argCount) (s : State) :
    runCommand c args s = (s, .refusedRange) := by
  cases c
  case step | configSet | attnSet =>
    match args with
    | [_, _, _] => exact absurd rfl h
    | [] | [_] | [_, _] | _ :: _ :: _ :: _ :: _ => rfl
  case ack =>
    match args with
    | [_] => exact absurd rfl h
    | [] | _ :: _ :: _ => rfl
  all_goals
    match args with
    | [] => exact absurd rfl h
    | _ :: _ => rfl

/-- Two judgings that agree in their RESULT and in what they leave beside the lines. -/
def AgreeOffLine (x y : State × Result) : Prop := x.1.offLine = y.1.offLine ∧ x.2 = y.2

theorem AgreeOffLine.of_state {f : State → State} {s : State} (h : f s.offLine = (f s).offLine) (r : Result) :
    AgreeOffLine (f s.offLine, r) (f s, r) := by
  rw [h]
  exact ⟨rfl, rfl⟩

theorem AgreeOffLine.rest (s : State) (r : Result) : AgreeOffLine (s.offLine, r) (s, r) := ⟨rfl, rfl⟩

theorem chooseFan_offLine {s t : State} (h : s.offLine = t.offLine) : (chooseFan s).offLine = (chooseFan t).offLine := by
  have hfan : ∀ s, chooseFan s.offLine = (chooseFan s).offLine := fun _ => rfl
  exact offLine_congr hfan h

theorem tellLampAndTray_offLine (l : Lamp → Lamp) (f : Transport → Transport) (s : State) :
    tellLampAndTray l f s.offLine = (tellLampAndTray l f s).offLine := by
  have hlamp : ∀ x u, setLamp x (State.offLine u) = (setLamp x u).offLine := setLamp_offLine
  simp only [tellLampAndTray, State.offLine_frame]
  split
  · exact congrArg (fun u : State => { u with tray := f u.tray }) (hlamp (l s.lamp) { s with openValues := s.openValues + 1 })
  · exact hlamp (l s.lamp) { s with openValues := s.openValues + 1, tray := f s.tray }

theorem enterCoolingDown_offLine (s : State) : enterCoolingDown s.offLine = (enterCoolingDown s).offLine := by
  have htold := tellLampAndTray_offLine Lamp.coolDown Transport.flush (stopSilence
    { s with
      stn := { s.stn with state := .coolingDown, showState := .none, window := .off }
      cool := fanBeforeCoolingDown s })
  have hstopped := (congrArg (fun u => tapeStop (chooseFan u)) htold).trans (tapeStop_offLine (chooseFan _))
  exact congrArg (fun u => emptySchedule (cancelSound u)) hstopped

theorem standbyTest_offLine (s : State) : standbyTest s.offLine = (standbyTest s).offLine := by
  unfold standbyTest
  show (if s.stn.state = .coolingDown ∧ standbyCondition s = true then _ else _) = _
  split <;> rfl

theorem takeStandby_offLine (s : State) : takeStandby s.offLine = (takeStandby s).offLine := by
  have hclosed : (if s.stn.state = .configuring then lockConfiguration s.offLine else s.offLine) =
      (if s.stn.state = .configuring then lockConfiguration s else s).offLine := by split <;> rfl
  exact (congrArg (fun u => standbyTest (enterCoolingDown u)) hclosed).trans
    ((congrArg standbyTest (enterCoolingDown_offLine _)).trans (standbyTest_offLine _))

/-- ACTIVE is entered RUNNING; the silence timer belongs to the line (R163, R20). -/
theorem enterActive_offLine (s : State) :
    (enterActive s).offLine = { s with stn := { s.stn with state := .active, showState := .running, window := .off } }.offLine :=
  restartSilence_offLine _

theorem takeWake_offLine (s : State) : (takeWake s.offLine).offLine = (takeWake s).offLine := by
  unfold takeWake
  show State.offLine (if s.stn.state = .coolingDown ∨ s.stn.state = .standby then _ else _) = _
  split
  · exact chooseFan_offLine ((enterActive_offLine s.offLine).trans (enterActive_offLine s).symm)
  · rfl

theorem configSetItem_offLine (code v : Nat) (s : State) : AgreeOffLine (configSetItem code v s.offLine) (configSetItem code v s) := by
  simp only [configSetItem, State.offLine_frame]
  repeat' split
  all_goals exact ⟨rfl, rfl⟩

/-- A command reads no line (R172). -/
theorem runCommand_offLine (c : Cmd) (args : List Byte) (s : State) : AgreeOffLine (runCommand c args s.offLine) (runCommand c args s) := by
  by_cases hcount : args.length = c.argCount
  case neg =>
    rw [runCommand_wrongCount hcount, runCommand_wrongCount hcount]
    exact .rest s _
  cases c <;> dsimp only [Cmd.argCount] at hcount
  case step =>
    obtain ⟨v, a, b, rfl⟩ := List.length_eq_three.mp hcount
    dsimp only [runCommand]
    split
    · exact .rest s _
    · exact .of_state (directStep_offLine v a b s) _
  case configSet =>
    obtain ⟨item, hi, lo, rfl⟩ := List.length_eq_three.mp hcount
    exact configSetItem_offLine item.toNat (word16 hi lo) s
  case attnSet =>
    obtain ⟨code, enable, level, rfl⟩ := List.length_eq_three.mp hcount
    dsimp only [runCommand]
    repeat' split
    all_goals exact ⟨rfl, rfl⟩
  case ack =>
    obtain ⟨code, rfl⟩ := List.length_eq_one_iff.mp hcount
    dsimp only [runCommand]
    split
    all_goals exact ⟨rfl, rfl⟩
  all_goals obtain rfl := List.length_eq_zero_iff.mp hcount
  case hold => exact .of_state (holdEvent_offLine s) _
  case resume => exact .of_state (resumeEvent_offLine s) _
  case commit =>
    simp only [runCommand_commit, State.offLine_frame]
    split
    all_goals exact ⟨rfl, rfl⟩
  case configClose => exact ⟨(closeConfiguration_offLine s.offLine).trans (closeConfiguration_offLine s).symm, rfl⟩
  case standby => exact .of_state (takeStandby_offLine s) _
  case wake => exact ⟨takeWake_offLine s, rfl⟩
  case clearCounters | reset => exact ⟨rfl, rfl⟩

/-- The judging of a COMMAND reads no line (R172). -/
theorem judgeCommand_offLine (payload : List Byte) (s : State) :
    AgreeOffLine (judgeCommand payload s.offLine) (judgeCommand payload s) := by
  unfold judgeCommand
  split
  · exact ⟨rfl, rfl⟩
  · split
    · exact ⟨rfl, rfl⟩
    · next c _ =>
      have hnotice : (if c.configClass then noticeConfig s.offLine else s.offLine) =
          (if c.configClass then noticeConfig s else s).offLine := by
        split
        · exact noticeConfig_offLine s
        · rfl
      dsimp only
      rw [hnotice]
      generalize (if c.configClass then noticeConfig s else s) = u
      show AgreeOffLine (if c.acceptedIn u.stn.state then _ else _) _
      split
      · exact runCommand_offLine c _ u
      · exact ⟨rfl, rfl⟩

/-- States that agree beside the lines judge a COMMAND alike. -/
theorem judgeCommand_of_offLine {s t : State} (h : s.offLine = t.offLine) (payload : List Byte) :
    AgreeOffLine (judgeCommand payload s) (judgeCommand payload t) := by
  obtain ⟨hs, rs⟩ := judgeCommand_offLine payload s
  obtain ⟨ht, rt⟩ := judgeCommand_offLine payload t
  rw [h] at hs rs
  exact ⟨hs.symm.trans ht, rs.symm.trans rt⟩

/-! ### COMMAND frames judged and passed (R7, R10, R12, R172) -/

/-- A good COMMAND addressed to the station: off the line the state is what the judging makes it, and its RESULT goes into the trailer. -/
theorem exec_judged {c : Cmd} {f : Frame} {args : List Byte} {s : State} (h : Addressed c f args s) :
    ∃ t, exec (commandInstr c f args) s = .next t ∧ t.offLine = (judgeCommand (c.code :: args) s).1.offLine ∧
      t.out.sent = sentBytes f .command (c.code :: args) ++ resultTrailer f (judgeCommand (c.code :: args) s).2 s := by
  obtain ⟨t, u, hexec, hu, hoff, hsent⟩ := exec_command h
  obtain ⟨hstate, hresult⟩ := judgeCommand_of_offLine hu (c.code :: args)
  exact ⟨t, hexec, hoff.trans hstate, hresult ▸ hsent⟩

/-- A COMMAND or a LOAD with a good check for another station passes as it came, its trailer included (R12). -/
theorem exec_passedOn {k : FrameKind} {f : Frame} {payload : List Byte} {s : State} (hk : k = .command ∨ k = .load)
    (h : ArrivesWhole f payload s) (hgood : CheckGood f k payload) (hother : matchesTarget s f.target.toNat = false) :
    ∃ t, exec (frameInstr k f payload) s = .next t ∧ t.offLine = s.offLine ∧
      t.out.sent = sentBytes f k payload ++ [f.result, f.resultComplement] := by
  have hopen : k.fixedLength = none := by rcases hk with rfl | rfl <;> rfl
  obtain ⟨t, u, hexec, hu, hoff, hsent⟩ := exec_plainFrame (.inr (.inr hk)) h hgood (by rcases hk with rfl | rfl <;> simp)
    (lengthRight_of_open _ hopen)
  have hto : matchesTarget u (asGivenPassage k f payload).target.toNat = false := (matchesTarget_of_offLine hu _).trans hother
  have hact : actOn k (asGivenPassage k f payload) u = (u, asGivenPassage k f payload) := by
    rcases hk with rfl | rfl <;> simp [actOn, hto]
  rw [hact] at hoff hsent
  refine ⟨t, hexec, hoff.trans hu, ?_⟩
  rcases hk with rfl | rfl <;> exact hsent

/-- Settles O18: the judging reads no line, and a frame for another station is acted on by nothing. -/
theorem commandFrameJudged : Obligations.CommandFrameJudged := by
  unfold Obligations.CommandFrameJudged
  refine ⟨fun c f args s => exec_judged, fun c f args s harrives hgood hother => ?_, fun k f payload s => exec_passedOn⟩
  have hrow : exec (commandInstr c f args) s = exec (frameInstr .command f (c.code :: args)) s := by cases c <;> rfl
  rw [hrow]
  exact exec_passedOn (.inl rfl) harrives hgood hother

end Sys2Proof.Machine

-- ==== Sys2Proof/Proofs/CommandRefusals.lean ====
/-! PROOF. Refusals by code, state, count of arguments and value (R172, R179, R189), and the tests of CONFIG_SET (R171). -/

namespace Sys2Proof.Machine

open Sys2Proof (Byte Frame)

/-! ### Refusals (R164, R172, R179, R189) -/

theorem noticeConfig_state (s : State) : (noticeConfig s).stn.state = s.stn.state := (noticeConfig_stn s).left

theorem noticeConfig_items (s : State) : (noticeConfig s).stn.items = s.stn.items := (noticeConfig_stn s).right

/-- The state in which a command is judged: a configuration-class command is noticed first (R164). -/
theorem judgedIn_state (c : Cmd) (s : State) : (if c.configClass then noticeConfig s else s).stn.state = s.stn.state := by
  split
  · exact noticeConfig_state s
  · rfl

/-- A command in a state outside its column (R172). -/
theorem judgeCommand_refused {c : Cmd} {s : State} (args : List Byte) (h : c.acceptedIn s.stn.state = false) :
    judgeCommand (c.code :: args) s = (if c.configClass then noticeConfig s else s, .refusedState) := by
  simp [judgeCommand, c.ofByte_code, judgedIn_state, h]

/-- In MAINS_LOSS no command is in its column (R172). -/
theorem acceptedIn_mainsLoss (c : Cmd) : c.acceptedIn .mainsLoss = false := by cases c <;> rfl

theorem judgeCommand_unknown {payload : List Byte} (h : unknownCommand payload = true) (s : State) :
    judgeCommand payload s = (s, if s.stn.state = .mainsLoss then .refusedState else .refusedRange) := by
  cases payload with
  | nil => rfl
  | cons code args => simp [judgeCommand, Option.isNone_iff_eq_none.mp h]

/-- A good COMMAND of no known code, addressed to the station (R189). -/
theorem exec_unknownCommand {f : Frame} {payload : List Byte} {s : State} (harrives : ArrivesWhole f payload s)
    (hgood : CheckGood f .command payload) (htarget : matchesTarget s f.target.toNat = true) (hunknown : unknownCommand payload = true) :
    ∃ t, exec (.unknownCommandCode f payload) s = .next t ∧ t.offLine = s.offLine ∧
      t.out.sent = sentBytes f .command payload ++
        resultTrailer f (if s.stn.state = .mainsLoss then .refusedState else .refusedRange) s := by
  obtain ⟨t, u, hexec, hu, hoff, hsent⟩ := exec_plainFrame (.inr (.inr (.inl rfl))) harrives hgood (by simp) (lengthRight_of_open _ rfl)
  have hto : matchesTarget u (asGivenPassage .command f payload).target.toNat = true := (matchesTarget_of_offLine hu _).trans htarget
  simp only [actOn, hto, if_true, asGivenPassage_payload .command f _ (payload_length_le harrives), judgeCommand_unknown hunknown,
    stn_of_offLine hu] at hoff hsent
  refine ⟨t, hexec, hoff.trans hu, ?_⟩
  rw [hsent, ← trailerOut_result .command f payload _ hu]
  rfl

/-- ATTN_SET refuses a code of no source, and an enable or a level above 1 (R179). -/
theorem runCommand_attnSet_refused {code enable level : Byte} (s : State)
    (h : code.toNat = 0 ∨ 16 < code.toNat ∨ 1 < enable.toNat ∨ 1 < level.toNat) :
    runCommand .attnSet [code, enable, level] s = (s, .refusedRange) := by
  obtain ⟨-, hnone⟩ := Source.ofCode_spec code.toNat
  dsimp only [runCommand]
  split
  · next src hsrc =>
    have hcode : ¬(code.toNat = 0 ∨ 16 < code.toNat) := fun hbad => by simp [hnone.mpr hbad] at hsrc
    exact if_neg (by omega)
  · rfl

/-- Settles O19, by the order of the tests: known code, state, count of arguments, value. -/
theorem commandRefused : Obligations.CommandRefused := by
  unfold Obligations.CommandRefused
  refine ⟨fun f payload s => exec_unknownCommand, fun c f args s haddr hout => ?_, fun c f args s haddr hin hcount => ?_,
    fun f code enable level s haddr hrun hbad => ?_⟩
  · have hrefused : c.acceptedIn s.stn.state = false := by
      rcases hout with hout | hloss
      · exact hout
      · rw [hloss, acceptedIn_mainsLoss]
    simpa only [judgeCommand_refused args hrefused] using exec_judged haddr
  · have hwrong : args.length ≠ c.argCount := by cases c <;> exact hcount
    simpa only [judgeCommand_accepted args hin, runCommand_wrongCount hwrong] using exec_judged haddr
  · have hin : Cmd.acceptedIn .attnSet s.stn.state = true := by simpa [Cmd.acceptedIn] using hrun
    have hjudged := exec_judged haddr
    rw [judgeCommand_accepted _ hin, runCommand_attnSet_refused _ hbad] at hjudged
    exact hjudged

/-! ### CONFIG_SET (R171, R151) -/

theorem noticeConfig_lock (s : State) : (noticeConfig s).stn.lock = s.stn.lock := by
  unfold noticeConfig
  split <;> rfl

theorem configSetItem_outOfRange {code v : Nat} {s : State} (h : s.stn.items.put code v = none) :
    configSetItem code v s = (s, .refusedRange) := by
  rw [configSetItem, h]

theorem configSetItem_inRange {code v : Nat} {x : Items} {s : State} (h : s.stn.items.put code v = some x) :
    configSetItem code v s = if x.consistent = false then (s, .refusedRange)
      else if lockedItem code ∧ s.stn.lock then (s, .refusedLocked)
      else (writeItems x s, .accepted) := by
  rw [configSetItem, h]

/-- Item 1 alone is never locked (R171). -/
theorem lockedItem_iff (item : Byte) : lockedItem item.toNat = true ↔ item ≠ 1#8 := by
  rw [lockedItem, bne_iff_ne, not_iff_not]
  exact ⟨fun h => BitVec.eq_of_toNat_eq h, fun h => h ▸ rfl⟩

/-- Settles O23: the tests of R171 in turn, on the items of the noticed state. -/
theorem configSetWritesItem : Obligations.ConfigSetWritesItem := by
  unfold Obligations.ConfigSetWritesItem
  intro f item hi lo s haddr hrun
  have hin : Cmd.acceptedIn .configSet s.stn.state = true := by simpa [Cmd.acceptedIn] using hrun
  obtain ⟨t, hexec, hoff, hsent⟩ := exec_judged haddr
  have hjudge : judgeCommand (Cmd.configSet.code :: [item, hi, lo]) s = configSetItem item.toNat (word16 hi lo) (noticeConfig s) :=
    judgeCommand_accepted _ hin
  rw [hjudge] at hoff hsent
  refine ⟨t, hexec, ?_⟩
  rw [← noticeConfig_items s]
  split
  · next hput =>
    rw [configSetItem_outOfRange hput] at hoff hsent
    exact ⟨hsent, hoff⟩
  · next x hput =>
    rw [configSetItem_inRange hput] at hoff hsent
    refine ⟨fun hbad => ?_, fun hgood hitem hlock => ?_, fun hgood hfree => ?_⟩
    · rw [if_pos hbad] at hoff hsent
      exact ⟨hsent, hoff⟩
    · rw [if_neg (by simp [hgood]), if_pos ⟨(lockedItem_iff item).mpr hitem, (noticeConfig_lock s).trans hlock⟩] at hoff hsent
      exact ⟨hsent, hoff⟩
    · have hopen : ¬(lockedItem item.toNat = true ∧ (noticeConfig s).stn.lock = true) := fun ⟨hlocked, hlock⟩ => by
        rcases hfree with h | h
        · exact (lockedItem_iff item).mp hlocked h
        · simp [noticeConfig_lock, h] at hlock
      rw [if_neg (by simp [hgood]), if_neg hopen] at hoff hsent
      refine ⟨hsent, hoff.trans ?_⟩
      rw [writeItems]
      simp

end Sys2Proof.Machine

-- ==== Sys2Proof/Proofs/HoldResume.lean ====
/-! PROOF. HOLD and RESUME: the deck by its state, and the records that stand at 0 when the show runs again (R166, R132, R48). -/

namespace Sys2Proof.Machine

open Sys2Proof (Frame)

/-! ### The deck at a HOLD and at a RESUME (R132, R166) -/

theorem afterHold_playing {s : State} (h : s.deck.state = .playing) :
    afterHold s = { s with
      stn := { s.stn with showState := .held }
      deck := { s.deck with state := .paused true, gateOpen := false, gateTimer := false }
      dec := if s.deck.gateOpen then s.dec.closeGate else s.dec } := by
  rw [afterHold, h]
  rfl

theorem afterHold_braking {s : State} {m : Pending} {coast : Coast} (h : s.deck.state = .braking m coast) :
    afterHold s = { s with
      stn := { s.stn with showState := .held }
      deck := { s.deck with state := .braking (if m = .playing then .pausedHold else m) coast } } := by
  rw [afterHold, h]
  cases m
  case playing => rfl
  all_goals simp [← h]

theorem afterHold_other {s : State} (hplay : s.deck.state ≠ .playing) (hbrake : s.deck.state.isBraking = false) :
    afterHold s = { s with stn := { s.stn with showState := .held } } := by
  unfold afterHold
  split
  · next h => exact absurd h hplay
  · next h => simp [h, DeckState.isBraking] at hbrake
  · rfl

theorem afterResume_paused {s : State} (h : s.deck.state = .paused true) :
    afterResume s = { s with
      stn := { s.stn with showState := .running }
      deck := { s.deck with state := .playing, gateOpen := false, gateTimer := true }
      dec := if s.deck.gateOpen then s.dec.closeGate else s.dec } := by
  rw [afterResume, h]
  rfl

theorem afterResume_braking {s : State} {m : Pending} {coast : Coast} (h : s.deck.state = .braking m coast) :
    afterResume s = { s with
      stn := { s.stn with showState := .running }
      deck := { s.deck with state := .braking (if m = .pausedHold then .playing else m) coast } } := by
  rw [afterResume, h]
  cases m
  case pausedHold => rfl
  all_goals simp [← h]

theorem afterResume_other {s : State} (hpaused : s.deck.state ≠ .paused true) (hbrake : s.deck.state.isBraking = false) :
    afterResume s = { s with stn := { s.stn with showState := .running } } := by
  unfold afterResume
  split
  · next h => exact absurd h hpaused
  · next h => simp [h, DeckState.isBraking] at hbrake
  · rfl

/-! ### The records that stand at 0 at a RESUME (R48) -/

theorem afterResume_disp (s : State) : (afterResume s).disp = s.disp := by
  simp [← resumeShow_eq_afterResume, resumeShow]

theorem afterResume_running {s : State} (h : s.stn.state = .active) : showRunning (afterResume s) = true := by
  rw [showRunning_iff, afterResume_stn]
  exact ⟨h, rfl⟩

/-- A RESUME event that finds the show HELD routes what is due (R166, R48). -/
theorem resumeEvent_routes {s : State} (h : s.stn.state = .active) (hheld : s.stn.showState = .held) :
    resumeEvent s = routeDueUpTo s.disp.schedule.length (afterResume s) := by
  rw [resumeEvent, if_pos ((showHeld_iff s).2 ⟨h, hheld⟩), resumeShow_eq_afterResume, routeDue, afterResume_disp]

theorem resumeEvent_due {s : State} {due rest : List Record} (h : s.stn.state = .active) (hheld : s.stn.showState = .held)
    (hlist : s.disp.schedule = due ++ rest) (hdue : ∀ r ∈ due, r.remaining = 0 ∧ r.verb ≠ .follow)
    (hrest : ∀ r ∈ rest, r.remaining ≠ 0) :
    resumeEvent s = routedAll due { afterResume s with disp := { s.disp with schedule := rest } } := by
  rw [resumeEvent_routes h hheld, routeDueUpTo_append due rest _ _ (by rw [afterResume_disp, hlist]) (afterResume_running h) hdue hrest
    (by simp [hlist]), afterResume_disp]

theorem resumeEvent_follow {s : State} {r : Record} {rest : List Record} (h : s.stn.state = .active) (hheld : s.stn.showState = .held)
    (hlist : s.disp.schedule = r :: rest) (hdue : r.remaining = 0) (hverb : r.verb = .follow) (hrest : ∀ x ∈ rest, x.remaining ≠ 0) :
    resumeEvent s = cueArrival r.a .follow { afterResume s with disp := { s.disp with schedule := rest } } := by
  rw [resumeEvent_routes h hheld, hlist, List.length_cons, routeDueUpTo_follow _ r rest _ (by rw [afterResume_disp, hlist])
    (afterResume_running h) hdue hverb (.inl hrest), afterResume_disp]

/-! ### The commands -/

/-- A HOLD command in ACTIVE is answered ACCEPTED and raises a HOLD event (R166). -/
theorem exec_hold {f : Frame} {s : State} (h : Addressed .hold f [] s) (hactive : s.stn.state = .active) :
    ∃ t, exec (.hold f []) s = .next t ∧ t.out.sent = sentBytes f .command [2#8] ++ resultTrailer f .accepted s ∧
      t.offLine = (holdEvent s).offLine := by
  have hin : Cmd.acceptedIn .hold s.stn.state = true := by rw [hactive]; rfl
  obtain ⟨t, hexec, hoff, hsent⟩ := exec_judged h
  rw [judgeCommand_accepted [] hin] at hoff hsent
  exact ⟨t, hexec, hsent, hoff⟩

/-- A RESUME command in ACTIVE is answered ACCEPTED and raises a RESUME event (R166). -/
theorem exec_resume {f : Frame} {s : State} (h : Addressed .resume f [] s) (hactive : s.stn.state = .active) :
    ∃ t, exec (.resume f []) s = .next t ∧ t.out.sent = sentBytes f .command [3#8] ++ resultTrailer f .accepted s ∧
      t.offLine = (resumeEvent s).offLine := by
  have hin : Cmd.acceptedIn .resume s.stn.state = true := by rw [hactive]; rfl
  obtain ⟨t, hexec, hoff, hsent⟩ := exec_judged h
  rw [judgeCommand_accepted [] hin] at hoff hsent
  exact ⟨t, hexec, hsent, hoff⟩

/-- Settles O21, by what the deck was doing and by the records at the head of the list. -/
theorem holdAndResumeAct : Obligations.HoldAndResumeAct := by
  unfold Obligations.HoldAndResumeAct
  refine ⟨fun f s haddr hactive => ?_, fun f s haddr hactive => ?_⟩
  · obtain ⟨t, hexec, hsent, hoff⟩ := exec_hold haddr hactive
    rw [holdEvent_active s hactive] at hoff
    have hruns : s.stn.showState = .running → t.offLine = (afterHold s).offLine := fun hrun => by rw [hoff, if_pos hrun]
    refine ⟨t, hexec, hsent, fun hheld => ?_, fun hrun hplay => ?_, fun hrun hplay hbrake => ?_, fun hrun coast hbrake => ?_,
      fun hrun m coast hbrake hm => ?_⟩
    · rw [hoff, if_neg (by rw [hheld]; exact nofun)]
    · rw [hruns hrun, afterHold_playing hplay]
    · rw [hruns hrun, afterHold_other hplay hbrake]
    · rw [hruns hrun, afterHold_braking hbrake, if_pos rfl]
    · rw [hruns hrun, afterHold_braking hbrake, if_neg hm, ← hbrake]
  · obtain ⟨t, hexec, hsent, hoff⟩ := exec_resume haddr hactive
    have hearly : s.stn.showState = .held → (∀ r ∈ s.disp.schedule, r.remaining ≠ 0) → t.offLine = (afterResume s).offLine :=
      fun hheld hlate => by rw [hoff, resumeEvent_held s hactive hheld hlate]
    refine ⟨t, hexec, hsent, fun hrun => ?_, fun hheld hlate hpaused => ?_, fun hheld hlate hpaused hbrake => ?_,
      fun hheld hlate m coast hbrake => ?_, fun due rest hlist hheld hdue hrest => ?_,
      fun r rest hlist hheld hdue hverb hrest => ?_⟩
    · rw [hoff, resumeEvent_of_not_held s (by rw [hrun]; exact nofun)]
    · rw [hearly hheld hlate, afterResume_paused hpaused]
    · rw [hearly hheld hlate, afterResume_other hpaused hbrake]
    · rw [hearly hheld hlate, afterResume_braking hbrake]
    · rw [hoff, resumeEvent_due hactive hheld hlist hdue hrest]
    · rw [hoff, resumeEvent_follow hactive hheld hlist hdue hverb hrest]

end Sys2Proof.Machine

-- ==== Sys2Proof/Proofs/WaitingReset.lean ====
/-! PROOF. RESET over the loop: accepted at its CHECK, and taken when the last trailer byte has been sent (R7, R22, R172, R173). -/

namespace Sys2Proof.Machine

open Sys2Proof (Frame Readings)

/-! ### The loop reset that waits for its frame's end (R7, R22, R173) -/

/-- While nothing waits on LOOP OUT, the byte on the line is the only one that a waiting loop reset sees sent whole. -/
theorem LoopOut.ticks_resetAhead (n : Nat) (o : LoopOut) (ho : o.originating = []) (hb : o.buffer = []) :
    (o.ticks n).resetAhead = if o.left ≠ 0 ∧ o.left ≤ n then o.resetAhead.map (· - 1) else o.resetAhead := by
  induction n generalizing o with
  | zero => simp [LoopOut.ticks]
  | succ n ih =>
    obtain ⟨hbo, hbb⟩ : o.bitTime.originating = [] ∧ o.bitTime.buffer = [] := by
      unfold LoopOut.bitTime
      split <;> exact ⟨ho, hb⟩
    rw [LoopOut.ticks, o.tick_empty ho hb, ih _ hbo hbb, LoopOut.bitTime]
    obtain hidle | hlast | hbusy : o.left = 0 ∨ o.left = 1 ∨ 2 ≤ o.left := by omega
    · simp [hidle]
    · simp [hlast]
    · have hon : o.left ≠ 0 := by omega
      have hnext : o.left ≠ 1 := by omega
      simp only [if_neg hon, if_neg hnext]
      exact if_congr (by omega) rfl rfl

theorem exec_loopReset_due (r : Readings) {s : State} (hpower : s.power = .running) (h : s.out.resetAhead = some 0) :
    exec (.loopReset r) s = .next (loopReset r s) := by
  have hdue : loopResetDue s = true := by rw [loopResetDue, h]; rfl
  exact congrArg Host.Outcome.next ((if_pos hpower).trans (if_pos hdue))

theorem exec_loopReset_early (r : Readings) {s : State} (hpower : s.power = .running) (h : s.out.resetAhead ≠ some 0) :
    exec (.loopReset r) s = .next s := by
  have hdue : ¬loopResetDue s = true := by simpa [loopResetDue] using h
  exact congrArg Host.Outcome.next ((if_pos hpower).trans (if_neg hdue))

/-- LOOP OUT moves on while LOOP IN is quiet (R18). -/
theorem exec_delayBufferSend (n : Nat) {s : State} (hpower : s.power = .running) (hquiet : s.loop.rx = .quiet) (hbits : s.loop.bits = 0) :
    ∃ u, exec (.delayBufferSend n) s = .next u ∧ u.power = .running ∧ u.out = { s.out with sent := [] }.ticks n := by
  have hline := idleFor_held n (clearSent s) hquiet hbits
  exact ⟨_, congrArg Host.Outcome.next (if_pos hpower), by simpa using hpower, congrArg State.out hline⟩

/-- A RESET outside MAINS_LOSS changes nothing off the line, and its frame's last trailer byte is on LOOP OUT with the loop reset behind it
(R172, R173). -/
theorem exec_reset {f : Frame} {s : State} (h : Addressed .reset f [] s) (hrun : s.stn.state ≠ .mainsLoss)
    (hnone : s.out.resetAhead = none) :
    ∃ u, u.offLine = s.offLine ∧ exec (.reset f []) s = .next (onLine u .quiet
      { lineOut 10 [] (some 1) with sent := sentBytes f .command [12#8] ++ resultTrailer f .accepted s }) := by
  obtain ⟨u, ahead, hu, -, hahead, hexec⟩ := exec_commandOnLine h
  have hin : Cmd.acceptedIn .reset u.stn.state = true := by
    rw [stn_of_offLine hu]
    simpa [Cmd.acceptedIn] using hrun
  have hjudge : judgeCommand [Cmd.reset.code] u = (u, .accepted) := judgeCommand_accepted [] hin
  rw [hjudge, hahead hnone] at hexec
  exact ⟨u, hu, hexec⟩

/-- Settles O27: the last trailer byte has ten bit times to go, and the loop reset is due when they have passed. -/
theorem resetWaitsForFrameEnd : Obligations.ResetWaitsForFrameEnd := by
  unfold Obligations.ResetWaitsForFrameEnd
  refine ⟨fun n f r s haddr hrun hnone => ?_, fun r s hpower => ⟨exec_loopReset_due r hpower, exec_loopReset_early r hpower⟩⟩
  obtain ⟨v, hv, hexec⟩ := exec_reset haddr hrun hnone
  obtain ⟨⟨hpower, -⟩, -⟩ := haddr
  have hvpower : v.power = .running := (congrArg State.power hv).trans hpower
  let t := onLine v .quiet { lineOut 10 [] (some 1) with sent := sentBytes f .command [12#8] ++ resultTrailer f .accepted s }
  obtain ⟨u, hsend, hupower, hout⟩ := exec_delayBufferSend n (s := t) hvpower rfl rfl
  have hahead : u.out.resetAhead = if 10 ≤ n then some 0 else some 1 := by
    rw [hout, LoopOut.ticks_resetAhead n _ rfl rfl]
    exact if_congr (by simp [t, lineOut]) rfl rfl
  refine ⟨t, u, hexec, hsend, rfl, hv, rfl, rfl, exec_loopReset_early r hvpower nofun, fun hn => ?_, fun hn => ?_⟩
  · rw [if_neg (by omega)] at hahead
    exact exec_loopReset_early r hupower (by rw [hahead]; exact nofun)
  · rw [if_pos hn] at hahead
    exact ⟨hahead, exec_loopReset_due r hupower hahead⟩

end Sys2Proof.Machine

-- ==== Sys2Proof/Proofs/StandbyAndWake.lean ====
/-! PROOF. STANDBY block by block, with the test of the standby condition at its entry, and WAKE (R165, R167 to R169). -/

namespace Sys2Proof.Machine

open Sys2Proof (Byte Frame)

/-! ### The fan at the entry into COOLING_DOWN and STANDBY (R107, R118) -/

/-- What the choice of a fan stage leaves of the Cooling Controller's heat and causes. -/
def SameHeat (c d : Cooling) : Prop := d.heat = c.heat ∧ d.heatStage = c.heatStage ∧ d.cool = c.cool ∧ d.tripped = c.tripped

theorem Cooling.setStage_sameHeat {c d : Cooling} (h : SameHeat c d) (stage : Nat) : SameHeat c (d.setStage stage) := by
  obtain ⟨hheat, hstage, hcool, htripped⟩ := h
  simp [SameHeat, hheat, hstage, hcool, htripped]

theorem setLamp_sameHeat {c : Cooling} {s : State} (h : SameHeat c s.cool) (l : Lamp) : SameHeat c (setLamp l s).cool := by
  rw [setLamp_cool]
  split
  · exact h
  · exact Cooling.setStage_sameHeat h _

/-- The entry into COOLING_DOWN ends with the fan chosen for it, heat and causes as they were. -/
theorem enterCoolingDown_cool (s : State) :
    SameHeat s.cool (enterCoolingDown s).cool ∧
    (enterCoolingDown s).cool.fanStage = max (max s.cool.heatStage 1) (if s.cool.tripped then 3 else 0) := by
  let entered := stopSilence { s with
    stn := { s.stn with state := .coolingDown, showState := .none, window := .off }
    cool := fanBeforeCoolingDown s }
  let told := tellLampAndTray Lamp.coolDown Transport.flush entered
  have hcool : (enterCoolingDown s).cool = told.cool.setStage (fanWanted told) := by
    simp [enterCoolingDown, emptySchedule, chooseFan, told, entered]
  have hbefore : SameHeat s.cool (fanBeforeCoolingDown s) := by simp [SameHeat]
  have htold : SameHeat s.cool told.cool := by
    rw [show told.cool = _ from tellLampAndTray_cool ..]
    exact setLamp_sameHeat (s := entered) hbefore _
  have hstate : told.stn.state = .coolingDown := by simp [told, entered, stopSilence]
  refine ⟨hcool ▸ Cooling.setStage_sameHeat htold _, ?_⟩
  obtain ⟨-, hstage, -, htripped⟩ := htold
  simp [hcool, fanWanted, hstate, hstage, htripped]

/-- The test of the standby condition in COOLING_DOWN with the lamp out (R107, R168). -/
theorem standbyTest_coolingDown {s : State} (h : s.stn.state = .coolingDown) (hlamp : s.lamp.burning = false) :
    standbyTest s = if standbyCondition s = true then { s with
        stn := { s.stn with state := .standby }
        cool := s.cool.setStage (if s.cool.tripped then 3 else 0) }
      else s := by
  have hfan : fanWanted { s with stn := { s.stn with state := .standby } } = if s.cool.tripped then 3 else 0 := fanWanted_standby rfl hlamp
  rw [standbyTest, chooseFan, hfan]
  exact if_congr (and_iff_right h) rfl rfl

/-! ### The deck at a STOP (R126) -/

theorem tapeStop_state (s : State) : (tapeStop s).deck.state = (modeTable .stop s.deck.state).getD s.deck.state := by
  unfold tapeStop brakeTo
  rcases hstate : s.deck.state with _ | _ | ⟨m, c⟩ | _ | _ | _ | _ <;> simp [hstate, modeTable, brakedTo, enterDeck]

theorem tapeStop_settled {s : State} (h : s.deck.state = .stopped ∨ s.deck.state = .noCassette) : tapeStop s = s := by
  unfold tapeStop
  rcases h with h | h <;> rw [h]

/-- A STOP leaves the deck's volume and counter. -/
theorem tapeStop_deck (s : State) :
    (tapeStop s).deck = { s.deck with
      state := (tapeStop s).deck.state, gateOpen := (tapeStop s).deck.gateOpen, gateTimer := (tapeStop s).deck.gateTimer } := by
  unfold tapeStop brakeTo
  rcases hstate : s.deck.state with _ | _ | ⟨m, c⟩ | _ | _ | _ | _ <;> simp [enterDeck]

/-- A STOP closes the decoder gate (R133). -/
theorem tapeStop_gate {s : State} (h : GateInPlaying s) :
    (tapeStop s).deck.gateOpen = false ∧ (tapeStop s).deck.gateTimer = false ∧
    (tapeStop s).dec = if s.deck.gateOpen then s.dec.closeGate else s.dec := by
  obtain ⟨hgate, htimer⟩ := h
  by_cases hsettled : s.deck.state = .stopped ∨ s.deck.state = .noCassette
  · have hplay : s.deck.state ≠ .playing := by rcases hsettled with h | h <;> rw [h] <;> exact nofun
    have hopen : s.deck.gateOpen = false := eq_false_of_ne_true fun hn => hplay (hgate hn)
    rw [tapeStop_settled hsettled, hopen]
    exact ⟨rfl, eq_false_of_ne_true fun hn => hplay (htimer hn), rfl⟩
  · obtain ⟨hstopped, hcassette⟩ := not_or.mp hsettled
    rw [tapeStop_eq ⟨hgate, htimer⟩ hcassette, if_neg hstopped]
    refine ⟨rfl, decide_eq_false ?_, rfl⟩
    cases s.deck.state <;> exact nofun

/-! ### The entry into COOLING_DOWN, block by block (R167) -/

theorem enterCoolingDown_disp (s : State) : (enterCoolingDown s).disp = { s.disp with schedule := [] } := by
  simp [enterCoolingDown, emptySchedule, stopSilence]

theorem enterCoolingDown_tray (s : State) : ∃ x, (enterCoolingDown s).tray = x.flush ∧ SameTray s.tray x := by
  obtain ⟨x, htray, hsame, -⟩ := tellLampAndTray_tray Lamp.coolDown (f := Transport.flush) (s := stopSilence { s with
    stn := { s.stn with state := .coolingDown, showState := .none, window := .off }
    cool := fanBeforeCoolingDown s }) rfl
  exact ⟨x, by simpa [enterCoolingDown, emptySchedule] using htray, hsame⟩

/-- The deck takes the entry as a STOP, and the sound ramp is cancelled (R138). -/
theorem enterCoolingDown_deck (s : State) :
    ∃ u, u.deck = s.deck ∧ u.dec = s.dec ∧ (enterCoolingDown s).dec = (tapeStop u).dec ∧
      (enterCoolingDown s).deck = { (tapeStop u).deck with ramp := { (tapeStop u).deck.ramp with running := false } } :=
  ⟨_, by simp [stopSilence], by simp [stopSilence], rfl, rfl⟩

/-! ### STANDBY (R165, R167, R168) -/

/-- What a STANDBY leaves before the standby condition is tested (R167). -/
def restedAt (s : State) : State := enterCoolingDown (if s.stn.state = .configuring then lockConfiguration s else s)

theorem takeStandby_eq (s : State) : takeStandby s = standbyTest (restedAt s) := rfl

/-- STANDBY in CONFIGURING closes it first: the commit and the lock mark (R165). -/
theorem closedFirst_eq (s : State) :
    (if s.stn.state = .configuring then lockConfiguration s else s) = { s with
      disp := if s.stn.state = .configuring then s.disp.closeCommit else s.disp
      stn := if s.stn.state = .configuring then { s.stn with lock := true, window := .off } else s.stn } := by
  by_cases h : s.stn.state = .configuring
  · simp only [if_pos h]
    rfl
  · simp only [if_neg h]

theorem restedAt_stn (s : State) :
    (restedAt s).stn = { s.stn with
      state := .coolingDown, showState := .none, window := .off
      lock := if s.stn.state = .configuring then true else s.stn.lock } := by
  rw [restedAt, enterCoolingDown_stn]
  split <;> rfl

theorem restedAt_disp {s : State} (h : s.stn.state = .active ∨ s.stn.state = .configuring) :
    (restedAt s).disp = if s.stn.state = .active then { s.disp with schedule := [] }
      else if s.disp.mirrorBusy then { s.disp with schedule := [], deferred := true }
      else { s.disp with schedule := [], live := s.disp.live.other, mirrorBusy := true, mirrorCopied := 0 } := by
  rw [restedAt, enterCoolingDown_disp]
  rcases h with h | h <;> simp only [h]
  · rfl
  · simp only [reduceCtorEq, if_false, if_true]
    show ({ s.disp.closeCommit with schedule := [] } : Dispatcher) = _
    unfold Dispatcher.closeCommit
    split <;> rfl

theorem restedAt_lamp (s : State) : (restedAt s).lamp = if s.lamp.burning then s.lamp.extinguish .off else s.lamp := by
  rw [restedAt, enterCoolingDown_lamp, closedFirst_eq]
  rfl

theorem restedAt_tray (s : State) : ∃ x, (restedAt s).tray = x.flush ∧ SameTray s.tray x := by
  obtain ⟨x, htray, hsame⟩ := enterCoolingDown_tray (if s.stn.state = .configuring then lockConfiguration s else s)
  exact ⟨x, htray, by rwa [closedFirst_eq] at hsame⟩

theorem restedAt_deck (s : State) :
    ∃ u, u.deck = s.deck ∧ u.dec = s.dec ∧ (restedAt s).dec = (tapeStop u).dec ∧
      (restedAt s).deck = { (tapeStop u).deck with ramp := { (tapeStop u).deck.ramp with running := false } } := by
  have h := enterCoolingDown_deck (if s.stn.state = .configuring then lockConfiguration s else s)
  rw [closedFirst_eq] at h
  rw [restedAt, closedFirst_eq]
  exact h

theorem restedAt_cool (s : State) :
    SameHeat s.cool (restedAt s).cool ∧ (restedAt s).cool.fanStage = max (max s.cool.heatStage 1) (if s.cool.tripped then 3 else 0) := by
  have h := enterCoolingDown_cool (if s.stn.state = .configuring then lockConfiguration s else s)
  rw [closedFirst_eq] at h
  rw [restedAt, closedFirst_eq]
  exact h

theorem restedAt_silence (s : State) : (restedAt s).loop.silence = .stopped := by rw [restedAt, enterCoolingDown_loop]

/-- After a STANDBY the station is in STANDBY if the condition holds, with the fan at rest but for a trip cause (R168, R118). -/
theorem takeStandby_tested (s : State) :
    takeStandby s = if standbyCondition (restedAt s) = true then { restedAt s with
        stn := { (restedAt s).stn with state := .standby }
        cool := (restedAt s).cool.setStage (if s.cool.tripped then 3 else 0) }
      else restedAt s := by
  obtain ⟨⟨-, -, -, htripped⟩, -⟩ := restedAt_cool s
  have hlamp : (restedAt s).lamp.burning = false := by
    rw [restedAt, enterCoolingDown_lamp]
    exact coolDown_burning _
  rw [takeStandby_eq, standbyTest_coolingDown (by rw [restedAt_stn]) hlamp, htripped]

/-- The test of the standby condition reaches station and fan alone (R168). -/
theorem takeStandby_blocks (s : State) :
    (takeStandby s).disp = (restedAt s).disp ∧ (takeStandby s).tray = (restedAt s).tray ∧ (takeStandby s).lamp = (restedAt s).lamp ∧
    (takeStandby s).deck = (restedAt s).deck ∧ (takeStandby s).dec = (restedAt s).dec := by
  simp [takeStandby_eq]

theorem takeStandby_stn (s : State) :
    (takeStandby s).stn = { (restedAt s).stn with state := if standbyCondition (restedAt s) = true then .standby else .coolingDown } := by
  rw [takeStandby_tested]
  split
  · rfl
  · rw [restedAt_stn]

theorem takeStandby_tray (s : State) :
    (takeStandby s).tray.darkTimer = false ∧ (takeStandby s).tray.queue = [] ∧ SameTray s.tray (takeStandby s).tray := by
  obtain ⟨x, hflush, hsame⟩ := restedAt_tray s
  obtain ⟨-, htray, -⟩ := takeStandby_blocks s
  rw [htray, hflush]
  exact ⟨rfl, rfl, hsame⟩

/-- The deck takes a STANDBY as a STOP, and the sound stops where it is (R138, R126). -/
theorem takeStandby_deck (s : State) :
    (takeStandby s).deck.ramp.running = false ∧ (takeStandby s).deck.volume = s.deck.volume ∧
    (takeStandby s).deck.counter = s.deck.counter ∧
    (s.deck.state = .stopped ∨ s.deck.state = .noCassette → (takeStandby s).deck.state = s.deck.state ∧ (takeStandby s).dec = s.dec) ∧
    (takeStandby s).deck.state = (modeTable .stop s.deck.state).getD s.deck.state ∧
    (GateInPlaying s → (takeStandby s).deck.gateOpen = false ∧ (takeStandby s).deck.gateTimer = false ∧
      (takeStandby s).dec = if s.deck.gateOpen then s.dec.closeGate else s.dec) := by
  obtain ⟨u, hdeck, hdec, hdecStop, hdeckStop⟩ := restedAt_deck s
  obtain ⟨-, -, -, hd, hdd⟩ := takeStandby_blocks s
  rw [hd, hdd, hdecStop, hdeckStop, ← hdeck, ← hdec]
  refine ⟨rfl, by rw [tapeStop_deck], by rw [tapeStop_deck], fun hsettled => ?_, tapeStop_state u, fun hgate => ?_⟩
  · rw [tapeStop_settled hsettled]
    exact ⟨rfl, rfl⟩
  · rw [GateInPlaying, ← hdeck] at hgate
    exact tapeStop_gate hgate

theorem takeStandby_cool (s : State) :
    (takeStandby s).cool.heat = s.cool.heat ∧
    (takeStandby s).cool.fanStage =
      max (if (takeStandby s).stn.state = .standby then 0 else max s.cool.heatStage 1) (if s.cool.tripped then 3 else 0) := by
  obtain ⟨⟨hheat, -⟩, hfan⟩ := restedAt_cool s
  rw [takeStandby_stn, takeStandby_tested]
  split
  · simp [hheat]
  · simp [hheat, hfan]

/-- The standby condition as STANDBY finds it, in the cool mark before and in tray and deck after (R168). -/
theorem standbyCondition_restedAt (s : State) :
    standbyCondition (restedAt s) = true ↔
      s.cool.cool = true ∧ (takeStandby s).tray.inCycle = false ∧ (takeStandby s).deck.settled = true := by
  obtain ⟨⟨-, -, hcool, -⟩, -⟩ := restedAt_cool s
  simp [standbyCondition, takeStandby_eq, hcool, and_assoc]

/-! ### WAKE (R169, R107, R20) -/

theorem takeWake_spec {s : State} (h : s.stn.state = .coolingDown ∨ s.stn.state = .standby) :
    (takeWake s).loop.silence = (if s.stn.items.silenceTimeout ≠ 0 then .running else s.loop.silence) ∧
    (takeWake s).offLine = { s with
      stn := { s.stn with state := .active, showState := .running, window := .off }
      cool := s.cool.setStage (max (max s.cool.heatStage (if s.lamp.burning then 1 else 0)) (if s.cool.tripped then 3 else 0)) }.offLine := by
  have hwake : takeWake s = chooseFan (enterActive s) := if_pos h
  rw [hwake, chooseFan_offLine (enterActive_offLine s)]
  refine ⟨by simp [enterActive, restartSilence_loop], ?_⟩
  simp [chooseFan, fanWanted]

/-! ### The commands -/

theorem fields_of_offLine {s t : State} (h : t.offLine = s.offLine) :
    t.power = s.power ∧ t.disp = s.disp ∧ t.tray = s.tray ∧ t.lamp = s.lamp ∧ t.cool = s.cool ∧ t.deck = s.deck ∧ t.dec = s.dec ∧
    t.remote = s.remote ∧ t.stn = s.stn ∧ t.retained = s.retained := by
  have hfield : ∀ {α : Type} (g : State → α), g t.offLine = g s.offLine := fun g => congrArg g h
  exact ⟨hfield State.power, hfield State.disp, hfield State.tray, hfield State.lamp, hfield State.cool, hfield State.deck,
    hfield State.dec, hfield State.remote, hfield State.stn, hfield State.retained⟩

/-- A good COMMAND addressed to the station is judged with the silence timer as a good frame leaves it (R20). -/
theorem exec_judgedSilence {c : Cmd} {f : Frame} {args : List Byte} {s : State} (h : Addressed c f args s) :
    ∃ t u, exec (commandInstr c f args) s = .next t ∧ t.offLine = (judgeCommand (c.code :: args) s).1.offLine ∧
      t.out.sent = sentBytes f .command (c.code :: args) ++ resultTrailer f (judgeCommand (c.code :: args) s).2 s ∧
      u.offLine = s.offLine ∧ t.loop.silence = (judgeCommand (c.code :: args) u).1.loop.silence ∧
      u.loop.silence = if s.stn.state = .active ∧ s.stn.items.silenceTimeout ≠ 0 then .running else s.loop.silence := by
  obtain ⟨u, ahead, hu, hsilence, -, hexec⟩ := exec_commandOnLine h
  obtain ⟨hstate, hresult⟩ := judgeCommand_of_offLine hu (c.code :: args)
  exact ⟨_, u, hexec, hstate, by rw [← hresult]; rfl, hu, rfl, hsilence⟩

/-- A STANDBY in ACTIVE or CONFIGURING is answered ACCEPTED and taken (R167). -/
theorem exec_standby {f : Frame} {s : State} (h : Addressed .standby f [] s) (hopen : s.stn.state = .active ∨ s.stn.state = .configuring) :
    ∃ t, exec (.standby f []) s = .next t ∧ t.offLine = (takeStandby s).offLine ∧
      t.out.sent = sentBytes f .command [7#8] ++ resultTrailer f .accepted s ∧ t.loop.silence = .stopped := by
  have hin : ∀ u : State, u.stn = s.stn → judgeCommand [Cmd.standby.code] u = (takeStandby u, .accepted) := fun u hu =>
    judgeCommand_accepted [] (by rcases hopen with h | h <;> rw [hu, h] <;> rfl)
  obtain ⟨t, u, hexec, hoff, hsent, hu, hsilence, -⟩ := exec_judgedSilence h
  rw [hin s rfl] at hoff hsent
  rw [hin u (stn_of_offLine hu)] at hsilence
  refine ⟨t, hexec, hoff, hsent, hsilence.trans ?_⟩
  simp [takeStandby_eq, restedAt_silence]

/-- A WAKE in COOLING_DOWN or STANDBY is answered ACCEPTED and taken; the silence timer starts with ACTIVE (R169, R20). -/
theorem exec_wake {f : Frame} {s : State} (h : Addressed .wake f [] s) (hrest : s.stn.state = .coolingDown ∨ s.stn.state = .standby) :
    ∃ t, exec (.wake f []) s = .next t ∧ t.offLine = (takeWake s).offLine ∧
      t.out.sent = sentBytes f .command [8#8] ++ resultTrailer f .accepted s ∧
      t.loop.silence = if s.stn.items.silenceTimeout ≠ 0 then .running else s.loop.silence := by
  have hin : ∀ u : State, u.stn = s.stn → judgeCommand [Cmd.wake.code] u = (takeWake u, .accepted) := fun u hu =>
    judgeCommand_accepted [] (by rcases hrest with h | h <;> rw [hu, h] <;> rfl)
  obtain ⟨t, u, hexec, hoff, hsent, hu, hsilence, hbefore⟩ := exec_judgedSilence h
  have hstn : u.stn = s.stn := stn_of_offLine hu
  rw [hin s rfl] at hoff hsent
  rw [hin u hstn] at hsilence
  rw [if_neg fun hactive => by rcases hrest with h | h <;> simp [h] at hactive] at hbefore
  obtain ⟨hwoken, -⟩ := takeWake_spec (s := u) (by rwa [hstn])
  exact ⟨t, hexec, hoff, hsent, by rw [hsilence, hwoken, hstn, hbefore]⟩

/-- Settles O24, block by block: the entry into COOLING_DOWN, the test of the standby condition, and the wake. -/
theorem standbyRestsAndWakeReturns : Obligations.StandbyRestsAndWakeReturns := by
  unfold Obligations.StandbyRestsAndWakeReturns
  refine ⟨fun f s haddr hopen => ?_, fun f s haddr hrest => ?_⟩
  · obtain ⟨t, hexec, hoff, hsent, hsilence⟩ := exec_standby haddr hopen
    obtain ⟨hpower, hdisp, htray, hlamp, hcool, hdeck, hdec, hremote, hstn, hretained⟩ := fields_of_offLine hoff
    obtain ⟨hdispRested, -, hlampRested, -⟩ := takeStandby_blocks s
    obtain ⟨hdark, hqueue, hslot, hsize, hcertainty, hdemand⟩ := takeStandby_tray s
    obtain ⟨hramp, hvolume, hcounter, hsettled, hmode, hgate⟩ := takeStandby_deck s
    obtain ⟨hheat, hfan⟩ := takeStandby_cool s
    have hcondition := standbyCondition_restedAt s
    have hstation := takeStandby_stn s
    rw [restedAt_stn] at hstation
    have hlock : (takeStandby s).stn.lock = if s.stn.state = .active then s.stn.lock else true := by
      rw [hstation]
      rcases hopen with h | h <;> simp [h]
    refine ⟨t, hexec, hsent, ?_⟩
    rw [hpower, hdisp, htray, hlamp, hcool, hdeck, hdec, hremote, hstn, hretained]
    exact ⟨by rw [hstation], by rw [hstation], hsilence, hdispRested.trans (restedAt_disp hopen), hlock, hdark, hqueue,
      hslot, hsize, hcertainty, hdemand, hlampRested.trans (restedAt_lamp s), hramp, hvolume, hcounter, hsettled, hmode,
      fun hlaw => hgate hlaw.gateInPlaying, by rw [hstation], by simp, by simp, by simp, hheat, hfan,
      by rw [hstation]; exact if_congr hcondition rfl rfl⟩
  · obtain ⟨t, hexec, hoff, hsent, hsilence⟩ := exec_wake haddr hrest
    obtain ⟨-, hwoken⟩ := takeWake_spec hrest
    exact ⟨t, hexec, hsent, hsilence, hoff.trans hwoken⟩

end Sys2Proof.Machine

-- ==== Sys2Proof/Proofs/AttentionLaws.lean ====
/-! PROOF. The law of attention with the counters' (R181, R179, R187): the Unit's own operations keep it, and so do the blocks that do
nothing to the Unit but raise, count and clear by side effect. -/

namespace Sys2Proof.Machine

/-! ### The Unit's own operations -/

/-- The laws of O58, as the Attention Unit holds them: a held source is flagged and enabled, and no counter leaves its 16 bits. -/
structure Attn.Lawful (a : Attn) : Prop where
  held : ∀ c, a.held = some c → (a.get c).flag = true ∧ (a.get c).enable = true
  counters : ∀ k, a.counter k ≤ Config.top16

namespace Attn.Lawful

variable {a : Attn} (h : a.Lawful)
include h

/-- The counters as they were, and each source that is held now held before and as it was. -/
theorem of_heldAlike {b : Attn} (hcounters : b.counters = a.counters)
    (hheld : ∀ c, b.held = some c → a.held = some c ∧ b.get c = a.get c) : b.Lawful := by
  refine ⟨fun c hc => ?_, fun k => ?_⟩
  · obtain ⟨hbefore, hsame⟩ := hheld c hc
    rw [hsame]
    exact h.held c hbefore
  · rw [Attn.counter, hcounters]
    exact h.counters k

theorem count (k : Counter) : (a.count k).Lawful := by
  refine ⟨h.held, fun l => ?_⟩
  by_cases hl : l = k
  · rw [hl, a.counter_count_self k]
    exact Nat.min_le_right _ _
  · rw [a.counter_count_of_ne hl]
    exact h.counters l

/-- A raise of a held source finds its flag set (R178). -/
theorem raise (c : Source) (detail : Nat) : (a.raise c detail).Lawful := by
  obtain ⟨hself, hothers, hheld, -, hcounters⟩ := a.raise_spec c detail
  refine ⟨fun d hd => ?_, fun k => ?_⟩
  · obtain ⟨hflag, henable⟩ := h.held d (hheld ▸ hd)
    by_cases hdc : d = c
    · subst hdc
      rw [hself, if_pos hflag]
      exact ⟨hflag, henable⟩
    · rw [hothers d hdc]
      exact ⟨hflag, henable⟩
  · rw [Attn.counter, hcounters]
    exact h.counters k

/-- A side-effect clear leaves a held source as it is (R183). -/
theorem sideClear (c : Source) : (a.sideClear c).Lawful := by
  obtain ⟨hsame, -, hheld, hcounters, hothers⟩ := a.sideClear_spec c
  refine h.of_heldAlike hcounters fun d hd => ⟨hheld ▸ hd, ?_⟩
  by_cases hdc : d = c
  · rw [hsame (by rw [← hheld, hd, hdc])]
  · exact hothers d hdc

/-- An ACK of the held source releases it (R182). -/
theorem ack (c : Source) : (a.ack c).Lawful := by
  obtain ⟨hsources, -, hcounters, hheld⟩ := a.ack_sources c
  obtain ⟨-, hothers, -⟩ := a.clear_spec c
  refine h.of_heldAlike hcounters fun d hd => ?_
  rw [hheld] at hd
  split at hd
  · contradiction
  · next hc =>
    rw [Attn.get_congr hsources]
    exact ⟨hd, hothers d fun hdc => hc (hdc ▸ hd)⟩

/-- An ATTN_SET that clears the enable of the held source releases it (R179). -/
theorem setting (c : Source) (enable high : Bool) : (a.setting c enable high).Lawful := by
  obtain ⟨hsources, -, hcounters, hheld⟩ := a.setting_sources c enable high
  refine ⟨fun d hd => ?_, fun k => ?_⟩
  · rw [hheld] at hd
    split at hd
    · contradiction
    · next hkept =>
      obtain ⟨hflag, henable⟩ := h.held d hd
      rw [Attn.get_congr hsources]
      by_cases hdc : d = c
      · subst hdc
        rw [Attn.get_put_self]
        exact ⟨hflag, by simpa [hd] using hkept⟩
      · rw [Attn.get_put_of_ne _ _ hdc]
        exact ⟨hflag, henable⟩
  · rw [Attn.counter, hcounters]
    exact h.counters k

theorem clearCounters : a.clearCounters.Lawful :=
  ⟨h.held, fun k => by simp [Attn.clearCounters, Attn.counter]⟩

theorem drop : a.drop.Lawful := ⟨h.held, h.counters⟩

theorem holdProvisionally (c : Source) : (a.holdProvisionally c).Lawful := by
  unfold Attn.holdProvisionally
  split
  · exact h
  · exact ⟨h.held, h.counters⟩

/-- A provisional hold becomes firm only where its source is flagged and enabled (R181). -/
theorem firm : a.firm.Lawful := by
  unfold Attn.firm
  split
  · exact h
  · next c _ =>
    split
    · next hstands =>
      refine ⟨fun d hd => ?_, h.counters⟩
      obtain rfl := Option.some.inj hd
      exact (Bool.and_eq_true _ _).mp hstands
    · exact h.drop

end Attn.Lawful

/-- A reset leaves no source held and every counter at 0 (R184). -/
theorem Attn.atReset_lawful (a : Attn) (powerOn : Bool) : (a.atReset powerOn).Lawful :=
  ⟨nofun, fun k => by rw [a.atReset_counter powerOn k]; exact Nat.zero_le _⟩

/-! ### From one state to another -/

/-- The law of attention with the counters', as the part holds them. -/
def AttentionLaws (s : State) : Prop := s.attn.Lawful

theorem attentionLaws_iff (s : State) : AttentionLaws s ↔ AttentionLaw s ∧ CountersLaw s :=
  ⟨fun h => ⟨h.held, h.counters⟩, fun ⟨hheld, hcounters⟩ => ⟨hheld, hcounters⟩⟩

/-- What leads from `s` to `t` keeps the laws. -/
abbrev AttentionKept (s t : State) : Prop := Kept AttentionLaws s t

section
variable {s t : State}

theorem Kept.attention_same (h : t.attn = s.attn) : AttentionKept s t := fun hs => by rwa [AttentionLaws, h]

/-- A change elsewhere, and then what keeps the laws. -/
theorem Kept.attention_from {u : State} (h : AttentionKept u t) (hu : u.attn = s.attn) : AttentionKept s t :=
  (Kept.attention_same hu).trans h

theorem Kept.raised (h : AttentionKept s t) (c : Source) (detail : Nat) : AttentionKept s (raise c detail t) := fun hs =>
  (h hs).raise c detail

theorem Kept.counted (h : AttentionKept s t) (k : Counter) : AttentionKept s (count k t) := fun hs => (h hs).count k

theorem Kept.sideCleared (h : AttentionKept s t) (c : Source) : AttentionKept s (sideClear c t) := fun hs => (h hs).sideClear c

end

theorem offerFrame_attentionKept (x : OrigFrame) (s : State) : AttentionKept s (offerFrame x s) := by
  have hdropped : ∀ n, AttentionKept s (raise .originationDropped n (count .originationDrops s)) := fun n =>
    ((Kept.refl s).counted _).raised _ n
  exact .ite (hdropped 1) (.ite (hdropped 2) (.attention_same rfl))

/-! ### Transport -/

/-- A HOME at CERTAIN slot 0 clears TRAY_JAM; no other record that starts touches the Unit (R61, R62). -/
theorem startMove_attentionKept (m : Move) (s : State) : AttentionKept s (startMove m s) := by
  unfold startMove
  dsimp only
  split
  · exact .attention_same rfl
  · exact .ite (.ite (.refl s) (.attention_same rfl)) (.attention_same rfl)
  · exact .ite (.ite (.ite (.attention_same rfl) ((Kept.refl s).sideCleared _)) (.attention_same rfl)) (.attention_same rfl)

theorem startMovesUpTo_attentionKept (n : Nat) (s : State) : AttentionKept s (startMovesUpTo n s) := by
  induction n generalizing s with
  | zero => exact .refl s
  | succ n ih =>
    unfold startMovesUpTo
    split
    · exact .refl s
    · next m rest _ =>
      have htaken : AttentionKept s { s with tray := ({ s.tray with queue := rest }).newHead } := .attention_same rfl
      exact .ite (htaken.trans ((startMove_attentionKept m _).trans (ih _))) (.refl s)

theorem startMoves_attentionKept (s : State) : AttentionKept s (startMoves s) := startMovesUpTo_attentionKept _ s

/-- A changed Transport, and the records that may then start (R58). -/
theorem startMoves_attentionKept_of_tray (x : Transport) (s : State) : AttentionKept s (startMoves { s with tray := x }) :=
  .attention_from (startMoves_attentionKept _) rfl

theorem offerMove_attentionKept (k : MoveKind) (dark : Bool) (o : Origin) (s : State) : AttentionKept s (offerMove k dark o s) := by
  unfold offerMove
  split
  · exact (Kept.refl s).raised _ _
  · exact startMoves_attentionKept_of_tray _ s

theorem jam_attentionKept (ph : Phase) (s : State) : AttentionKept s (jam ph s) := .raised (.attention_same rfl) _ _

theorem correctSlot_attentionKept (s : State) : AttentionKept s (correctSlot s) :=
  .ite (.ite (.refl s) (.raised (.attention_same rfl) _ _)) (.attention_same rfl)

theorem endHomingPass_attentionKept (c : Cycle) (s : State) : AttentionKept s (endHomingPass c s) := by
  have hclear : AttentionKept s (sideClear .trayJam s) := (Kept.refl s).sideCleared _
  unfold endHomingPass
  dsimp only
  split
  · exact hclear.trans (.attention_same rfl)
  · exact .ite (hclear.trans (.attention_same rfl)) (hclear.trans (.attention_same rfl))

theorem takeHomeMark_attentionKept (c : Cycle) (s : State) : AttentionKept s (takeHomeMark c s) :=
  .ite ((correctSlot_attentionKept s).trans (endHomingPass_attentionKept c _)) (correctSlot_attentionKept s)

theorem enterIndex_attentionKept (s : State) : AttentionKept s (enterIndex s) := by
  have hindex : AttentionKept s (setPhase .index s) := .attention_same rfl
  unfold enterIndex
  dsimp only
  split
  · exact .ite (hindex.trans (takeHomeMark_attentionKept _ _)) hindex
  · exact hindex

theorem takeIndexPulse_attentionKept (c : Cycle) (s : State) : AttentionKept s (takeIndexPulse c s) := by
  have hcount : ∀ x : Transport, AttentionKept s { s with tray := x } := fun x => .attention_same rfl
  exact .ite (.ite ((hcount _).trans (jam_attentionKept _ _)) (hcount _)) (.ite (.attention_same rfl) (hcount _))

theorem settleCode_attentionKept (size : TraySize) (s : State) : AttentionKept s (settleCode size s) := by
  have hlose : ∀ t, AttentionKept t (loseTray t) := fun t => .raised (.attention_same rfl) _ _
  have hfit : ∀ t, AttentionKept t (fitTray size t) := fun t => .raised (.attention_same rfl) _ _
  have hremove : AttentionKept s (removeTray s) := by
    unfold removeTray
    split
    · exact .refl s
    · exact hlose s
    · exact hlose s
    · exact (jam_attentionKept _ s).trans (hlose _)
  have hchange : AttentionKept s (changeTray size s) := .ite (.refl s) (.ite hremove (hremove.trans (hfit _)))
  have hsettled : ∀ t : State, AttentionKept t { t with tray := { t.tray with settling := .settled } } := fun t => .attention_same rfl
  refine Kept.trans ?_ (hsettled _)
  split
  · exact .attention_same (by simp)
  · exact hchange
  · exact hchange

theorem expireDarkWait_attentionKept (s : State) : AttentionKept s (expireDarkWait s) := by
  have hexpire : ∀ (x : Transport) n, AttentionKept s (startMoves (raise .darkWaitTimeout n { s with tray := x })) := fun x n =>
    (Kept.raised (t := { s with tray := x }) (.attention_same rfl) _ n).trans (startMoves_attentionKept _)
  unfold expireDarkWait
  split
  · exact .refl s
  · exact hexpire _ _

theorem indexPulse_attentionKept (s : State) : AttentionKept s (indexPulse s) := by
  unfold indexPulse
  split
  · exact takeIndexPulse_attentionKept _ s
  · exact .refl s

theorem homeMark_attentionKept (s : State) : AttentionKept s (homeMark s) := by
  unfold homeMark
  split
  · exact takeHomeMark_attentionKept _ s
  · exact .refl s

theorem enterIdle_attentionKept (s : State) : AttentionKept s (enterIdle s) := startMoves_attentionKept_of_tray _ s

theorem endClose_attentionKept (camMid : Bool) (s : State) : AttentionKept s (endClose camMid s) := by
  have hlift : AttentionKept s (setPhase .lift s) := .attention_same rfl
  exact .ite (.ite (hlift.trans (enterIndex_attentionKept _)) hlift) (.refl s)

theorem closeCamHome_attentionKept (s : State) : AttentionKept s (closeCamHome s) :=
  .ite (.ite (enterIdle_attentionKept s) (.attention_same rfl)) (.refl s)

theorem expireDrop_attentionKept (s : State) : AttentionKept s (expireDrop s) :=
  .ite (.ite (startMoves_attentionKept_of_tray _ s) (jam_attentionKept _ s)) (.refl s)

theorem endSettle_attentionKept (s : State) : AttentionKept s (endSettle s) := by
  refine .ite ?_ (.refl s)
  split
  · exact (Kept.ite ((Kept.refl s).sideCleared _) (.refl s)).trans (enterIdle_attentionKept _)
  · exact enterIdle_attentionKept s

/-! ### Lamp and fan -/

theorem setLamp_attentionKept (l : Lamp) (s : State) : AttentionKept s (setLamp l s) := by
  have hlamp : AttentionKept s (if l.state = s.lamp.state then { s with lamp := l } else chooseFan { s with lamp := l }) :=
    .ite (.attention_same rfl) (.attention_same rfl)
  exact hlamp.trans (startMoves_attentionKept _)

theorem requestPosition_attentionKept (target ticks : Nat) (o : Origin) (s : State) :
    AttentionKept s (requestPosition target ticks o s) := by
  unfold requestPosition
  refine .ite (.refl s) ?_
  split
  case h_1 => exact .ite (.refl s) (setLamp_attentionKept _ s)
  case h_2 | h_3 => exact setLamp_attentionKept _ s
  case h_4 | h_5 => exact .refl s

theorem requestLamp_attentionKept (level tenths : Nat) (o : Origin) (s : State) : AttentionKept s (requestLamp level tenths o s) :=
  requestPosition_attentionKept _ _ o s

theorem requestLampOff_attentionKept (s : State) : AttentionKept s (requestLampOff s) := by
  unfold requestLampOff
  split
  case h_1 | h_2 => exact .refl s
  all_goals exact setLamp_attentionKept _ s

theorem requestDark_attentionKept (s : State) : AttentionKept s (requestDark s) := by
  unfold requestDark
  dsimp only
  split
  case h_4 | h_5 => exact .refl s
  all_goals exact requestPosition_attentionKept _ _ _ s

theorem failLamp_attentionKept (drive : Nat) (l : Lamp) (s : State) : AttentionKept s (failLamp drive l s) :=
  (setLamp_attentionKept _ s).raised _ _

/-- A change of the trip set, its cause noted first (R114). -/
theorem tripsChanged_attentionKept (c : Cooling) (s : State) : AttentionKept s (tripsChanged { s with cool := c }) :=
  .attention_from (startMoves_attentionKept _) rfl

theorem testThermal_attentionKept (s : State) : AttentionKept s (testThermal s) :=
  .ite (.ite (tripsChanged_attentionKept _ s) (.refl s)) (.ite ((tripsChanged_attentionKept _ s).raised _ _) (.refl s))

theorem updateCeiling_attentionKept (s : State) : AttentionKept s (updateCeiling s) :=
  .ite (.ite (.raised (.attention_same rfl) _ _) (.attention_same rfl)) (.ite (.attention_same rfl) (.attention_same rfl))

theorem coolingTick_attentionKept (energy : Nat) (s : State) : AttentionKept s (coolingTick energy s) := by
  have hheat : ∀ c : Cooling, AttentionKept s (testThermal { s with cool := c }) := fun c =>
    .attention_from (testThermal_attentionKept _) rfl
  have hstages : ∀ t, AttentionKept t (updateStages t) := fun t => .attention_same (by simp)
  have hcool : ∀ t, AttentionKept t (updateCool t) := fun t => .attention_same rfl
  exact (hheat _).trans ((hstages _).trans ((updateCeiling_attentionKept _).trans (hcool _)))

theorem handOver_attentionKept (s : State) : AttentionKept s (handOver s) :=
  .ite (.attention_from (coolingTick_attentionKept _ _) rfl) (.refl s)

theorem lampTickIn_attentionKept (first current : Bool) (s : State) : AttentionKept s (lampTickIn first current s) := by
  have honly : AttentionKept s (lampTickOnly current s) := .ite (failLamp_attentionKept _ _ s) (setLamp_attentionKept _ s)
  have hhand : AttentionKept s (handOver (setLamp (tickedLamp current s) s)) :=
    (setLamp_attentionKept _ s).trans (handOver_attentionKept _)
  exact .ite (.ite (hhand.trans (failLamp_attentionKept _ _ _)) hhand) (honly.trans (handOver_attentionKept _))

theorem lampTick_attentionKept (current : Bool) (s : State) : AttentionKept s (lampTick current s) :=
  .ite (.attention_from (lampTickIn_attentionKept _ current _) rfl) (lampTickIn_attentionKept false current s)

theorem endTachGate_attentionKept (s : State) : AttentionKept s (endTachGate s) := by
  have hread : AttentionKept s { s with cool := { s.cool with lastTach := s.cool.gateCount } } := .attention_same rfl
  have hstall : ∀ n t, AttentionKept t (stallTest n t) := fun n t =>
    .ite (.ite (.refl t) (tripsChanged_attentionKept _ t)) (.ite ((tripsChanged_attentionKept _ t).raised _ _) (.refl t))
  have htested : AttentionKept s (if gateTested s.cool = true then
      stallTest s.cool.gateCount { s with cool := { s.cool with lastTach := s.cool.gateCount } }
      else { s with cool := { s.cool with lastTach := s.cool.gateCount } }) := .ite (hread.trans (hstall _ _)) hread
  exact htested.trans (.attention_same rfl)

theorem takeCutout_attentionKept (opened : Bool) (s : State) : AttentionKept s (takeCutout opened s) := by
  have htrips := tripsChanged_attentionKept { s.cool with cutout := opened } s
  exact .ite (.refl s) (.ite (htrips.raised _ _) htrips)

/-! ### Deck -/

/-- A deck command that sets the tape going clears TAPE_END by side effect (R131, R126). -/
theorem tapeCommand_attentionKept (m : TapeMode) (s : State) : AttentionKept s (tapeCommand m s) := by
  have hdeck : ∀ {t : State}, t.attn = s.attn → AttentionKept s (sideClear .tapeEnd t) := fun h => .sideCleared (.attention_same h) _
  refine .ite ((Kept.refl s).counted _) ?_
  cases m with
  | stop | pause | zeroCounter => exact .attention_same (by simp)
  | play =>
    show AttentionKept s (tapePlay s)
    unfold tapePlay
    split
    case h_1 | h_2 => exact .refl s
    all_goals exact hdeck (by simp)
  | rewind =>
    show AttentionKept s (tapeRewind s)
    unfold tapeRewind
    split
    case h_1 => exact .refl s
    all_goals exact hdeck (by simp)
  | windFwd =>
    show AttentionKept s (tapeWindFwd s)
    unfold tapeWindFwd
    split
    case h_1 | h_2 => exact .refl s
    all_goals exact hdeck (by simp)
  | rewToZero =>
    refine .ite (.attention_same (by simp)) ?_
    split
    case h_1 => exact .refl s
    all_goals exact hdeck (by simp)

theorem expireReel_attentionKept (s : State) : AttentionKept s (expireReel s) :=
  .ite (.raised (.attention_same (by simp)) _ _) (.refl s)

end Sys2Proof.Machine

-- ==== Sys2Proof/Proofs/AttentionSteps.lean ====
/-! PROOF. The law of attention with the counters' from state to state: through steps and cues, station states and resets, the tape's
samples and the pendant, and through the bytes of a frame, up to every command and every step. -/

namespace Sys2Proof.Machine

open Sys2Proof (Byte Key KeySamples Frame Instr Straps Readings)

/-! ### Steps and cues -/

theorem routeStep_attentionKept (st : Step) (o : Origin) (s : State) : AttentionKept s (routeStep st o s) := by
  have hdemand : ∀ d, AttentionKept s (setDemand d s) := fun d => .attention_same rfl
  unfold routeStep
  split
  case h_1 | h_11 => exact .refl s
  case h_2 | h_3 => exact .ite (.refl s) (offerMove_attentionKept _ _ o s)
  case h_4 | h_5 => exact offerMove_attentionKept _ _ o s
  case h_6 => exact .ite (hdemand _) (.ite (hdemand _) (.refl s))
  case h_7 => exact requestLamp_attentionKept _ _ o s
  case h_8 => exact requestLampOff_attentionKept s
  case h_9 => exact .attention_same rfl
  case h_10 =>
    split
    · exact tapeCommand_attentionKept _ s
    · exact .refl s

theorem schedule_attentionKept (r : Record) (s : State) : AttentionKept s (schedule r s) :=
  .ite ((Kept.refl s).raised _ _) (.attention_same rfl)

theorem recordCue_attentionKept (cue : Nat) (src : CueSource) (s : State) : AttentionKept s (recordCue cue src s) :=
  .attention_same rfl

theorem expandStep_attentionKept (cue : Nat) (s : State) (p : PoolStep) : AttentionKept s (expandStep cue s p) := by
  unfold expandStep
  split
  · exact .refl s
  · exact .ite (routeStep_attentionKept _ .ofShow s) (schedule_attentionKept _ s)

theorem loadedCue_attentionKept (cue : Nat) (src : CueSource) (s : State) : AttentionKept s (loadedCue cue src s) :=
  .ite ((Kept.refl s).counted _) ((recordCue_attentionKept cue src s).trans (.foldl (expandStep_attentionKept cue) _ _))

theorem commitCue_attentionKept (src : CueSource) (s : State) : AttentionKept s (commitCue src s) :=
  .ite ((Kept.refl s).counted _) (.attention_same rfl)

theorem stepCue_attentionKept (cue : Nat) (v : Verb) (src : CueSource) (s : State) : AttentionKept s (stepCue cue v src s) :=
  (recordCue_attentionKept cue src s).trans (.ite (routeStep_attentionKept _ .ofShow _) (schedule_attentionKept _ _))

theorem endOfShow_attentionKept (s : State) : AttentionKept s (endOfShow s) := by
  have hempty : AttentionKept s (emptySchedule s) := .attention_same rfl
  exact hempty.trans ((routeStep_attentionKept _ .ofShow _).trans (routeStep_attentionKept _ .ofShow _))

theorem holdEvent_attentionKept (s : State) : AttentionKept s (holdEvent s) := .attention_same (by simp)

/-- A cue arrival keeps the laws if what a RESUME does keeps them (R36 to R40). -/
theorem cueArrivalWith_attentionKept {resume : State → State} (hresume : ∀ s, AttentionKept s (resume s)) (cue : Nat)
    (src : CueSource) (s : State) : AttentionKept s (cueArrivalWith resume cue src s) := by
  have hrecord := recordCue_attentionKept cue src s
  have hcount : ∀ k, AttentionKept s (count k s) := fun k => (Kept.refl s).counted k
  exact .ite (hcount _) <| .ite (hcount _) <| .ite (loadedCue_attentionKept cue src s) <|
    .ite (hrecord.trans (holdEvent_attentionKept _)) <| .ite (hrecord.trans (hresume _)) <| .ite (commitCue_attentionKept src s) <|
    .ite (hrecord.trans (endOfShow_attentionKept _)) <| .ite (hrecord.trans (routeStep_attentionKept _ .ofShow _)) <|
    .ite (stepCue_attentionKept cue .advance src s) <| .ite (stepCue_attentionKept cue .reverse src s) (hcount _)

theorem routeDueUpTo_attentionKept (n : Nat) (s : State) : AttentionKept s (routeDueUpTo n s) := by
  induction n generalizing s with
  | zero => exact .refl s
  | succ n ih =>
    have hrecord : ∀ r t, AttentionKept t (routeRecord r t) := fun r t =>
      .ite (cueArrivalWith_attentionKept .refl r.a .follow t) (routeStep_attentionKept _ .ofShow t)
    unfold routeDueUpTo
    split
    · exact .refl s
    · next r rest _ =>
      have htail : AttentionKept s { s with disp := { s.disp with schedule := rest } } := .attention_same rfl
      exact .ite (htail.trans ((hrecord r _).trans (ih _))) (.refl s)

theorem resumeEvent_attentionKept (s : State) : AttentionKept s (resumeEvent s) := by
  have hshow : AttentionKept s (resumeShow s) := .attention_same (by simp)
  exact .ite (hshow.trans (routeDueUpTo_attentionKept _ _)) (.refl s)

theorem cueArrival_attentionKept (cue : Nat) (src : CueSource) (s : State) : AttentionKept s (cueArrival cue src s) :=
  cueArrivalWith_attentionKept resumeEvent_attentionKept cue src s

theorem showTick_attentionKept (s : State) : AttentionKept s (showTick s) := by
  have htick : AttentionKept s (tickRecords s) := .attention_same rfl
  exact .ite (htick.trans (routeDueUpTo_attentionKept _ _)) (.refl s)

theorem directStep_attentionKept (verb a b : Byte) (s : State) : AttentionKept s (directStep verb a b s) := by
  unfold directStep
  split
  · exact .refl s
  · exact .ite (cueArrival_attentionKept _ .follow s) (routeStep_attentionKept _ .direct s)

/-! ### Station states and resets -/

theorem Kept.attention_tested {s t : State} (h : AttentionKept s t) : AttentionKept s (standbyTest t) :=
  h.trans (.attention_same (by simp))

theorem tellLampAndTray_attentionKept (l : Lamp → Lamp) (f : Transport → Transport) (s : State) :
    AttentionKept s (tellLampAndTray l f s) := by
  have hopen : AttentionKept s { s with openValues := s.openValues + 1 } := .attention_same rfl
  have htray : ∀ (t : State) x, AttentionKept t { t with tray := x } := fun t _ => .attention_same rfl
  exact .ite (hopen.trans ((setLamp_attentionKept _ _).trans (htray _ _))) (hopen.trans ((htray _ _).trans (setLamp_attentionKept _ _)))

theorem takeStandby_attentionKept (s : State) : AttentionKept s (takeStandby s) := by
  have hclosed : AttentionKept s (if s.stn.state = .configuring then lockConfiguration s else s) :=
    .ite (.attention_same rfl) (.refl s)
  have hbefore : ∀ t : State, AttentionKept t (stopSilence { t with
      stn := { t.stn with state := .coolingDown, showState := .none, window := .off }, cool := fanBeforeCoolingDown t }) :=
    fun t => .attention_same rfl
  have hafter : ∀ t, AttentionKept t (emptySchedule (cancelSound (tapeStop (chooseFan t)))) := fun t => .attention_same (by simp)
  have hcooling : ∀ t, AttentionKept t (enterCoolingDown t) := fun t =>
    (hbefore t).trans ((tellLampAndTray_attentionKept _ _ _).trans (hafter _))
  exact (hclosed.trans (hcooling _)).attention_tested

theorem mainsWarnOn_attentionKept (s : State) : AttentionKept s (mainsWarnOn s) := by
  have hwarn : AttentionKept s { s with stn := { s.stn with mainsWarn := true } } := .attention_same rfl
  have hbefore : ∀ t : State, AttentionKept t
      (stopSilence { t with stn := { t.stn with state := .mainsLoss, showState := .none, window := .off } }) :=
    fun t => .attention_same rfl
  have hfan : ∀ (c : Prop) [Decidable c] t, AttentionKept t (if c then chooseFan t else t) := fun c _ t =>
    .ite (.attention_same rfl) (.refl t)
  have hafter : ∀ t : State, AttentionKept t (beginWrite { emptySchedule (deckMainsLoss t) with remote := t.remote.mainsLoss }) :=
    fun t => .attention_same (by simp)
  have henter : ∀ t, AttentionKept t (enterMainsLoss t) := fun t =>
    (hbefore t).trans ((tellLampAndTray_attentionKept _ _ _).trans ((hfan _ _).trans (hafter _)))
  exact .ite hwarn (hwarn.trans (henter _))

/-- A reset leaves the laws met, whatever it finds (R184). -/
theorem resetWith_attentionLaws (kind : ResetKind) (x : Station) (r : Readings) (s : State) : AttentionLaws (resetWith kind x r s) := by
  have hblocks : AttentionLaws (resetBlocks kind x r s) := s.attn.atReset_lawful (kind == .powerOn)
  have hrestarted : ∀ d t, AttentionKept t (raise .restarted d t) := fun d t => (Kept.refl t).raised _ d
  have htrips : ∀ t, AttentionKept t (raiseActiveTrips t) := fun t => by
    have hthermal : AttentionKept t (if t.cool.thermal then raise .thermalTrip t.cool.heat t else t) :=
      .ite ((Kept.refl t).raised _ _) (.refl t)
    exact .ite (hthermal.raised _ _) hthermal
  have hfan : ∀ t, AttentionKept t (fanAtReset kind s.cool.cutout t) := fun t => .ite (.attention_same rfl) (.refl t)
  have hwarn : ∀ t, AttentionKept t (readMainsWarn r.mainsWarn t) := fun t => .ite (mainsWarnOn_attentionKept t) (.refl t)
  exact (hrestarted _ _).trans ((htrips _).trans ((hfan _).trans (hwarn _))) hblocks

theorem resetWith_attentionKept (kind : ResetKind) (x : Station) (r : Readings) (s : State) :
    AttentionKept s (resetWith kind x r s) := fun _ => resetWith_attentionLaws kind x r s

/-! ### Commands -/

theorem runCommand_attentionKept (c : Cmd) (args : List Byte) (s : State) : AttentionKept s (runCommand c args s).1 := by
  by_cases hcount : args.length = c.argCount
  case neg =>
    rw [runCommand_wrongCount hcount]
    exact .refl s
  cases c <;> dsimp only [Cmd.argCount] at hcount
  case step =>
    obtain ⟨v, a, b, rfl⟩ := List.length_eq_three.mp hcount
    dsimp only [runCommand]
    split
    · exact .refl s
    · exact directStep_attentionKept v a b s
  case configSet =>
    obtain ⟨item, hi, lo, rfl⟩ := List.length_eq_three.mp hcount
    have hsame : (configSetItem item.toNat (word16 hi lo) s).1.attn = s.attn := by simp
    exact .attention_same hsame
  case attnSet =>
    obtain ⟨code, enable, level, rfl⟩ := List.length_eq_three.mp hcount
    dsimp only [runCommand]
    split
    · split
      · exact fun h => h.setting _ _ _
      · exact .refl s
    · exact .refl s
  case ack =>
    obtain ⟨code, rfl⟩ := List.length_eq_one_iff.mp hcount
    dsimp only [runCommand]
    split
    · exact fun h => h.ack _
    · exact .refl s
  all_goals obtain rfl := List.length_eq_zero_iff.mp hcount
  case hold => exact holdEvent_attentionKept s
  case resume => exact resumeEvent_attentionKept s
  case commit =>
    rw [runCommand_commit]
    split
    · exact .refl s
    · exact .attention_same rfl
  case configClose =>
    have hsame : (closeConfiguration s).attn = s.attn := by simp
    exact .attention_same hsame
  case standby => exact takeStandby_attentionKept s
  case wake =>
    have hsame : (takeWake s).attn = s.attn := by simp
    exact .attention_same hsame
  case clearCounters => exact fun h => h.clearCounters
  case reset => exact .refl s

theorem noticeConfig_attentionKept (s : State) : AttentionKept s (noticeConfig s) := .attention_same (by simp)

theorem judgeCommand_attentionKept (payload : List Byte) (s : State) : AttentionKept s (judgeCommand payload s).1 := by
  unfold judgeCommand
  split
  · exact .refl s
  · split
    · exact .refl s
    · next c _ =>
      have hnotice : AttentionKept s (if c.configClass then noticeConfig s else s) := .ite (noticeConfig_attentionKept s) (.refl s)
      dsimp only
      generalize (if c.configClass then noticeConfig s else s) = u at hnotice ⊢
      split
      · exact hnotice.trans (runCommand_attentionKept c _ u)
      · exact hnotice

/-! ### The tape's cues and the pendant -/

theorem handOn_attentionKept (cue : Nat) (s : State) : AttentionKept s (handOn cue s) := by
  have hcue := cueArrival_attentionKept cue .tape s
  exact .ite (hcue.trans (offerFrame_attentionKept _ _)) hcue

/-- A change of the decoder alone, and then a cue handed on. -/
theorem handOn_attentionKept_of_decoder (cue : Nat) (d : Decoder) (s : State) : AttentionKept s (handOn cue { s with dec := d }) :=
  .attention_from (handOn_attentionKept cue _) rfl

theorem readSample_attentionKept (q : Nat) (v : Bool) (s : State) : AttentionKept s (readSample q v s) := by
  have hmeet : ∀ w t, AttentionKept t (meetCandidate w t) := fun w t => by
    unfold meetCandidate
    split
    · exact .attention_same rfl
    · exact .ite (handOn_attentionKept_of_decoder _ _ t) (.counted (.attention_same rfl) _)
  have hset : ∀ st t, AttentionKept t (setDecoder st t) := fun st t => .attention_same rfl
  have hgood : ∀ w t, AttentionKept t (goodWord w t) := fun w t => .ite (hset _ t) ((hset .hunting t).trans (hmeet w _))
  have hfail : ∀ kind t, AttentionKept t (wordFail kind t) := fun kind t => ((hset .hunting t).counted _).raised _ _
  have hparity : AttentionKept s { s with dec := { s.dec with state := .reading q, parity := v } } := .attention_same rfl
  exact .ite (.ite hparity (hparity.trans (hfail 1 _))) <|
    .ite (.ite ((hset _ s).trans (hgood _ _)) ((hset _ s).trans (hfail 2 _))) (.ite (.attention_same rfl) (hset _ s))

theorem readWordUpTo_attentionKept (data : Byte) (parity stop : Bool) (n : Nat) (s : State) :
    AttentionKept s (readWordUpTo data parity stop n s) := by
  induction n generalizing s with
  | zero => exact .refl s
  | succ n ih =>
    unfold readWordUpTo
    split
    · exact (readSample_attentionKept _ _ s).trans (ih _)
    · exact .refl s

theorem pulseSample_attentionKept (mark : Bool) (s : State) : AttentionKept s (pulseSample mark s) := by
  have hend : AttentionKept s (endBurst s) := .ite (handOn_attentionKept_of_decoder 248 _ s) (.attention_same rfl)
  have hlengthen : AttentionKept s (lengthenBurst s) := .ite (handOn_attentionKept_of_decoder 249 _ s) (.attention_same rfl)
  have hcount : AttentionKept s (countNonMark s) := .attention_same rfl
  unfold pulseSample
  split
  case h_1 => exact .ite (.attention_same rfl) (.refl s)
  case h_2 => exact .ite hlengthen (.ite hcount hend)
  case h_3 => exact .ite (.attention_same rfl) (.ite hcount (.attention_same rfl))
  all_goals exact .refl s

theorem takeSample_attentionKept (age : Nat) (s : State) : AttentionKept s (takeSample age s) := by
  have hset : ∀ st, AttentionKept s (setDecoder st s) := fun st => .attention_same rfl
  have hword : ∀ v, AttentionKept s (wordSample v s) := fun v => by
    unfold wordSample
    split
    case h_1 => exact .ite (.refl s) (hset _)
    case h_2 => exact .ite (hset _) (.ite (hset _) (.attention_same rfl))
    case h_3 => exact readSample_attentionKept _ v s
    all_goals exact .refl s
  unfold takeSample
  split
  case h_1 => exact .refl s
  case h_2 | h_3 | h_4 => exact hword _
  all_goals exact pulseSample_attentionKept _ s

theorem expireCandidate_attentionKept (s : State) : AttentionKept s (expireCandidate s) := by
  unfold expireCandidate
  split
  · exact .counted (.attention_same rfl) _
  · exact .refl s

theorem recognizePress_attentionKept (k : Key) (s : State) : AttentionKept s (recognizePress k s) := by
  have hrelay : ∀ t, AttentionKept t (relayKey k t) := fun t => .ite (offerFrame_attentionKept _ t) (.refl t)
  have htoggle : ∀ t, AttentionKept t (holdToggle t) := fun t => .ite (resumeEvent_attentionKept t) (holdEvent_attentionKept t)
  have hkey : ∀ t, AttentionKept t (keyAction k t) := fun t => by
    cases k with
    | fwd | rev => exact .ite (offerMove_attentionKept _ false .direct t) (hrelay t)
    | hold => exact .ite (.refl t) (.ite (htoggle t) (hrelay t))
    | dark => exact .ite (requestDark_attentionKept t) (hrelay t)
    | focusIn | focusOut => exact .refl t
  have hact : ∀ t, AttentionKept t (actOnPress k t) := fun t => by
    unfold actOnPress
    split
    case h_1 | h_2 => exact hkey t
    case h_3 | h_4 => exact .attention_same (by simp)
    case h_5 => exact .attention_same rfl
  have hpress : AttentionKept s (pressKey k s) := .attention_same rfl
  have hfocus : ∀ t, AttentionKept t (chooseFocus t) := fun t => .attention_same rfl
  exact (Kept.ite hpress (hpress.trans (hact _))).trans (hfocus _)

theorem takeScan_attentionKept (x : KeySamples) (order : List Key) (s : State) : AttentionKept s (takeScan x order s) := by
  have hsamples : AttentionKept s { s with remote := s.remote.sampleAll x } := .attention_same rfl
  have hkey : ∀ t k, AttentionKept t (recognizeKey t k) := fun t k =>
    .ite (.ite (.attention_same rfl) (recognizePress_attentionKept k t)) (.refl t)
  exact hsamples.trans (.foldl hkey (order ++ allKeys) _)

theorem expireSilence_attentionKept (s : State) : AttentionKept s (expireSilence s) := by
  have hexpire : ∀ n (x : LoopPort), AttentionKept s (raise .loopSilent n { s with loop := x }) := fun n x =>
    Kept.raised (t := { s with loop := x }) (.attention_same rfl) _ n
  unfold expireSilence
  refine .ite ?_ (.refl s)
  dsimp only
  split
  · exact hexpire _ _
  · exact (hexpire _ _).trans (holdEvent_attentionKept _)
  · exact (hexpire _ _).trans (requestLamp_attentionKept _ _ _ _)
  · exact (hexpire _ _).trans ((holdEvent_attentionKept _).trans (requestLamp_attentionKept _ _ _ _))

/-! ### The bytes of a frame -/

/-- A byte that finds the delay buffer full is counted (R18). -/
theorem emit_attentionKept (b : Byte) (first : Bool) (s : State) : AttentionKept s (emit b first s) :=
  .ite (.refl s) (.ite (.attention_same rfl) (.ite (.attention_same rfl) (.counted (.attention_same rfl) _)))

theorem passOn_attentionKept (p : Passage) (b x : Byte) (s : State) : AttentionKept s (passOn p b x s) := by
  have hrx : AttentionKept s (setRx (.frame (p.push b x)) s) := .attention_same rfl
  exact .ite hrx (hrx.trans (emit_attentionKept _ _ _))

/-- A rewrite undone drops the provisional hold (R181). -/
theorem undoProvisional_attentionKept (s : State) : AttentionKept s (undoProvisional s) := fun h => h.drop

theorem endFrame_attentionKept (p : Passage) (s : State) : AttentionKept s (endFrame p s) := .attention_same (by simp)

theorem failFrame_attentionKept (p : Passage) (r : Rx) (s : State) : AttentionKept s (failFrame p r s) := by
  have hundone : AttentionKept s (undoProvisional (count .framingFail s)) :=
    ((Kept.refl s).counted _).trans (undoProvisional_attentionKept _)
  have hrx : ∀ t, AttentionKept t (setRx r t) := fun t => .attention_same rfl
  have hreset : ∀ t, AttentionKept t (scheduleReset p t) := fun t => .attention_same (by simp)
  exact hundone.trans ((hrx _).trans (hreset _))

theorem payloadByte_attentionKept (p : Passage) (b : Byte) (s : State) : AttentionKept s (payloadByte p b s) := by
  have hpass : ∀ q x t, AttentionKept t (passOn q b x t) := fun q x t => passOn_attentionKept q b x t
  have hpoll : AttentionKept s (pollByte p b s) := by
    unfold pollByte
    split
    · exact hpass _ _ _
    · next c _ =>
      have hheld : AttentionKept s { s with attn := s.attn.holdProvisionally c } := fun h => h.holdProvisionally c
      exact hheld.trans (hpass _ _ _)
  have hquery : AttentionKept s (queryByte p b s) := by
    have hanswer : ∀ fields area, AttentionKept s (answerQuery fields area s).2 := fun fields area => .attention_same (by simp)
    exact .ite ((hanswer _ _).trans (hpass _ _ _)) (hpass _ _ _)
  have hassign : AttentionKept s (assignByte p b s) := .ite (.attention_from (hpass _ _ _) rfl) (hpass _ _ _)
  unfold payloadByte
  split
  · exact hpass _ _ _
  · split
    case h_1 => exact .ite hpoll (hpass _ _ _)
    case h_2 => exact hquery
    case h_3 => exact .ite hassign (hpass _ _ _)
    all_goals exact hpass _ _ _

/-- A good POLL makes the provisional hold firm; a cue, a COMMAND, a LOAD and an ASSIGN do what they do (R7, R181). -/
theorem actOn_attentionKept (k : FrameKind) (p : Passage) (s : State) : AttentionKept s (actOn k p s).1 := by
  cases k with
  | cue =>
    show AttentionKept s (takeCue p.payload s)
    unfold takeCue
    split
    · exact .ite (cueArrival_attentionKept _ _ s) (.refl s)
    · exact .refl s
  | poll => exact fun h => h.firm
  | query | remote => exact .refl s
  | assign =>
    refine .ite ?_ (.refl s)
    rw [takeAssign_eq]
    exact .attention_same (by simp)
  | command =>
    simp only [actOn]
    split
    · exact judgeCommand_attentionKept p.payload s
    · exact .refl s
  | load =>
    simp only [actOn]
    split
    · exact .attention_same (by simp)
    · exact .refl s

theorem checkByte_attentionKept (p : Passage) (b : Byte) (s : State) : AttentionKept s (checkByte p b s) := by
  have hsilence : ∀ t, AttentionKept t (restartSilence t) := fun t => .attention_same (by simp)
  have hgood : ∀ k, AttentionKept s (goodFrame k p s).1 := fun k => by
    have hposition : AttentionKept s (restartSilence (takePosition p s)) := .attention_same (by simp)
    unfold goodFrame
    dsimp only
    split
    · exact hposition.trans (actOn_attentionKept k p _)
    · exact hposition.counted _
  have hafter : ∀ k q t, AttentionKept t (afterCheck k q b t) := fun k q t => .attention_same (by simp)
  have hbad : AttentionKept s (undoProvisional (count .checkFail s)) :=
    ((Kept.refl s).counted _).trans (undoProvisional_attentionKept _)
  have hknown : ∀ k, AttentionKept s (knownCheck k p b s) := fun k =>
    .ite ((hgood k).trans ((emit_attentionKept _ _ _).trans (hafter _ _ _))) (hbad.trans ((emit_attentionKept _ _ _).trans (hafter _ _ _)))
  have hemit := emit_attentionKept b false s
  have hcounted : AttentionKept s (count .unknownKind (if b = p.rxCheck then restartSilence (emit b false s) else emit b false s)) :=
    (Kept.ite (hemit.trans (hsilence _)) hemit).counted _
  unfold checkByte
  split
  · exact hcounted.trans (endFrame_attentionKept _ _)
  · exact .ite ((Kept.ite (hsilence s) (.refl s)).trans (endFrame_attentionKept _ _)) (hknown _)

theorem trailerByte_attentionKept (p : Passage) (second : Bool) (b : Byte) (s : State) :
    AttentionKept s (trailerByte p second b s) := by
  have hrx : ∀ r t, AttentionKept t (setRx r t) := fun r t => .attention_same rfl
  have hemit := fun x => emit_attentionKept x false s
  exact .ite ((hemit _).trans (endFrame_attentionKept _ _)) ((hemit _).trans (hrx _ _))

theorem frameByte_attentionKept (p : Passage) (b : Byte) (s : State) : AttentionKept s (frameByte p b s) := by
  have hpass : ∀ q x, AttentionKept s (passOn q b x s) := fun q x => passOn_attentionKept q b x s
  unfold frameByte
  split
  case h_1 | h_2 | h_3 => exact hpass _ _
  case h_4 => exact .ite (hpass _ _) (hpass _ _)
  case h_5 => exact .ite ((hpass _ _).trans (failFrame_attentionKept _ _ _)) (hpass _ _)
  case h_6 =>
    exact .ite (payloadByte_attentionKept p b s) (.ite (checkByte_attentionKept p b s) (trailerByte_attentionKept p _ b s))

theorem rxByte_attentionKept (b : Byte) (s : State) : AttentionKept s (rxByte b s) := by
  have hpass : AttentionKept s (passByte s) := .attention_same rfl
  have hnote : ∀ t, AttentionKept t (noteByte t) := fun t => .attention_same rfl
  have hbegin : ∀ t, AttentionKept t (beginFrame t) := fun t => .attention_from (emit_attentionKept _ _ _) rfl
  refine hpass.trans (Kept.trans ?_ (hnote _))
  split
  · exact .ite (hbegin _) (.attention_same rfl)
  · exact .refl _
  · exact frameByte_attentionKept _ b _

theorem rxBytes_attentionKept (bs : List Byte) (s : State) : AttentionKept s (rxBytes bs s) :=
  .foldl (fun s b => rxByte_attentionKept b s) bs s

/-! ### Idle time and whole frames -/

/-- A frame or a run of stray bytes that idle time ends is counted (R2, R9). -/
theorem endByIdle_attentionKept (s : State) : AttentionKept s (endByIdle s) := by
  have hrun : ∀ counts : Bool, AttentionKept s (if counts then count .framingFail s else s) := fun counts =>
    .ite ((Kept.refl s).counted _) (.refl s)
  unfold endByIdle
  split
  · exact .refl s
  · exact .ite ((hrun _).trans (.attention_same rfl)) (.refl s)
  · exact .ite (failFrame_attentionKept _ _ s) (.refl s)

theorem byteTick_attentionKept (s : State) : AttentionKept s (byteTick s) := .attention_same (by simp)

theorem idleFor_attentionKept (n : Nat) (s : State) : AttentionKept s (idleFor n s) := by
  have htick : ∀ t, AttentionKept t (idleTick t) := fun t =>
    .ite (.attention_same rfl) (.ite (.attention_from (endByIdle_attentionKept _) rfl) (byteTick_attentionKept t))
  induction n generalizing s with
  | zero => exact .refl s
  | succ n ih => exact (htick s).trans (ih _)

theorem lineReady_attentionKept (s : State) : AttentionKept s (lineReady s) := .attention_same rfl

theorem frameArrives_attentionKept (f : Frame) (bytes : List Byte) (s : State) : AttentionKept s (frameArrives f bytes s) := by
  have hafter : ∀ t, AttentionKept t (byteFor f.bits t) := fun t => .attention_same (by simp)
  exact (lineReady_attentionKept s).trans ((idleFor_attentionKept _ _).trans ((rxBytes_attentionKept _ _).trans (hafter _)))

theorem strayRun_attentionKept (gap : Nat) (bytes : List Byte) (s : State) : AttentionKept s (strayRun gap bytes s) :=
  (lineReady_attentionKept s).trans ((idleFor_attentionKept _ _).trans ((rxBytes_attentionKept _ _).trans (idleFor_attentionKept _ _)))

theorem takeBrokenByte_attentionKept (held : Nat) (s : State) : AttentionKept s (takeBrokenByte held s) := by
  have hpass : AttentionKept s (passByte s) := .attention_same rfl
  have hafter : ∀ t : State, AttentionKept t { noteByte t with loop := { (noteByte t).loop with space := held } } := fun t =>
    .attention_same rfl
  refine hpass.trans (Kept.trans ?_ (hafter _))
  split
  · exact .attention_same rfl
  · exact .refl _
  · exact failFrame_attentionKept _ _ _

/-! ### A step -/

/-- Every command is a change of the state that keeps the laws. -/
theorem exec_attentionKept (i : Instr) (s : State) : ∃ t, exec i s = .next t ∧ AttentionKept s t := by
  have hframe : ∀ f bytes, AttentionKept s (whenRunning (frameArrives f bytes) s) := fun f bytes =>
    (frameArrives_attentionKept f bytes s).whenRunning
  have hpulse : ∀ (c : Prop) [Decidable c] (m : Bool), AttentionKept s (if c then pulseSample m s else s) := fun c _ m =>
    .ite (pulseSample_attentionKept m s) (.refl s)
  have hidle : ∀ n, AttentionKept s (idleFor n (clearSent s)) := fun n =>
    .attention_from (idleFor_attentionKept n _) rfl
  have hready : ∀ n, AttentionKept s (idleFor n (lineReady s)) := fun n =>
    (lineReady_attentionKept s).trans (idleFor_attentionKept n _)
  cases i
  case cueFrame | poll | query | load | remoteFrame | assign | unknownKind | lengthAbove32 | unknownCommandCode | step | hold | resume |
      commit | configSet | configClose | standby | wake | ack | attnSet | clearCounters | reset =>
    exact ⟨_, rfl, hframe _ _⟩
  case strayByteRun gap bytes => exact ⟨_, rfl, (strayRun_attentionKept gap bytes s).whenRunning⟩
  case brokenByte =>
    have hbroken : ∀ n, AttentionKept s (takeBrokenByte n { lineReady s with openValues := s.openValues + 1 }) := fun n =>
      .attention_from (takeBrokenByte_attentionKept n _) rfl
    exact ⟨_, rfl, .whenRunning (hbroken _)⟩
  case frameEndedEarly => exact ⟨_, rfl, (hready _).whenRunning⟩
  case originatedFrameStart idle =>
    have hstart : ∀ t, AttentionKept t (startOriginated t) := fun t => .attention_same (by simp)
    exact ⟨_, rfl, .whenRunning ((hidle idle).trans (hstart _))⟩
  case delayBufferSend idle => exact ⟨_, rfl, (hidle idle).whenRunning⟩
  case loopSilenceExpiry => exact ⟨_, rfl, (expireSilence_attentionKept s).whenRunning⟩
  case powerOn st r => exact ⟨_, rfl, resetWith_attentionKept _ _ r s⟩
  case pinReset st r => exact ⟨_, rfl, .ite (.refl s) (resetWith_attentionKept _ _ r s)⟩
  case loopReset r => exact ⟨_, rfl, (Kept.ite (resetWith_attentionKept _ _ r s) (.refl s)).whenRunning⟩
  case brownoutRestart st r => exact ⟨_, rfl, (Kept.ite (resetWith_attentionKept _ _ r s) (.refl s)).whenRunning⟩
  case mainsWarnAssert => exact ⟨_, rfl, (mainsWarnOn_attentionKept s).whenRunning⟩
  case showTick => exact ⟨_, rfl, (showTick_attentionKept s).whenRunning⟩
  case scheduledRecordDue => exact ⟨_, rfl, (routeDueUpTo_attentionKept _ s).whenRunning⟩
  case trayCodeChange code => exact ⟨_, rfl, (settleCode_attentionKept _ s).attention_tested.whenRunning⟩
  case moveStart => exact ⟨_, rfl, (startMoves_attentionKept s).whenRunning⟩
  case darkWaitTimeout => exact ⟨_, rfl, (Kept.ite (expireDarkWait_attentionKept s) (.refl s)).whenRunning⟩
  case closePhaseEnd b => exact ⟨_, rfl, (endClose_attentionKept b s).whenRunning⟩
  case camMid => exact ⟨_, rfl, (Kept.ite (enterIndex_attentionKept s) (.refl s)).whenRunning⟩
  case liftTimeout | indexTimeout =>
    exact ⟨_, rfl, (Kept.ite (jam_attentionKept _ s) (.refl s)).attention_tested.whenRunning⟩
  case indexPulse => exact ⟨_, rfl, (indexPulse_attentionKept s).attention_tested.whenRunning⟩
  case homingPassLimit => exact ⟨_, rfl, (Kept.ite (indexPulse_attentionKept s).attention_tested (.refl s)).whenRunning⟩
  case homeMark => exact ⟨_, rfl, (homeMark_attentionKept s).whenRunning⟩
  case camHome => exact ⟨_, rfl, (closeCamHome_attentionKept s).attention_tested.whenRunning⟩
  case dropTimeout => exact ⟨_, rfl, (expireDrop_attentionKept s).attention_tested.whenRunning⟩
  case settleEnd => exact ⟨_, rfl, (endSettle_attentionKept s).attention_tested.whenRunning⟩
  case lampTick c => exact ⟨_, rfl, (lampTick_attentionKept c s).attention_tested.whenRunning⟩
  case lampRampEnd c => exact ⟨_, rfl, (Kept.ite (lampTick_attentionKept c s).attention_tested (.refl s)).whenRunning⟩
  case lampFailed => exact ⟨_, rfl, (Kept.ite (lampTickIn_attentionKept false false s).attention_tested (.refl s)).whenRunning⟩
  case coolingTick c => exact ⟨_, rfl, (Kept.ite (lampTickIn_attentionKept true c s).attention_tested (.refl s)).whenRunning⟩
  case tachGateEnd => exact ⟨_, rfl, (endTachGate_attentionKept s).whenRunning⟩
  case cutoutChange opened => exact ⟨_, rfl, (takeCutout_attentionKept opened s).whenRunning⟩
  case reelSilenceExpiry => exact ⟨_, rfl, (expireReel_attentionKept s).attention_tested.whenRunning⟩
  case tapeWord data parity stop => exact ⟨_, rfl, (readWordUpTo_attentionKept data parity stop 50 s).whenRunning⟩
  case candidateExpiry => exact ⟨_, rfl, (expireCandidate_attentionKept s).whenRunning⟩
  case burstEnd | burstLimit | spentEnd => exact ⟨_, rfl, (hpulse _ _).whenRunning⟩
  case cueTrackSample age => exact ⟨_, rfl, (takeSample_attentionKept age s).whenRunning⟩
  case keyPress k => exact ⟨_, rfl, (Kept.ite (.refl s) (recognizePress_attentionKept k s)).whenRunning⟩
  case keyScan samples order => exact ⟨_, rfl, (takeScan_attentionKept samples order s).whenRunning⟩
  case supplyFall => exact ⟨_, rfl, .attention_same rfl⟩
  case spinUpElapsed => exact ⟨_, rfl, .whenRunning (.ite (.attention_same rfl) (.refl s))⟩
  case soundRampEnd => exact ⟨_, rfl, .whenRunning (.ite (.attention_same (by simp)) (.refl s))⟩
  case configWindowExpiry => exact ⟨_, rfl, .whenRunning (.ite (.attention_same (by simp)) (.refl s))⟩
  case mirrorComplete | pinResetAssert | mainsWarnDeassert => exact ⟨_, rfl, .whenRunning (.attention_same rfl)⟩
  all_goals exact ⟨_, rfl, .whenRunning (.attention_same (by simp))⟩

/-- Settles O58: a step idles, or is a command on the queue's rest. -/
theorem stepKeepsAttentionLaw : Obligations.StepKeepsAttentionLaw := by
  unfold Obligations.StepKeepsAttentionLaw
  intro s s' hlaws hstep
  rw [← attentionLaws_iff] at hlaws ⊢
  unfold step at hstep
  split at hstep
  · obtain rfl := Host.Outcome.next.inj hstep
    exact hlaws
  · next i rest _ =>
    obtain ⟨t, ht, hkept⟩ := exec_attentionKept i { s with pending := rest }
    obtain rfl := Host.Outcome.next.inj (ht.symm.trans hstep)
    exact hkept hlaws

end Sys2Proof.Machine

-- ==== Sys2Proof/Proofs/AttentionRules.lean ====
/-! PROOF. What a station offers in a POLL and what becomes of the provisional hold (R180, R181, R183); the commands ACK, ATTN_SET and
CLEAR_COUNTERS (R182, R179, R187). -/

namespace Sys2Proof.Machine

open Sys2Proof (Byte Frame)

/-! ### Sources in code order -/

theorem Source.mem_all (c : Source) : c ∈ Source.all := by cases c <;> decide

theorem Source.all_sorted : Source.all.Pairwise (fun c d => c.code ≤ d.code) := by decide

/-- What is found among all sources is the one of least code. -/
theorem Source.find_all {p : Source → Bool} {c : Source} (h : Source.all.find? p = some c) :
    p c = true ∧ ∀ d, p d = true → c.code ≤ d.code := by
  obtain ⟨hc, before, after, hall, hbefore⟩ := List.find?_eq_some_iff_append.mp h
  refine ⟨hc, fun d hd => ?_⟩
  have hsorted := Source.all_sorted
  have hmem := d.mem_all
  rw [hall] at hsorted hmem
  obtain ⟨-, hafter, -⟩ := List.pairwise_append.mp hsorted
  rcases List.mem_append.mp hmem with hd' | hd'
  · exact absurd (hbefore d hd') (by simp [hd])
  · rcases List.mem_cons.mp hd' with rfl | hd'
    · exact Nat.le_refl _
    · exact (List.pairwise_cons.mp hafter).1 d hd'

theorem Attn.firstHigh_spec {a : Attn} {c : Source} (h : a.firstHigh = some c) :
    a.pending c = true ∧ (a.get c).high = true ∧ ∀ d, a.pending d = true → (a.get d).high = true → c.code ≤ d.code := by
  obtain ⟨hc, hleast⟩ := Source.find_all h
  obtain ⟨hpending, hhigh⟩ := (Bool.and_eq_true _ _).mp hc
  exact ⟨hpending, hhigh, fun d hd hdhigh => hleast d (by rw [hd, hdhigh]; rfl)⟩

theorem Attn.firstPending_spec {a : Attn} {c : Source} (h : a.firstPending = some c) :
    a.pending c = true ∧ ∀ d, a.pending d = true → c.code ≤ d.code := Source.find_all h

/-- A pending source is flagged and enabled (R178). -/
theorem Attn.pending_stands {a : Attn} {c : Source} (h : a.pending c = true) : (a.get c).flag = true ∧ (a.get c).enable = true := by
  simp only [Attn.pending, Bool.and_eq_true] at h
  obtain ⟨hstands, -⟩ := h
  exact hstands

/-! ### The offer (R180) -/

/-- A held HIGH source is offered; a held LOW one only after every pending HIGH one, and under ANY (R180; log 11). -/
theorem Attn.offer_held {a : Attn} {h : Source} (hheld : a.held = some h) (any : Bool) :
    a.offer any = if (a.get h).high then some h else a.firstHigh.or (if any then some h else none) := by
  unfold Attn.offer Attn.heldIsLow
  cases a.firstHigh <;> cases hhigh : (a.get h).high <;> simp [hheld, hhigh]

/-- With no source held the first pending HIGH one is offered, and under ANY the first pending one (R180). -/
theorem Attn.offer_free {a : Attn} (hheld : a.held = none) (any : Bool) :
    a.offer any = a.firstHigh.or (if any then a.firstPending else none) := by
  unfold Attn.offer Attn.heldIsLow
  cases a.firstHigh <;> simp [hheld]

/-- A source that is offered is the held one or a pending one (R180). -/
theorem Attn.offer_pending {a : Attn} {any : Bool} {c : Source} (h : a.offer any = some c) : a.held = some c ∨ a.pending c = true := by
  have hfirst : a.firstHigh = some c → a.pending c = true := fun hc => (Attn.firstHigh_spec hc).1
  cases hheld : a.held with
  | none =>
    rw [Attn.offer_free hheld, Option.or_eq_some_iff] at h
    rcases h with hc | ⟨-, hc⟩
    · exact .inr (hfirst hc)
    · exact .inr (Attn.firstPending_spec (by simpa using hc : any = true ∧ a.firstPending = some c).2).1
  | some d =>
    rw [Attn.offer_held hheld] at h
    split at h
    · exact .inl h
    · rcases Option.or_eq_some_iff.mp h with hc | ⟨-, hc⟩
      · exact .inr (hfirst hc)
      · exact .inl (by simpa using hc : any = true ∧ some d = some c).2

/-! ### The provisional hold (R181, R183) -/

theorem Attn.firm_of_some {a : Attn} {c : Source} (h : a.prov = some c) :
    a.firm = { a with
      held := if (a.get c).flag = true ∧ (a.get c).enable = true then some c else a.held
      prov := none } := by
  unfold Attn.firm
  rw [h]
  dsimp only
  by_cases hstands : (a.get c).flag = true ∧ (a.get c).enable = true
  · rw [if_pos hstands, if_pos ((Bool.and_eq_true _ _).mpr hstands)]
  · rw [if_neg hstands, if_neg (mt (Bool.and_eq_true _ _).mp hstands)]

theorem Attn.firm_of_none {a : Attn} (h : a.prov = none) : a.firm = a := by simp [Attn.firm, h]

theorem Attn.firm_sources (a : Attn) : a.firm.sources = a.sources := by
  cases h : a.prov with
  | none => rw [Attn.firm_of_none h]
  | some c => rw [Attn.firm_of_some h]

/-- A side-effect clear ends the provisional hold of its source, also where it is raised again before the check (R181, R183). -/
theorem Attn.sideClear_raise_firm {a : Attn} {c : Source} (hheld : a.held ≠ some c) (hprov : a.prov = some c) (detail : Nat) :
    ((a.sideClear c).raise c detail).firm.held = a.held := by
  obtain ⟨-, hclear, hsame, -⟩ := a.sideClear_spec c
  obtain ⟨-, -, hraised, hkept, -⟩ := (a.sideClear c).raise_spec c detail
  obtain ⟨-, hdropped⟩ := hclear hheld
  rw [Attn.firm_of_none (hkept.trans (hdropped.trans (if_pos hprov))), hraised, hsame]

/-- Settles O10: the offer by what is held, then the provisional hold and the side-effect clear part by part. -/
theorem pollOfferOrder : Obligations.PollOfferOrder := by
  unfold Obligations.PollOfferOrder
  refine ⟨fun a any => ⟨fun h hheld hhigh => ?_, fun h c hheld hlow hfirst => ?_, fun h hheld hlow hfirst => ?_,
    fun c hheld hfirst => ?_, fun hheld hfirst => ?_, fun c => Attn.firstHigh_spec, fun c => Attn.firstPending_spec⟩,
    fun a c detail => ?_⟩
  · rw [Attn.offer_held hheld, if_pos hhigh]
  · rw [Attn.offer_held hheld, hlow, hfirst]
    rfl
  · rw [Attn.offer_held hheld, hlow, hfirst]
    rfl
  · rw [Attn.offer_free hheld, hfirst]
    rfl
  · rw [Attn.offer_free hheld, hfirst]
    rfl
  · obtain ⟨hsame, hclear, hheld, hcounters, hothers⟩ := a.sideClear_spec c
    obtain ⟨hcleared, -⟩ := a.clear_spec c
    refine ⟨fun hprov => by rw [Attn.firm_of_some hprov], Attn.firm_of_none, a.firm_sources, rfl, hsame, fun hnot => ⟨?_, ?_⟩, hheld,
      hcounters, hothers⟩
    · obtain ⟨hsources, -⟩ := hclear hnot
      rw [Attn.get_congr hsources, hcleared]
    · exact fun hprov => Attn.sideClear_raise_firm hnot hprov detail

/-! ### ACK, ATTN_SET, CLEAR_COUNTERS (R182, R179, R187) -/

/-- A command accepted outside MAINS_LOSS, judged by its arguments (R172). -/
theorem exec_attentionCommand {c : Cmd} {f : Frame} {args : List Byte} {s : State} (h : Addressed c f args s)
    (hstate : s.stn.state ≠ .mainsLoss) (hc : c = .ack ∨ c = .attnSet ∨ c = .clearCounters) :
    ∃ t, exec (commandInstr c f args) s = .next t ∧ t.offLine = (runCommand c args s).1.offLine ∧
      t.out.sent = sentBytes f .command (c.code :: args) ++ resultTrailer f (runCommand c args s).2 s := by
  have hin : c.acceptedIn s.stn.state = true := by rcases hc with rfl | rfl | rfl <;> simpa [Cmd.acceptedIn] using hstate
  have hplain : c.configClass = false := by rcases hc with rfl | rfl | rfl <;> rfl
  have hjudge : judgeCommand (c.code :: args) s = runCommand c args s := by
    rw [judgeCommand_accepted _ hin, if_neg (by simp [hplain])]
  rw [← hjudge]
  exact exec_judged h

theorem attn_of_offLine {s t : State} (h : s.offLine = t.offLine) : s.attn = t.attn := show s.offLine.attn = t.offLine.attn by rw [h]

theorem runCommand_ack {code : Byte} {c : Source} (h : Source.ofCode code.toNat = some c) (s : State) :
    runCommand .ack [code] s = ({ s with attn := s.attn.ack c }, .accepted) := by
  dsimp only [runCommand]
  rw [h]

theorem runCommand_ack_unknown {code : Byte} (h : Source.ofCode code.toNat = none) (s : State) :
    runCommand .ack [code] s = (s, .refusedRange) := by
  dsimp only [runCommand]
  rw [h]

theorem runCommand_attnSet {code enable level : Byte} {c : Source} (h : Source.ofCode code.toNat = some c) (henable : enable.toNat ≤ 1)
    (hlevel : level.toNat ≤ 1) (s : State) :
    runCommand .attnSet [code, enable, level] s = ({ s with attn := s.attn.setting c (enable == 1#8) (level == 1#8) }, .accepted) := by
  dsimp only [runCommand]
  rw [h]
  exact if_pos ⟨henable, hlevel⟩

theorem Attn.put_get_self (a : Attn) (c : Source) : a.put c (a.get c) = a := by
  simp [Attn.put, Attn.get]

/-- An ACK of a source that is clear and not held changes nothing (R182). -/
theorem Attn.ack_of_clear {a : Attn} {c : Source} (hflag : (a.get c).flag = false) (hagain : (a.get c).again = false)
    (hdetail : (a.get c).detail = 0) (hheld : a.held ≠ some c) : a.ack c = a := by
  have hget : ({ a.get c with flag := false, again := false, detail := 0 } : SourceRec) = a.get c := by
    generalize a.get c = r at hflag hagain hdetail ⊢
    cases r
    simp_all
  have hclear : a.clear c = a := by rw [Attn.clear, hget, a.put_get_self c]
  simp [Attn.ack, hclear, hheld]

/-- A TARGET of 31 or a group is no station's number, so the trailer goes on as received (R10, R12). -/
theorem resultTrailer_of_common {f : Frame} {s : State} (r : Result) (hnumber : stationNumber s ≤ 30) (htarget : 31 ≤ f.target.toNat) :
    resultTrailer f r s = [f.result, f.resultComplement] := by
  have hother : ownTarget f s = false := by
    simp only [ownTarget, Bool.and_eq_false_iff, beq_eq_false_iff_ne]
    exact .inr (by omega)
  simp [resultTrailer, sentTrailer, hother]

/-- Settles O25: the code names no source, or the ACK of its source. -/
theorem ackClearsSource : Obligations.AckClearsSource := by
  unfold Obligations.AckClearsSource
  intro f code again s haddr hstate
  obtain ⟨t, hexec, hoff, hsent⟩ := exec_attentionCommand haddr hstate (.inl rfl)
  obtain ⟨hcode, hnone⟩ := Source.ofCode_spec code.toNat
  refine ⟨t, hexec, ?_⟩
  split
  · next hunknown =>
    rw [runCommand_ack_unknown hunknown] at hoff hsent
    exact ⟨hnone.mp hunknown, hoff, hsent⟩
  · next c hc =>
    rw [runCommand_ack hc] at hoff hsent
    have hattn : t.attn = s.attn.ack c := attn_of_offLine hoff
    obtain ⟨hsources, hprov, hcounters, hheld⟩ := s.attn.ack_sources c
    obtain ⟨hcleared, hothers, -⟩ := s.attn.clear_spec c
    have hget : (s.attn.ack c).get c = { s.attn.get c with flag := false, again := false, detail := 0 } := by
      rw [Attn.get_congr hsources, hcleared]
    rw [hattn]
    refine ⟨hcode c hc, hsent, hget, fun d hd => ?_, hheld, hoff, hcounters, hprov, fun hflag hagain hdetail hnot => ?_, ?_,
      resultTrailer_of_common .accepted⟩
    · rw [Attn.get_congr hsources, hothers d hd]
    · rw [hoff, Attn.ack_of_clear hflag hagain hdetail hnot]
    · exact (s.attn.ack c).raise_get_of_clear c again (by rw [hget])

/-- A byte of at most 1 is 0 or 1. -/
theorem byte_bit {b : Byte} (h : b.toNat ≤ 1) : (b == 1#8) = false ↔ b = 0#8 := by
  rw [beq_eq_false_iff_ne, Ne, ← BitVec.toNat_inj, ← BitVec.toNat_inj]
  show ¬ b.toNat = 1 ↔ b.toNat = 0
  omega

/-- Settles O26: ATTN_SET by its two bits, and CLEAR_COUNTERS. -/
theorem attentionSettingsAct : Obligations.AttentionSettingsAct := by
  unfold Obligations.AttentionSettingsAct
  intro f code enable level c s hstate hc
  refine ⟨fun haddr henable hlevel => ?_, fun haddr => ?_⟩
  · obtain ⟨t, hexec, hoff, hsent⟩ := exec_attentionCommand haddr hstate (.inr (.inl rfl))
    rw [runCommand_attnSet hc henable hlevel] at hoff hsent
    have hattn : t.attn = s.attn.setting c (enable == 1#8) (level == 1#8) := attn_of_offLine hoff
    obtain ⟨hsources, hprov, hcounters, hheld⟩ := s.attn.setting_sources c (enable == 1#8) (level == 1#8)
    refine ⟨t, hexec, hsent, ?_⟩
    rw [hattn]
    refine ⟨?_, fun d hd => ?_, ?_, hoff, hcounters, hprov⟩
    · rw [Attn.get_congr hsources, Attn.get_put_self]
    · rw [Attn.get_congr hsources, Attn.get_put_of_ne _ _ hd]
    · simpa only [byte_bit henable] using hheld
  · obtain ⟨t, hexec, hoff, hsent⟩ := exec_attentionCommand haddr hstate (.inr (.inr rfl))
    have hattn : t.attn = s.attn.clearCounters := attn_of_offLine hoff
    refine ⟨t, hexec, hsent, ?_⟩
    rw [hattn]
    exact ⟨fun k => by simp [Attn.clearCounters, Attn.counter], fun d => rfl, rfl, hoff⟩

end Sys2Proof.Machine

-- ==== Sys2Proof/Proofs/Polls.lean ====
/-! PROOF. Payload bytes under a rewrite, and those that pass as they come (R4, R8); a whole frame of a kind without trailer, with the payload
as it went out; the slot of a POLL (R180, R181, R189). -/

namespace Sys2Proof.Machine

open Sys2Proof (Byte Frame)

/-! ### Payload bytes rewritten and as given -/

theorem Passage.rewritten_nil {p : Passage} {r : List Byte} (h : p.reply = r) : p.rewritten [] [] r = p := by
  subst h
  simp [Passage.rewritten]

theorem Passage.rewritten_rewritten (p : Passage) (bs xs cs ys r r' : List Byte) :
    (p.rewritten bs xs r).rewritten cs ys r' = p.rewritten (bs ++ cs) (xs ++ ys) r' := by
  simp [Passage.rewritten]

/-- A payload byte that goes out as `x`, the bytes still to be written being `r`. -/
theorem rxBytes_payloadByte {p : Passage} {b x : Byte} {r sent : List Byte} {s s' : State} (hs : p.stripped = false)
    (h5 : 5 ≤ p.got.length) (hlt : p.got.length < 5 + p.length)
    (hbyte : payloadByte p b (passingFree s p sent) = passOn { p with reply := r } b x (passingFree s' p sent)) :
    rxBytes [b] (passing s p sent) = passing s' (p.rewritten [b] [x] r) (sent ++ [x]) := by
  rw [rxBytes_cons, rxBytes_nil, rxByte_passing, frameByte_payload p b _ h5 hlt, hbyte]
  exact passOn_passingFree { p with reply := r } b x s' p sent hs

/-- The bytes of a rewrite go out in place of as many payload bytes (R8). -/
theorem rxBytes_reply (bs xs : List Byte) (p : Passage) (sent : List Byte) (s : State) (hs : p.stripped = false) (h5 : 5 ≤ p.got.length)
    (hlen : p.got.length + bs.length ≤ 5 + p.length) (hreply : p.reply = xs) (hxs : xs.length = bs.length) :
    rxBytes bs (passing s p sent) = passing s (p.rewritten bs xs []) (sent ++ xs) := by
  induction bs generalizing p sent xs with
  | nil =>
    obtain rfl := List.length_eq_zero_iff.mp hxs
    rw [Passage.rewritten_nil hreply, List.append_nil, rxBytes_nil]
  | cons b bs ih =>
    obtain ⟨x, ys, rfl⟩ := List.exists_cons_of_length_eq_add_one hxs
    rw [List.length_cons] at hlen
    have hbyte : payloadByte p b (passingFree s p sent) = passOn { p with reply := ys } b x (passingFree s p sent) := by
      simp only [payloadByte, hreply]
    obtain ⟨-, -, -, -, hlength⟩ := Passage.header_of_append (p := p) (q := p.rewritten [b] [x] ys) rfl h5
    have hgot : (p.rewritten [b] [x] ys).got.length = p.got.length + 1 := List.length_append
    have hrest := ih ys (p.rewritten [b] [x] ys) (sent ++ [x]) hs (by omega) (by rw [hlength, hgot]; omega) rfl (by simpa using hxs)
    rw [show b :: bs = [b] ++ bs from rfl, rxBytes_append, rxBytes_payloadByte hs h5 (by omega) hbyte, hrest, p.rewritten_rewritten,
      List.append_assoc]
    rfl

/-- Payload bytes none of which begins a rewrite go out as they came (R4). -/
theorem rxBytes_asGiven (bs : List Byte) (p : Passage) (sent : List Byte) (s : State) (hs : p.stripped = false) (h5 : 5 ≤ p.got.length)
    (hlen : p.got.length + bs.length ≤ 5 + p.length) (hreply : p.reply = [])
    (hbyte : ∀ pre b post, bs = pre ++ b :: post →
      payloadByte (p.rewritten pre pre []) b (passingFree s (p.rewritten pre pre []) (sent ++ pre)) =
        passOn (p.rewritten pre pre []) b b (passingFree s (p.rewritten pre pre []) (sent ++ pre))) :
    rxBytes bs (passing s p sent) = passing s (p.rewritten bs bs []) (sent ++ bs) := by
  induction bs generalizing p sent with
  | nil => rw [Passage.rewritten_nil hreply, List.append_nil, rxBytes_nil]
  | cons b bs ih =>
    rw [List.length_cons] at hlen
    have hfirst := hbyte [] b bs rfl
    rw [Passage.rewritten_nil hreply, List.append_nil] at hfirst
    have hpass : payloadByte p b (passingFree s p sent) = passOn { p with reply := [] } b b (passingFree s p sent) := by
      rw [hfirst, ← hreply]
    obtain ⟨-, -, -, -, hlength⟩ := Passage.header_of_append (p := p) (q := p.rewritten [b] [b] []) rfl h5
    have hgot : (p.rewritten [b] [b] []).got.length = p.got.length + 1 := List.length_append
    have hrest := ih (p.rewritten [b] [b] []) (sent ++ [b]) hs (by omega) (by rw [hlength, hgot]; omega) rfl
      (fun pre c post hsplit => by
        rw [p.rewritten_rewritten, List.append_assoc]
        exact hbyte (b :: pre) c post (congrArg (b :: ·) hsplit))
    rw [show b :: bs = [b] ++ bs from rfl, rxBytes_append, rxBytes_payloadByte hs h5 (by omega) hpass, hrest, p.rewritten_rewritten,
      List.append_assoc]

/-- The passage behind the header of a frame of this kind and LENGTH. -/
abbrev headerOf (k : FrameKind) (f : Frame) (length : Nat) : Passage := headerPassage k.code f.target f.origin f.hop (byteOf length)

/-- The header of a POLL, QUERY or ASSIGN on free lines, and its payload behind it (R3 to R5). -/
theorem rxBytes_behindHeader {k : FrameKind} {f : Frame} {payload : List Byte} {s t : State} (hk : ¬(k = .cue ∨ k = .remote))
    (hlen : payload.length ≤ Config.maxLength)
    (hpayload : rxBytes payload (passing s (headerOf k f payload.length) (sentHeader k f payload.length)) = t) :
    rxBytes ([Config.sync, k.code, f.target, f.origin, f.hop, byteOf payload.length] ++ payload) (freeLine s) = t := by
  have hheader := rxBytes_header k f.target f.origin f.hop (byteOf payload.length) s (by rwa [byteOf_toNat hlen]) (fun h => absurd h hk)
  rw [rxBytes_append, hheader]
  exact hpayload

/-- A good POLL, QUERY or ASSIGN whose payload has gone out as `xs`, the part then standing as `s'`: what acting on it leaves, and the
frame as sent (R4 to R8). -/
theorem exec_rewrittenFrame {k : FrameKind} {f : Frame} {payload xs : List Byte} {s s' : State} (h : ArrivesWhole f payload s)
    (hgood : CheckGood f k payload) (htrailer : k.hasTrailer = false) (hxs : xs.length = payload.length)
    (hright : (wholePassage k f payload xs []).lengthRight k = true)
    (hrx : rxBytes ([Config.sync, k.code, f.target, f.origin, f.hop, byteOf payload.length] ++ payload) (freeLine s) =
      passing s' (wholePassage k f payload xs []) (sentHeader k f payload.length ++ xs)) :
    ∃ t u, exec (frameInstr k f payload) s = .next t ∧ u.offLine = s'.offLine ∧
      t.offLine = (actOn k (wholePassage k f payload xs []) u).1.offLine ∧ t.out.sent = sentBytes f k xs := by
  obtain ⟨r, hexec⟩ := exec_goodFrame_of_upToCheck h hgood hrx
  dsimp only at hexec
  rw [goodFrame_rightLength hright] at hexec
  refine ⟨_, _, hexec, ?_, rfl, ?_⟩
  · rw [restartSilence_offLine, takePosition_offLine]
    rfl
  · simp [lineOut, sentBytes_eq, htrailer, hxs]

/-! ### The slot of a POLL -/

/-- A good POLL leaves the provisional hold of its passage firm or dropped (R181). -/
theorem exec_poll {f : Frame} {payload xs : List Byte} {s s' : State} (h : ArrivesWhole f payload s) (hgood : CheckGood f .poll payload)
    (h7 : payload.length = 7) (hxs : xs.length = payload.length)
    (hrx : rxBytes payload (passing s (headerOf .poll f payload.length) (sentHeader .poll f payload.length)) =
      passing s' (wholePassage .poll f payload xs []) (sentHeader .poll f payload.length ++ xs)) :
    ∃ t, exec (.poll f payload) s = .next t ∧ t.out.sent = sentBytes f .poll xs ∧
      t.offLine = { s' with attn := s'.attn.firm }.offLine := by
  have hright : (wholePassage .poll f payload xs []).lengthRight .poll = true := by
    simp [Passage.lengthRight, FrameKind.fixedLength, wholePassage_length .poll f payload xs [] (payload_length_le h), h7]
  obtain ⟨t, u, hexec, hu, hoff, hsent⟩ := exec_rewrittenFrame h hgood rfl hxs hright
    (rxBytes_behindHeader (by simp) (payload_length_le h) hrx)
  refine ⟨t, hexec, hsent, hoff.trans ?_⟩
  show { u with attn := u.attn.firm }.offLine = _
  rw [attn_of_offLine hu]
  exact congrArg (fun v : State => { v with attn := s'.attn.firm }) hu

/-- A payload byte of a POLL before or behind its STATION byte, with no rewrite in progress, passes as it came (R8). -/
theorem payloadByte_poll_asGiven {p : Passage} {b : Byte} {s : State} (hk : p.kind = some .poll) (hr : p.reply = [])
    (hplace : p.got.length ≠ 6) : payloadByte p b s = passOn p b b s := by
  simp [payloadByte, hr, hk, hplace]

theorem payloadByte_poll_station {p : Passage} {b : Byte} {s : State} (hk : p.kind = some .poll) (hr : p.reply = [])
    (h7 : p.length = 7) (hplace : p.got.length = 6) : payloadByte p b s = pollByte p b s := by
  simp [payloadByte, hr, hk, h7, hplace]

/-- The hold that a POLL brings about, where it was not there before (R181). -/
theorem Attn.holdProvisionally_firm {a : Attn} {c : Source} (hprov : a.prov = none) (hc : a.held = some c ∨ a.pending c = true) :
    (a.holdProvisionally c).firm = { a with held := some c } := by
  unfold Attn.holdProvisionally
  split
  · next hheld => rw [Attn.firm_of_none hprov, ← hheld]
  · next hheld =>
    have hstands := Attn.pending_stands (hc.resolve_left hheld)
    have hget : ({ a with prov := some c } : Attn).get c = a.get c := rfl
    rw [Attn.firm_of_some (a := { a with prov := some c }) rfl, hget, if_pos hstands, hprov]

/-- The empty slot of a POLL at a station that offers a source: the slot's six bytes go out, the source held provisionally (R180, R181). -/
theorem rxBytes_poll_filled (f : Frame) (minLevel x1 x2 x3 x4 x5 : Byte) (c : Source) (s : State)
    (hoffer : pollOffer minLevel 0#8 s = some c) :
    rxBytes [minLevel, 0#8, x1, x2, x3, x4, x5] (passing s (headerOf .poll f 7) (sentHeader .poll f 7)) =
      passing { s with attn := s.attn.holdProvisionally c }
        (wholePassage .poll f [minLevel, 0#8, x1, x2, x3, x4, x5] (minLevel :: slotBytes (stationNumber s) c s.attn) [])
        (sentHeader .poll f 7 ++ minLevel :: slotBytes (stationNumber s) c s.attn) := by
  let p := headerOf .poll f 7
  let bytes := slotBytes (stationNumber s) c s.attn
  let q := p.rewritten [minLevel] [minLevel] []
  let q' := q.rewritten [0#8] [bytes.headD 0#8] (bytes.drop 1)
  let s' : State := { s with attn := s.attn.holdProvisionally c }
  let sent := sentHeader .poll f 7
  have hminLevel : payloadByte p minLevel (passingFree s p sent) = passOn { p with reply := [] } minLevel minLevel (passingFree s p sent) :=
    payloadByte_poll_asGiven rfl rfl (by decide : (5 : Nat) ≠ 6)
  have hstation : payloadByte q 0#8 (passingFree s q (sent ++ [minLevel])) =
      passOn { q with reply := bytes.drop 1 } 0#8 (bytes.headD 0#8) (passingFree s' q (sent ++ [minLevel])) := by
    have hhere : pollOffer (q.got.getD 5 0#8) 0#8 (passingFree s q (sent ++ [minLevel])) = some c := hoffer
    rw [payloadByte_poll_station rfl rfl rfl rfl, pollByte, hhere]
    rfl
  have hfirst : rxBytes [minLevel] (passing s p sent) = passing s q (sent ++ [minLevel]) :=
    rxBytes_payloadByte rfl (Nat.le_refl 5) (by decide : 5 < 5 + 7) hminLevel
  have hsecond : rxBytes [0#8] (passing s q (sent ++ [minLevel])) = passing s' q' (sent ++ [minLevel] ++ [bytes.headD 0#8]) :=
    rxBytes_payloadByte rfl (by decide : 5 ≤ 6) (by decide : 6 < 5 + 7) hstation
  have hrest := rxBytes_reply [x1, x2, x3, x4, x5] (bytes.drop 1) q' (sent ++ [minLevel] ++ [bytes.headD 0#8]) s' rfl
    (by decide : 5 ≤ 7) (by decide : 7 + 5 ≤ 5 + 7) rfl rfl
  rw [show [minLevel, 0#8, x1, x2, x3, x4, x5] = [minLevel] ++ ([0#8] ++ [x1, x2, x3, x4, x5]) from rfl, rxBytes_append, rxBytes_append,
    hfirst, hsecond, hrest, Passage.rewritten_rewritten, Passage.rewritten_rewritten, List.append_assoc, List.append_assoc]
  rfl

/-- A POLL to whose slot a station adds nothing goes out as it came (R180, R189). -/
theorem rxBytes_poll_asGiven (f : Frame) (minLevel station x1 x2 x3 x4 x5 : Byte) (s : State)
    (hoffer : pollOffer minLevel station s = none) :
    rxBytes [minLevel, station, x1, x2, x3, x4, x5] (passing s (headerOf .poll f 7) (sentHeader .poll f 7)) =
      passing s (wholePassage .poll f [minLevel, station, x1, x2, x3, x4, x5] [minLevel, station, x1, x2, x3, x4, x5] [])
        (sentHeader .poll f 7 ++ [minLevel, station, x1, x2, x3, x4, x5]) := by
  refine rxBytes_asGiven _ _ _ s rfl (Nat.le_refl 5) (by decide : 5 + 7 ≤ 5 + 7) rfl fun pre b post hsplit => ?_
  let q := (headerOf .poll f 7).rewritten pre pre []
  obtain ⟨hkind, -, -, -, hlength⟩ := Passage.header_of_append (p := headerOf .poll f 7) (q := q) rfl (Nat.le_refl 5)
  by_cases hplace : pre.length = 1
  · obtain ⟨m, rfl⟩ := List.length_eq_one_iff.mp hplace
    obtain ⟨rfl, hrest⟩ := List.cons.inj hsplit
    obtain ⟨rfl, -⟩ := List.cons.inj hrest
    have hhere : pollOffer (q.got.getD 5 0#8) station (passingFree s q (sentHeader .poll f 7 ++ [minLevel])) = none := hoffer
    rw [payloadByte_poll_station rfl rfl rfl rfl, pollByte, hhere]
  · have hgot : q.got.length = 5 + pre.length := List.length_append
    exact payloadByte_poll_asGiven (hkind.trans rfl) rfl (by rw [hgot]; omega)

/-- What a station adds to a POLL's slot (R180, R189). -/
theorem pollOffer_none {minLevel station : Byte} {s : State} (h : station ≠ 0#8 ∨ (minLevel ≠ 1#8 ∧ minLevel ≠ 2#8) ∨
    stationNumber s = 0 ∨ s.attn.offer (minLevel == 2#8) = none) : pollOffer minLevel station s = none := by
  unfold pollOffer
  split
  · next hoffers =>
    obtain ⟨hempty, hnumber, hlevel⟩ := hoffers
    rcases h with h | ⟨h1, h2⟩ | h | h
    · exact absurd hempty h
    · exact absurd hlevel (by simp [h1, h2])
    · exact absurd h hnumber
    · exact h
  · rfl

/-- Settles O9, by whether the station offers a source in the slot. -/
theorem pollSlotFilledOrForwarded : Obligations.PollSlotFilledOrForwarded := by
  unfold Obligations.PollSlotFilledOrForwarded
  refine ⟨fun f minLevel x1 x2 x3 x4 x5 c s h hgood hlevel hnumber hlaw hoffer => ?_,
    fun f minLevel station x1 x2 x3 x4 x5 s h hgood hlaw hnone => ?_⟩
  · obtain ⟨hprov, -⟩ := hlaw.none_of_quiet h.2.1
    have hslot : pollOffer minLevel 0#8 s = some c := (if_pos ⟨rfl, hnumber, hlevel⟩).trans hoffer
    obtain ⟨t, hexec, hsent, hoff⟩ := exec_poll (xs := minLevel :: slotBytes (stationNumber s) c s.attn) h hgood rfl rfl
      (rxBytes_poll_filled f minLevel x1 x2 x3 x4 x5 c s hslot)
    rw [show ({ s with attn := s.attn.holdProvisionally c } : State).attn = s.attn.holdProvisionally c from rfl,
      Attn.holdProvisionally_firm hprov (Attn.offer_pending hoffer)] at hoff
    exact ⟨t, hexec, hsent, hoff⟩
  · obtain ⟨hprov, -⟩ := hlaw.none_of_quiet h.2.1
    obtain ⟨t, hexec, hsent, hoff⟩ := exec_poll h hgood rfl rfl
      (rxBytes_poll_asGiven f minLevel station x1 x2 x3 x4 x5 s (pollOffer_none hnone))
    rw [Attn.firm_of_none hprov] at hoff
    exact ⟨t, hexec, hsent, hoff⟩

end Sys2Proof.Machine

-- ==== Sys2Proof/Proofs/Records.lean ====
/-! PROOF. The records by their fields (R186, R187), the entries of a TABLE reply by bank and table, and what a reply holds by area and
offset (R185). -/

namespace Sys2Proof.Machine

open Sys2Proof (Byte Frame)

/-! ### Fields of a record -/

theorem byteOf_toNat_mod (n : Nat) : (byteOf n).toNat = n % 256 := by simp [byteOf]

theorem word16_bytes16 (n : Nat) : word16 (byteOf (n / 256)) (byteOf n) = n % 65536 := by
  rw [word16, byteOf_toNat_mod, byteOf_toNat_mod]
  omega

theorem bitAt_toNat (k : Nat) (hk : k < 8) (m : Bool) : (bitAt k m).toNat = weight (2 ^ k) m := by
  have hlt : 2 ^ k < 2 ^ 8 := Nat.pow_lt_pow_right (by decide) hk
  cases m with
  | false => rfl
  | true => simpa [bitAt, weight] using Nat.mod_eq_of_lt hlt

theorem twoFlags_toNat (a b : Bool) : (bitAt 0 a ||| bitAt 1 b).toNat = weight 1 a + weight 2 b := by
  revert a b
  decide

theorem threeFlags_toNat (a b c : Bool) : (bitAt 0 a ||| bitAt 1 b ||| bitAt 2 c).toNat = weight 1 a + weight 2 b + weight 4 c := by
  revert a b c
  decide

theorem SourceRec.flags_toNat (r : SourceRec) :
    r.flags.toNat = weight 1 r.flag + weight 2 r.again + weight 4 r.enable + weight 8 r.high := by
  have h : ∀ a b c d : Bool, (bitAt 0 a ||| bitAt 1 b ||| bitAt 2 c ||| bitAt 3 d).toNat =
      weight 1 a + weight 2 b + weight 4 c + weight 8 d := by decide
  exact h ..

/-- Entry `i` of a list of entries of one width, as bytes. -/
theorem flatMap_slice {α : Type} {g : α → List Byte} {w : Nat} (h : ∀ a, (g a).length = w) (l : List α) (i : Nat) (hi : i < l.length) :
    ((l.flatMap g).drop (w * i)).take w = g l[i] := by
  induction l generalizing i with
  | nil => exact absurd hi (Nat.not_lt_zero i)
  | cons a l ih =>
    rw [List.flatMap_cons]
    cases i with
    | zero => rw [Nat.mul_zero, List.drop_zero, List.take_left' (h a), List.getElem_cons_zero]
    | succ i =>
      rw [show w * (i + 1) = (g a).length + w * i by rw [h, Nat.mul_succ, Nat.add_comm], List.drop_length_add_append,
        ih i (Nat.lt_of_succ_lt_succ hi), List.getElem_cons_succ]

theorem flatMap_length_of_width {α : Type} {g : α → List Byte} {w : Nat} (h : ∀ a, (g a).length = w) (l : List α) :
    (l.flatMap g).length = w * l.length := by
  simp [List.length_flatMap, h, Nat.mul_comm]

theorem wordAt_of_slice {r : List Byte} {i n : Nat} (h : (r.drop i).take 2 = bytes16 n) : wordAt r i = n % 65536 := by
  have hfirst : r.getD i 0#8 = byteOf (n / 256) := by
    simpa [List.getD_eq_getElem?_getD, bytes16] using congrArg (fun l => l.getD 0 0#8) h
  have hsecond : r.getD (i + 1) 0#8 = byteOf n := by
    simpa [List.getD_eq_getElem?_getD, bytes16] using congrArg (fun l => l.getD 1 0#8) h
  rw [wordAt, hfirst, hsecond, word16_bytes16]

/-! ### The five records -/

theorem attentionRecord_length (a : Attn) : (attentionRecord a).length = 17 := by simp [attentionRecord]

theorem countersRecord_length (a : Attn) : (countersRecord a).length = 18 := by
  rw [countersRecord, flatMap_length_of_width (w := 2) fun _ => rfl]
  simp

theorem attentionRecord_source (a : Attn) (c : Source) : byteAt (attentionRecord a) (c.code - 1) = (a.get c).flags.toNat := by
  have hlt : (c.idx : Nat) < (a.sources.toList.map SourceRec.flags).length := by simp
  rw [byteAt, attentionRecord, show c.code - 1 = (c.idx : Nat) from rfl, List.getD_append _ _ _ _ hlt,
    List.getD_eq_getElem _ _ hlt]
  simp [Attn.get]

theorem heldCode_mod (a : Attn) : a.heldCode % 256 = a.heldCode := by
  refine Nat.mod_eq_of_lt ?_
  unfold Attn.heldCode
  split
  · next c _ => cases c <;> decide
  · decide

theorem attentionRecord_held (a : Attn) : byteAt (attentionRecord a) 16 = a.heldCode := by
  have hlen : (a.sources.toList.map SourceRec.flags).length = 16 := by simp
  rw [byteAt, attentionRecord, List.getD_append_right _ _ _ _ hlen.le, hlen]
  exact (byteOf_toNat_mod _).trans (heldCode_mod a)

theorem countersRecord_counter (a : Attn) (k : Counter) : wordAt (countersRecord a) (2 * k.idx) = a.counter k % 65536 := by
  have hlt : (k.idx : Nat) < a.counters.toList.length := by simp
  exact wordAt_of_slice (flatMap_slice (g := bytes16) (w := 2) (fun _ => rfl) _ _ hlt)

/-! ### Replies with a record (R185) -/

theorem recordReply_nil {bytes : List Byte} {offset area : Nat} (h : bytes.length ≤ offset ∨ area = 0) :
    recordReply bytes offset area = [] := if_pos h.symm

theorem recordReply_ok {bytes : List Byte} {offset area : Nat} (ho : offset < bytes.length) (ha : bytes.length - offset < area) :
    recordReply bytes offset area = replyOk :: bytes.drop offset := by
  rw [recordReply, if_neg (by omega)]
  exact if_pos (by rw [List.length_drop]; omega)

theorem recordReply_truncated {bytes : List Byte} {offset area : Nat} (ho : offset < bytes.length) (h0 : 0 < area)
    (ha : area ≤ bytes.length - offset) : recordReply bytes offset area = replyTruncated :: (bytes.drop offset).take (area - 1) := by
  rw [recordReply, if_neg (by omega)]
  exact if_neg (by rw [List.length_drop]; omega)

theorem recordReply_length_le (bytes : List Byte) (offset area : Nat) : (recordReply bytes offset area).length ≤ area := by
  by_cases hnone : bytes.length ≤ offset ∨ area = 0
  · simp [recordReply_nil hnone]
  · by_cases hfits : bytes.length - offset < area
    · rw [recordReply_ok (by omega) hfits, List.length_cons, List.length_drop]
      omega
    · rw [recordReply_truncated (by omega) (by omega) (by omega), List.length_cons, List.length_take]
      omega

theorem answerQuery_record {record : Byte} (h : selectBytes record = some 1) (offset : Byte) (area : Nat) (s : State) :
    answerQuery [record, offset] area s = (recordReply (recordOf record s) offset.toNat area, s) := if_pos h

/-! ### Replies with a table (R186) -/

/-- The bytes of an entry of a table, as a bank holds it; the dissolve curve stands in no bank (R27). -/
def entryIn (s : State) (b : Bank) (t : LoadTable) (addr : Nat) : List Byte :=
  match t with
  | .cueIndex => entryBytesOf (b.entry addr)
  | .stepPool => stepBytesOf (b.step addr)
  | .curve => bytes16 (curvePoint s.lamp.curve addr)

theorem entryIn_length (s : State) (b : Bank) (t : LoadTable) (addr : Nat) : (entryIn s b t addr).length = t.entryBytes := by
  cases t <;> rfl

/-- An entry read is that of one of the two banks (log 6). -/
theorem tableEntry_either (s : State) (pending : Bool) (t : LoadTable) (addr : Nat) :
    tableEntry s pending t addr = entryIn s s.disp.liveBank t addr ∨
      tableEntry s pending t addr = entryIn s s.disp.pendingBank t addr := by
  cases t <;> dsimp only [tableEntry, entryIn]
  case curve => exact .inl rfl
  all_goals
    split
    · exact .inr rfl
    · exact .inl rfl

theorem tableEntry_live (s : State) (t : LoadTable) (addr : Nat) :
    tableEntry s false t addr = entryIn s s.disp.liveBank t addr := by
  cases t <;> simp [tableEntry, entryIn]

theorem tableEntry_pending {s : State} (h : s.disp.mirrorBusy = false) (t : LoadTable) (addr : Nat) :
    tableEntry s true t addr = entryIn s s.disp.pendingBank t addr := by
  cases t <;> simp [tableEntry, entryIn, h]

theorem tableEntry_length (s : State) (pending : Bool) (t : LoadTable) (addr : Nat) :
    (tableEntry s pending t addr).length = t.entryBytes := by
  rcases tableEntry_either s pending t addr with h | h <;> rw [h, entryIn_length]

/-- The number of whole entries that an area holds behind the head of a TABLE reply, as far as the table goes (R186). -/
abbrev entriesFitting (t : LoadTable) (start area : Nat) : Nat := min ((area - 6) / t.entryBytes) (t.lastAddress + 1 - start)

theorem tableReply_whole {t : LoadTable} {area : Nat} (h : 6 + t.entryBytes ≤ area) (s : State) (pending : Bool) (start : Nat)
    (bank table hi lo : Byte) :
    tableReply s pending t start area bank table hi lo =
      [replyOk, bank, table, hi, lo, byteOf (entriesFitting t start area)] ++
        (List.range (entriesFitting t start area)).flatMap fun i => tableEntry s pending t (start + i) :=
  (if_neg (by omega)).trans (if_pos h)

theorem tableReply_short {t : LoadTable} {area : Nat} (h : area < 6 + t.entryBytes) (s : State) (pending : Bool) (start : Nat)
    (bank table hi lo : Byte) :
    tableReply s pending t start area bank table hi lo = [replyTruncated, bank, table, hi, lo, 0#8].take area := by
  by_cases h0 : area = 0
  · subst h0
    rfl
  · exact (if_neg h0).trans (if_neg (by omega))

theorem tableReply_length_le (s : State) (pending : Bool) (t : LoadTable) (start area : Nat) (bank table hi lo : Byte) :
    (tableReply s pending t start area bank table hi lo).length ≤ area := by
  by_cases h : 6 + t.entryBytes ≤ area
  · have hfit : t.entryBytes * entriesFitting t start area ≤ area - 6 :=
      (Nat.mul_le_mul_left _ (Nat.min_le_left ..)).trans (Nat.mul_div_le ..)
    rw [tableReply_whole h, List.length_append, flatMap_length_of_width fun i => tableEntry_length s pending t (start + i),
      List.length_range]
    simp only [List.length_cons, List.length_nil]
    omega
  · rw [tableReply_short (by omega), List.length_take]
    exact Nat.min_le_left ..

/-- A state at which the banks, the curve and the mirror in progress are those of `s`: `s`, or `s` with its mirror looked at (R32). -/
def SameTables (s s' : State) : Prop :=
  s'.disp.liveBank = s.disp.liveBank ∧ s'.disp.pendingBank = s.disp.pendingBank ∧ s'.disp.mirrorBusy = s.disp.mirrorBusy ∧
  s'.lamp.curve = s.lamp.curve

theorem lookAtMirror_sameTables (s : State) : SameTables s (lookAtMirror s) := by
  unfold lookAtMirror
  split <;> exact ⟨rfl, rfl, rfl, rfl⟩

theorem SameTables.entryIn {s s' : State} (h : SameTables s s') (b : Bank) (t : LoadTable) (addr : Nat) :
    entryIn s' b t addr = entryIn s b t addr := by
  obtain ⟨-, -, -, hcurve⟩ := h
  cases t <;> simp [Machine.entryIn, hcurve]

/-- A QUERY of a table is answered from the banks as they stand (R186). -/
theorem answerQuery_table {bank table hi lo : Byte} {t : LoadTable} (hbank : bank.toNat ≤ 1) (ht : LoadTable.ofByte table = some t)
    (hfirst : t.firstAddress ≤ word16 hi lo) (hlast : word16 hi lo < t.lastAddress + 1) (area : Nat) (s : State) :
    ∃ s', SameTables s s' ∧
      answerQuery [5#8, bank, table, hi, lo] area s = (tableReply s' (bank == 1#8) t (word16 hi lo) area bank table hi lo, s') := by
  refine ⟨if bank = 1#8 ∧ 0 < area then lookAtMirror s else s, ?_, ?_⟩
  · split
    · exact lookAtMirror_sameTables s
    · exact ⟨rfl, rfl, rfl, rfl⟩
  · simp [answerQuery, hbank, ht, hfirst, Nat.le_of_lt_succ hlast]

/-- An entry as a TABLE reply holds it, where one bank is read (R186). -/
theorem tableEntry_named {s s' : State} (h : SameTables s s') {bank table : Byte} {t : LoadTable} (hbank : bank.toNat ≤ 1)
    (ht : LoadTable.ofByte table = some t) (hone : bank = 0#8 ∨ table = 3#8 ∨ s.disp.mirrorBusy = false) (addr : Nat) :
    tableEntry s' (bank == 1#8) t addr = entryIn s (if bank = 0#8 then s.disp.liveBank else s.disp.pendingBank) t addr := by
  obtain ⟨hlive, hpending, hbusy, -⟩ := id h
  rcases hone with rfl | rfl | hidle
  · exact (tableEntry_live s' t addr).trans (by rw [h.entryIn, hlive, if_pos rfl])
  · obtain rfl := Option.some.inj ht
    exact h.entryIn s.disp.liveBank .curve addr
  · by_cases h0 : bank = 0#8
    · subst h0
      exact (tableEntry_live s' t addr).trans (by rw [h.entryIn, hlive, if_pos rfl])
    · have h1 : bank = 1#8 := by bv_omega
      rw [if_neg h0, h1, ← hpending, ← h.entryIn]
      exact tableEntry_pending (hbusy.trans hidle) t addr

/-- The reply to a QUERY of a table, whole or cut short (R186). -/
theorem answerQuery_table_reply (t : LoadTable) {bank table hi lo : Byte} (hbank : bank.toNat ≤ 1) (ht : LoadTable.ofByte table = some t)
    (hfirst : t.firstAddress ≤ word16 hi lo) (hlast : word16 hi lo < t.lastAddress + 1) (area : Nat) (s : State) :
    let start := word16 hi lo
    let n := entriesFitting t start area
    let reply := (answerQuery [5#8, bank, table, hi, lo] area s).1
    (6 + t.entryBytes ≤ area →
      reply.take 6 = [1#8, bank, table, hi, lo, byteOf n] ∧ reply.length = 6 + t.entryBytes * n ∧
      (bank = 0#8 ∨ table = 3#8 ∨ s.disp.mirrorBusy = false →
        reply.drop 6 = (List.range n).flatMap fun i =>
          entryIn s (if bank = 0#8 then s.disp.liveBank else s.disp.pendingBank) t (start + i)) ∧
      (∀ i, i < n → (reply.drop (6 + t.entryBytes * i)).take t.entryBytes = entryIn s s.disp.liveBank t (start + i) ∨
        (reply.drop (6 + t.entryBytes * i)).take t.entryBytes = entryIn s s.disp.pendingBank t (start + i))) ∧
    (area < 6 + t.entryBytes → reply = [2#8, bank, table, hi, lo, 0#8].take area) := by
  intro start n reply
  obtain ⟨s', hsame, hanswer⟩ := answerQuery_table hbank ht hfirst hlast area s
  have hreply : reply = tableReply s' (bank == 1#8) t start area bank table hi lo := congrArg Prod.fst hanswer
  refine ⟨fun hfits => ?_, fun hshort => hreply.trans (tableReply_short hshort ..)⟩
  rw [hreply, tableReply_whole hfits]
  have hwidth : ∀ i, (tableEntry s' (bank == 1#8) t (start + i)).length = t.entryBytes := fun i => tableEntry_length ..
  refine ⟨rfl, ?_, fun hone => ?_, fun i hlt => ?_⟩
  · rw [List.length_append, flatMap_length_of_width hwidth, List.length_range]
    rfl
  · exact List.flatMap_congr fun i _ => tableEntry_named hsame hbank ht hone (start + i)
  · have hslice := flatMap_slice hwidth (List.range n) i (by rwa [List.length_range])
    rw [List.getElem_range] at hslice
    obtain ⟨hlive, hpending, -, -⟩ := id hsame
    have hdrop := List.drop_length_add_append (l₁ := [replyOk, bank, table, hi, lo, byteOf n])
      (l₂ := (List.range n).flatMap fun i => tableEntry s' (bank == 1#8) t (start + i)) (t.entryBytes * i)
    rw [← hlive, ← hpending, ← hsame.entryIn, ← hsame.entryIn]
    exact (tableEntry_either s' (bank == 1#8) t (start + i)).imp ((congrArg _ hdrop).trans hslice).trans
      ((congrArg _ hdrop).trans hslice).trans

/-- Settles O12: the replies by area and offset, the records field by field, the tables by what fits. -/
theorem recordReplyFillsArea : Obligations.RecordReplyFillsArea := by
  unfold Obligations.RecordReplyFillsArea
  refine ⟨fun _ _ _ h => recordReply_nil h, fun _ _ _ ho ha => recordReply_ok ho ha, fun bytes offset area ho h0 ha => ?_,
    fun offset area s => ?_, fun s => ?_, fun c k s => ?_, fun s => ?_, fun bank table hi lo area s hbank => ?_⟩
  · refine ⟨?_, recordReply_truncated ho h0 ha⟩
    rw [recordReply_truncated ho h0 ha, List.length_cons, List.length_take, List.length_drop]
    omega
  · exact ⟨rfl, attentionRecord_length _, countersRecord_length _, rfl, answerQuery_record rfl offset area s,
      answerQuery_record rfl offset area s, answerQuery_record rfl offset area s, answerQuery_record rfl offset area s⟩
  · simp only [statusRecord, tripFlags, bytes16, List.cons_append, List.nil_append, byteAt, wordAt, List.getD_cons_zero,
      List.getD_cons_succ, byteOf_toNat_mod, word16_bytes16, twoFlags_toNat, threeFlags_toNat, bitAt_toNat 0 (by decide), heldCode_mod,
      pow_zero, true_and]
    refine ⟨?_, ?_, ?_, ?_, ?_, ?_, ?_, ?_, ?_, rfl⟩
    · cases s.stn.state <;> rfl
    · cases s.stn.showState <;> rfl
    · cases s.tray.state with
      | cycle phase => cases phase <;> rfl
      | noTray => rfl
      | idle => rfl
      | jammed => rfl
    · cases s.tray.size <;> rfl
    · cases s.tray.certainty <;> rfl
    · cases s.lamp.state <;> rfl
    · cases s.deck.state with
      | braking mode _ =>
        cases mode with
        | windingRev toZero => cases toZero <;> rfl
        | stopped => rfl
        | playing => rfl
        | pausedHold => rfl
        | windingFwd => rfl
      | windingRev toZero => cases toZero <;> rfl
      | paused hold => cases hold <;> rfl
      | noCassette => rfl
      | stopped => rfl
      | playing => rfl
      | windingFwd => rfl
    · cases s.disp.lastSource <;> rfl
    · cases s.disp.live <;> rfl
  · refine ⟨(attentionRecord_source s.attn c).trans (SourceRec.flags_toNat _), attentionRecord_held s.attn, ?_⟩
    rw [← countersRecord_counter]
    cases k <;> rfl
  · simp only [configRecord, bytes16, List.cons_append, List.nil_append, byteAt, wordAt, List.getD_cons_zero, List.getD_cons_succ,
      List.map_cons, List.map_nil, byteOf_toNat_mod, word16_bytes16, twoFlags_toNat, bitAt_toNat 0 (by decide),
      Nat.mod_eq_of_lt s.stn.items.groupSet.isLt, pow_zero, true_and, and_true]
    refine ⟨?_, ?_, ?_⟩
    · cases s.stn.items.remotePolicy <;> rfl
    · cases s.stn.items.silencePolicy <;> rfl
    · cases s.stn.items.tapeCueMode <;> rfl
  · intro start entry width past n reply htable hpast
    rcases htable with ⟨rfl, hfirst⟩ | rfl | rfl
    · exact answerQuery_table_reply .cueIndex hbank rfl hfirst hpast area s
    · exact answerQuery_table_reply .stepPool hbank rfl (Nat.zero_le _) hpast area s
    · exact answerQuery_table_reply .curve hbank rfl (Nat.zero_le _) hpast area s

end Sys2Proof.Machine

-- ==== Sys2Proof/Proofs/Queries.lean ====
/-! PROOF. What a QUERY in passage brings about at each byte (R185), where it goes unanswered (R12, R186), and the frame as it went out. -/

namespace Sys2Proof.Machine

open Sys2Proof (Byte Frame)

/-! ### The answer on the line -/

/-- The answer to a QUERY does not look at what LOOP IN and LOOP OUT do. -/
theorem answerQuery_onLine (fields : List Byte) (area : Nat) (s : State) (rx : Rx) (o : LoopOut) :
    answerQuery fields area (onLine s rx o) = ((answerQuery fields area s).1, onLine (answerQuery fields area s).2 rx o) := by
  unfold answerQuery
  split
  · split <;> rfl
  · split
    · split
      · dsimp only
        split_ifs
        · rw [lookAtMirror_onLine]
          rfl
        · rfl
        · rfl
      · rfl
    · rfl
  · rfl

theorem answerQuery_passingFree (fields : List Byte) (area : Nat) (s : State) (p : Passage) (sent : List Byte) :
    answerQuery fields area (passingFree s p sent) =
      ((answerQuery fields area s).1, passingFree (answerQuery fields area s).2 p sent) := by
  have hout : (answerQuery fields area s).2.out = s.out := by simp
  rw [passingFree_eq_onLine, answerQuery_onLine, ← hout, ← passingFree_eq_onLine]

/-- All that an answer can be: none, a record's, or a table's from the banks as they stand. -/
theorem answerQuery_cases (fields : List Byte) (area : Nat) (s : State) :
    answerQuery fields area s = ([], s) ∨
    (∃ record offset, fields = [record, offset] ∧ selectBytes record = some 1 ∧
      answerQuery fields area s = (recordReply (recordOf record s) offset.toNat area, s)) ∨
    ∃ bank table hi lo t s', fields = [5#8, bank, table, hi, lo] ∧ bank.toNat ≤ 1 ∧ LoadTable.ofByte table = some t ∧
      (t.firstAddress ≤ word16 hi lo ∧ word16 hi lo ≤ t.lastAddress) ∧ (area = 0 → s' = s) ∧
      answerQuery fields area s = (tableReply s' (bank == 1#8) t (word16 hi lo) area bank table hi lo, s') := by
  unfold answerQuery
  split
  · next record offset =>
    split
    · next hrecord => exact .inr (.inl ⟨record, offset, rfl, hrecord, rfl⟩)
    · exact .inl rfl
  · next record bank table hi lo =>
    split
    · next hasked =>
      obtain ⟨rfl, hbank⟩ := hasked
      split
      · next t ht =>
        dsimp only
        by_cases hstart : t.firstAddress ≤ word16 hi lo ∧ word16 hi lo ≤ t.lastAddress
        · exact .inr (.inr ⟨bank, table, hi, lo, t, _, rfl, hbank, ht, hstart, fun h0 => if_neg (by omega), if_pos hstart⟩)
        · exact .inl (if_neg hstart)
      · exact .inl rfl
    · exact .inl rfl
  · exact .inl rfl

/-- An answer fits its area (R185). -/
theorem answerQuery_length_le (fields : List Byte) (area : Nat) (s : State) : (answerQuery fields area s).1.length ≤ area := by
  rcases answerQuery_cases fields area s with h | ⟨record, offset, -, -, h⟩ | ⟨bank, table, hi, lo, t, s', -, -, -, -, -, h⟩ <;> rw [h]
  · exact Nat.zero_le _
  · exact recordReply_length_le ..
  · exact tableReply_length_le ..

/-! ### The end of the SELECT bytes -/

/-- These are a RECORD code and all its SELECT bytes (11 section 11.6). -/
def SelectComplete (fields : List Byte) : Prop := (selectBytes (fields.headD 0#8)).map (· + 1) = some fields.length

theorem SelectComplete.nonempty {fields : List Byte} (h : SelectComplete fields) : fields ≠ [] := by
  rintro rfl
  exact nomatch h

/-- The RECORD code alone says how many bytes the fields are: no others with that code are complete. -/
theorem SelectComplete.unique {fields more : List Byte} (h : SelectComplete fields) (h' : SelectComplete (fields ++ more)) : more = [] := by
  obtain ⟨record, select, rfl⟩ := List.exists_cons_of_ne_nil h.nonempty
  have hlen := Option.some.inj (h.symm.trans h')
  rw [List.length_append] at hlen
  exact List.length_eq_zero_iff.mp (by omega)

/-! ### A QUERY in passage -/

theorem queryByte_answered {p : Passage} {b : Byte} {s : State} (htarget : singleTarget p s = true)
    (hselect : SelectComplete (p.payload ++ [b])) :
    queryByte p b s =
      passOn { p with reply := (answerQuery (p.payload ++ [b]) (p.length - (p.payload ++ [b]).length) s).1 } b b
        (answerQuery (p.payload ++ [b]) (p.length - (p.payload ++ [b]).length) s).2 :=
  if_pos ⟨htarget, hselect⟩

theorem queryByte_asGiven {p : Passage} {b : Byte} {s : State}
    (h : ¬(singleTarget p s = true ∧ SelectComplete (p.payload ++ [b]))) : queryByte p b s = passOn p b b s := if_neg h

/-- The passage of a QUERY of this LENGTH behind the payload bytes `bs` that went out as `xs`, no rewrite being in progress. -/
abbrev behindBytes (f : Frame) (length : Nat) (bs xs : List Byte) : Passage := (headerOf .query f length).rewritten bs xs []

theorem behindHeader_length (k : FrameKind) (f : Frame) {n : Nat} (hn : n ≤ Config.maxLength) (bs xs reply : List Byte) :
    ((headerOf k f n).rewritten bs xs reply).length = n := byteOf_toNat hn

theorem behindHeader_got_length (k : FrameKind) (f : Frame) (n : Nat) (bs xs reply : List Byte) :
    ((headerOf k f n).rewritten bs xs reply).got.length = 5 + bs.length := List.length_append

theorem behindBytes_payload (f : Frame) {n : Nat} {bs : List Byte} (hn : n ≤ Config.maxLength) (hlen : bs.length ≤ n) (xs : List Byte) :
    (behindBytes f n bs xs).payload = bs := by
  show bs.take (byteOf n).toNat = bs
  rw [byteOf_toNat hn, List.take_of_length_le hlen]

/-- Behind the last SELECT byte of a QUERY for this station, the answer is what the rest of the area will hold (R185). -/
theorem payloadByte_query_answered {f : Frame} {n : Nat} {bs : List Byte} {b : Byte} {s : State} (hn : n ≤ Config.maxLength)
    (hlen : bs.length < n) (hown : ownTarget f s = true) (hselect : SelectComplete (bs ++ [b])) (xs sent : List Byte) :
    payloadByte (behindBytes f n bs xs) b (passingFree s (behindBytes f n bs xs) sent) =
      passOn { behindBytes f n bs xs with reply := (answerQuery (bs ++ [b]) (n - (bs.length + 1)) s).1 } b b
        (passingFree (answerQuery (bs ++ [b]) (n - (bs.length + 1)) s).2 (behindBytes f n bs xs) sent) := by
  have hlength := behindHeader_length .query f hn bs xs []
  have hpayload := behindBytes_payload f hn hlen.le xs
  have hanswer := queryByte_answered (p := behindBytes f n bs xs) (b := b) (s := passingFree s (behindBytes f n bs xs) sent) hown
    (by rwa [hpayload])
  rw [hpayload, hlength, answerQuery_passingFree, List.length_append, List.length_singleton] at hanswer
  exact hanswer

/-- A byte of a QUERY that brings no answer about goes out as it came (R12, R185). -/
theorem payloadByte_query_asGiven {f : Frame} {n : Nat} {bs : List Byte} {b : Byte} {s : State} (hn : n ≤ Config.maxLength)
    (hlen : bs.length < n)
    (hnone : ownTarget f s = true → SelectComplete (bs ++ [b]) → answerQuery (bs ++ [b]) (n - (bs.length + 1)) s = ([], s))
    (xs sent : List Byte) :
    payloadByte (behindBytes f n bs xs) b (passingFree s (behindBytes f n bs xs) sent) =
      passOn (behindBytes f n bs xs) b b (passingFree s (behindBytes f n bs xs) sent) := by
  by_cases h : ownTarget f s = true ∧ SelectComplete (bs ++ [b])
  · obtain ⟨hown, hselect⟩ := h
    rw [payloadByte_query_answered hn hlen hown hselect, hnone hown hselect]
    rfl
  · exact queryByte_asGiven (by rwa [behindBytes_payload f hn hlen.le xs])

/-- Bytes of a QUERY none of which brings an answer about go out as they came. -/
theorem rxBytes_query_asGiven {f : Frame} {n : Nat} {pre bs : List Byte} {s : State} (hn : n ≤ Config.maxLength)
    (hlen : pre.length + bs.length ≤ n)
    (hnone : ∀ mid b post, bs = mid ++ b :: post → ownTarget f s = true → SelectComplete (pre ++ mid ++ [b]) →
      answerQuery (pre ++ mid ++ [b]) (n - (pre.length + mid.length + 1)) s = ([], s))
    (xs sent : List Byte) :
    rxBytes bs (passing s (behindBytes f n pre xs) sent) = passing s (behindBytes f n (pre ++ bs) (xs ++ bs)) (sent ++ bs) := by
  have hlength : (behindBytes f n pre xs).length = n := behindHeader_length _ _ hn ..
  have hgot : (behindBytes f n pre xs).got.length = 5 + pre.length := behindHeader_got_length ..
  have hpass := rxBytes_asGiven bs (behindBytes f n pre xs) sent s rfl (by omega) (by omega) rfl fun mid b post hsplit => by
    have hmid : mid.length < bs.length := by simp [hsplit]
    rw [Passage.rewritten_rewritten]
    refine payloadByte_query_asGiven hn (by rw [List.length_append]; omega) (fun hown hselect => ?_) _ _
    rw [List.length_append]
    exact hnone mid b post hsplit hown hselect
  rw [hpass, Passage.rewritten_rewritten]

/-- The RECORD and SELECT bytes of a QUERY for this station go out as they came, and the last of them fixes the reply (R185). -/
theorem rxBytes_query_fields {f : Frame} {n : Nat} {fields : List Byte} {s : State} (hn : n ≤ Config.maxLength) (hlen : fields.length ≤ n)
    (hown : ownTarget f s = true) (hselect : SelectComplete fields) (sent : List Byte) :
    rxBytes fields (passing s (headerOf .query f n) sent) =
      passing (answerQuery fields (n - fields.length) s).2
        ((headerOf .query f n).rewritten fields fields (answerQuery fields (n - fields.length) s).1) (sent ++ fields) := by
  obtain ⟨select, last, rfl⟩ : ∃ select last, fields = select ++ [last] := by
    simpa using (List.eq_nil_or_concat fields).resolve_left hselect.nonempty
  rw [List.length_append, List.length_singleton] at hlen ⊢
  have hlength : (behindBytes f n select select).length = n := behindHeader_length _ _ hn ..
  have hgot : (behindBytes f n select select).got.length = 5 + select.length := behindHeader_got_length ..
  have hbefore : rxBytes select (passing s (headerOf .query f n) sent) = passing s (behindBytes f n select select) (sent ++ select) := by
    refine rxBytes_query_asGiven (pre := []) hn (by rw [List.length_nil]; omega) (fun mid b post hsplit _ hmid => ?_) [] sent
    have hmore := hmid.unique (more := post ++ [last]) (by simpa [hsplit] using hselect)
    exact absurd hmore (by simp)
  rw [rxBytes_append, hbefore, rxBytes_payloadByte rfl (by omega) (by omega) (payloadByte_query_answered hn hlen hown hselect ..),
    Passage.rewritten_rewritten, List.append_assoc]

/-- The reply to a QUERY goes out in the area, and what is left of the area as it came (R185). -/
theorem rxBytes_query_area {f : Frame} {n : Nat} {fields area reply : List Byte} {s : State} (hn : n ≤ Config.maxLength)
    (hlen : fields.length + area.length ≤ n) (hselect : SelectComplete fields) (hreply : reply.length ≤ area.length) (sent : List Byte) :
    rxBytes area (passing s ((headerOf .query f n).rewritten fields fields reply) sent) =
      passing s (behindBytes f n (fields ++ area) (fields ++ reply ++ area.drop reply.length))
        (sent ++ (reply ++ area.drop reply.length)) := by
  let replaced := area.take reply.length
  let rest := area.drop reply.length
  have hreplaced : replaced.length = reply.length := by rw [List.length_take, Nat.min_eq_left hreply]
  have hparts : replaced ++ rest = area := List.take_append_drop ..
  have hsum : replaced.length + rest.length = area.length := by rw [← List.length_append, hparts]
  have hgot := behindHeader_got_length .query f n fields fields reply
  have hlength := behindHeader_length .query f hn fields fields reply
  have hwritten := rxBytes_reply replaced reply ((headerOf .query f n).rewritten fields fields reply) sent s rfl (by omega)
    (by omega) rfl hreplaced.symm
  have hkept := rxBytes_query_asGiven (f := f) (pre := fields ++ replaced) (bs := rest) (s := s) hn
    (by rw [List.length_append]; omega) (fun mid b post _ _ hmid => by
      have hmore := hselect.unique (more := replaced ++ mid ++ [b]) (by simpa using hmid)
      exact absurd hmore (by simp)) (fields ++ reply) (sent ++ reply)
  rw [← hparts, rxBytes_append, hwritten, Passage.rewritten_rewritten, hkept, hparts, List.append_assoc fields, hparts,
    List.append_assoc sent]

/-- A good QUERY whose payload went out as `xs`, the part then standing as `s'`. -/
theorem exec_query {f : Frame} {payload xs : List Byte} {s s' : State} (h : ArrivesWhole f payload s) (hgood : CheckGood f .query payload)
    (hxs : xs.length = payload.length)
    (hrx : rxBytes payload (passing s (headerOf .query f payload.length) (sentHeader .query f payload.length)) =
      passing s' (wholePassage .query f payload xs []) (sentHeader .query f payload.length ++ xs)) :
    ∃ t, exec (.query f payload) s = .next t ∧ t.out.sent = sentBytes f .query xs ∧ t.offLine = s'.offLine := by
  obtain ⟨t, u, hexec, hu, hoff, hsent⟩ := exec_rewrittenFrame h hgood rfl hxs (lengthRight_of_open _ rfl)
    (rxBytes_behindHeader (by simp) (payload_length_le h) hrx)
  exact ⟨t, hexec, hsent, hoff.trans hu⟩

/-- A good QUERY none of whose bytes brings an answer about passes as it came and changes nothing (R12, R185). -/
theorem exec_query_asGiven {f : Frame} {payload : List Byte} {s : State} (h : ArrivesWhole f payload s)
    (hgood : CheckGood f .query payload)
    (hnone : ∀ fields b post, payload = fields ++ b :: post → ownTarget f s = true → SelectComplete (fields ++ [b]) →
      answerQuery (fields ++ [b]) post.length s = ([], s)) :
    ∃ t, exec (.query f payload) s = .next t ∧ t.out.sent = sentBytes f .query payload ∧ t.offLine = s.offLine := by
  have hn := payload_length_le h
  refine exec_query h hgood rfl (rxBytes_query_asGiven (pre := []) hn (by simp) (fun fields b post hsplit hown hselect => ?_) [] _)
  have harea : payload.length - (([] : List Byte).length + fields.length + 1) = post.length := by
    rw [hsplit, List.length_append, List.length_cons, List.length_nil]
    omega
  rw [harea]
  exact hnone fields b post hsplit hown hselect

theorem answerQuery_idle {s : State} (h : s.disp.mirrorBusy = false) (fields : List Byte) (area : Nat) :
    (answerQuery fields area s).2 = s := by
  have hlook : lookAtMirror s = s := if_neg (by simp [h])
  rcases answerQuery_state fields area s with hstate | hstate
  · exact hstate
  · exact hstate.trans hlook

theorem range_of_selectBytes_one {record : Byte} (h : selectBytes record = some 1) : 1 ≤ record.toNat ∧ record.toNat ≤ 4 := by
  unfold selectBytes at h
  split_ifs at h with hrange
  · exact hrange
  · exact nomatch h

theorem recordOf_length {record : Byte} (h1 : 1 ≤ record.toNat) (h4 : record.toNat ≤ 4) (s : State) :
    (recordOf record s).length =
      if record.toNat = 1 then 37 else if record.toNat = 2 then 17 else if record.toNat = 3 then 18 else 40 := by
  obtain rfl | rfl | rfl | rfl : record = 1#8 ∨ record = 2#8 ∨ record = 3#8 ∨ record = 4#8 := by bv_omega
  · rfl
  · exact attentionRecord_length s.attn
  · exact countersRecord_length s.attn
  · rfl

/-- A start within the table that the code names, in the terms of 11 section 11.4. -/
theorem LoadTable.inTable {table : Byte} {t : LoadTable} {start : Nat} (ht : LoadTable.ofByte table = some t)
    (hstart : t.firstAddress ≤ start ∧ start ≤ t.lastAddress) :
    (table.toNat = 1 ∧ 1 ≤ start ∧ start ≤ 239) ∨ (table.toNat = 2 ∧ start ≤ 479) ∨ (table.toNat = 3 ∧ start ≤ 16) := by
  unfold LoadTable.ofByte at ht
  split_ifs at ht with h1 h2 h3
  · obtain rfl := Option.some.inj ht
    exact .inl ⟨congrArg BitVec.toNat h1, hstart⟩
  · obtain rfl := Option.some.inj ht
    exact .inr (.inl ⟨congrArg BitVec.toNat h2, hstart.2⟩)
  · obtain rfl := Option.some.inj ht
    exact .inr (.inr ⟨congrArg BitVec.toNat h3, hstart.2⟩)

/-- A QUERY that R185 and R186 leave unanswered has an empty reply and changes nothing. -/
theorem answerQuery_unanswered {fields area : List Byte} (h : queryUnanswered (fields ++ area) = true) (s : State) :
    answerQuery fields area.length s = ([], s) := by
  rcases answerQuery_cases fields area.length s with hnone | ⟨record, offset, rfl, hrecord, hreply⟩ |
    ⟨bank, table, hi, lo, t, s', rfl, hbank, ht, hstart, hstate, hreply⟩
  · exact hnone
  · obtain ⟨h1, h4⟩ := range_of_selectBytes_one hrecord
    have hrefused := of_decide_eq_true ((if_neg (show record.toNat ≠ 5 by omega)).symm.trans h)
    rw [hreply, recordReply_nil]
    rw [recordOf_length h1 h4]
    rcases hrefused with hzero | habove | hempty | hoffset
    · exact absurd hzero (show record.toNat ≠ 0 by omega)
    · exact absurd habove (show ¬5 < record.toNat by omega)
    · exact .inr (Nat.le_zero.mp (Nat.le_of_add_le_add_right (b := 2) hempty))
    · exact .inl hoffset
  · rcases of_decide_eq_true h with hempty | hrefused | hrefused
    · have harea : area.length = 0 := Nat.le_zero.mp (Nat.le_of_add_le_add_right (b := 5) hempty)
      rw [hreply, hstate harea, harea]
      rfl
    · exact absurd hbank (Nat.not_le_of_lt hrefused)
    · exact absurd (LoadTable.inTable ht hstart) hrefused

/-- Settles O11: the fields pass and fix the reply, which the area then holds; a QUERY that is not for this station, or that R186 leaves
unanswered, passes byte by byte as it came. -/
theorem queryAnsweredInPassing : Obligations.QueryAnsweredInPassing := by
  unfold Obligations.QueryAnsweredInPassing
  refine ⟨fun f fields area s h hgood hown hselect => ?_, fun f payload s h hgood hown => ?_, fun f payload s h hgood hnone => ?_⟩
  · let answer := answerQuery fields area.length s
    let sent := sentHeader .query f (fields ++ area).length
    have hlen : (fields ++ area).length = fields.length + area.length := List.length_append
    have hfits : answer.1.length ≤ area.length := answerQuery_length_le ..
    have hfields := rxBytes_query_fields (n := (fields ++ area).length) (payload_length_le h) (by omega) hown hselect sent
    rw [show (fields ++ area).length - fields.length = area.length by omega] at hfields
    have hpayload := (congrArg _ hfields).trans (rxBytes_query_area (payload_length_le h) hlen.ge hselect hfits _)
    rw [← rxBytes_append, List.append_assoc sent, ← List.append_assoc fields] at hpayload
    obtain ⟨t, hexec, hsent, hoff⟩ := exec_query (xs := fields ++ answer.1 ++ area.drop answer.1.length) h hgood
      (by simp only [List.length_append, List.length_drop]; omega) hpayload
    refine ⟨t, hexec, hsent, hoff, fun hidle => hoff.trans ?_⟩
    rw [answerQuery_idle hidle]
  · exact exec_query_asGiven h hgood fun _ _ _ _ hown' => absurd (hown.symm.trans hown') nofun
  · exact exec_query_asGiven h hgood fun fields b post hsplit _ _ =>
      answerQuery_unanswered (by rwa [List.append_assoc, List.singleton_append, ← hsplit]) s

end Sys2Proof.Machine

-- ==== Sys2Proof/Proofs/FrontOfQueue.lean ====
/-! PROOF. A step by the queue it finds: the command at the front, or none (log 1). -/

namespace Sys2Proof.Machine

open Sys2Proof (Instr)

theorem step_of_pending_cons {c : Instr} {rest : List Instr} {s : State} (h : s.pending = c :: rest) :
    step s = exec c { s with pending := rest } := by
  unfold step
  rw [h]

theorem step_of_pending_nil {s : State} (h : s.pending = []) : step s = .next s := by
  unfold step
  rw [h]

/-- Settles O1, by whether a command stands in the queue. -/
theorem stepTakesFrontCommand : Obligations.StepTakesFrontCommand := by
  unfold Obligations.StepTakesFrontCommand
  exact ⟨fun _ _ _ => step_of_pending_cons, fun _ => step_of_pending_nil⟩

end Sys2Proof.Machine
